-- ==== Sys2Proof/Word.lean ====
section
/-! DEFINITION. The word types of the module and their plainest arithmetic. -/

namespace Sys2Proof

/-- A byte (spec 00, R2). -/
abbrev Byte := BitVec 8
/-- A 32-bit register of the management window (spec 20, R416). -/
abbrev Word := BitVec 32
/-- A 16-byte slot of a YD flit (spec 02, R37). -/
abbrev Slot := BitVec 128
/-- A 64-byte line of memory, byte 0 in bits [7:0] (spec 00, R2 and R3). -/
abbrev Line := BitVec 512

/-- Logical port number (spec 02, R25). -/
abbrev PortId := Fin 256
/-- Context number (spec 14, Contexts). -/
abbrev CtxId := Fin 4096
/-- Core number (spec 08, R181). -/
abbrev CoreId := Fin 128
/-- HBM stack, port die or compute die number (spec 01). -/
abbrev DieId := Fin 8
/-- FEID of an endpoint (spec 00, glossary). -/
abbrev Feid := BitVec 16
/-- 12-bit device ID (spec 02, R36). -/
abbrev DevId := BitVec 12

/-- Bits [hi:lo] of a natural number (spec 00, R3). -/
def bits (n hi lo : Nat) : Nat := (n >>> lo) % 2 ^ (hi + 1 - lo)

/-- Bit i of a natural number. -/
def bit (n i : Nat) : Bool := n.testBit i

/-- A Bool as a number, 1 for true. -/
def b2n (b : Bool) : Nat := if b then 1 else 0

end Sys2Proof
end

