-- ==== Sys2Proof/Syntax.lean ====
section
/-! DEFINITION. The commands of the module: one constructor of Instr for each row of spec/opcode_table.json,
in the table's order, with the operands the command carries. The rows give no operands of their own; an operand
here is what the row's rule says the event brings (a message's fields, the outcome of a check made outside the
model such as a signature, a timer's object). -/

namespace Sys2Proof

/-- The management path of an access (spec 02, R53); a tenant access comes through a MGMT route entry (spec 14, R330). -/
inductive Path where
  | bar0
  | eth
  | i3c
  | tenant (p : PortId)
deriving DecidableEq, Repr

/-- Block types, one page kind each (spec 20, R414), and the window-control registers of R428 as `win`. -/
inductive Block where
  | dev | clk | pwr | rst | fw | pocket | sec | live | map | home | repl | pub | atom | tier | pref | cmpr
  | keys | coll | qos | pmon | win | port | core | filt | hbm | cdie | pdie | ctx
deriving DecidableEq, Repr

/-- A register page: a block and which of its several pages (0 for a global page). -/
structure Page where
  blk  : Block
  inst : Nat := 0
deriving DecidableEq, Repr

/-- Header slot of a YD message without its opcode and DLEN, which the command and its data give (spec 02, R39). -/
structure Hdr where
  poison : Bool := false
  tc     : BitVec 4 := 0
  dst    : Feid
  src    : Feid
  tag    : BitVec 16
  arg    : BitVec 64 := 0
deriving DecidableEq, Repr

/-- Fields of a LIVE message (spec 15, R340). -/
structure LiveMsg where
  isPort  : Bool := false
  cause   : BitVec 3
  subject : BitVec 16
  incarn  : BitVec 16
  origin  : DevId
  subjDev : DevId := 0
  jury    : BitVec 8 := 0
  count   : BitVec 16 := 0
  ts      : BitVec 64 := 0
deriving DecidableEq, Repr

/-- Fields of a HANDOFF message beside its kind (spec 03, R77). -/
structure HandMsg where
  src     : Feid
  status  : BitVec 8 := 0
  xfer    : BitVec 32
  sumAddr : BitVec 64 := 0
  sumLen  : BitVec 32 := 0
  queued  : BitVec 32 := 0
  dst     : Option Feid := none
deriving DecidableEq, Repr

/-- ARG fields common to the STITCH_KEY kinds (spec 12, R288). -/
structure StitchHdr where
  src    : Feid
  tag    : BitVec 16 := 0
  slot   : BitVec 8
  pos    : BitVec 2
  chain  : BitVec 8
  status : BitVec 8 := 0
  dst    : Option Feid := none
deriving DecidableEq, Repr

/-- One match of a filter lookup (spec 12, R288). -/
structure Match where
  index : Nat
  data  : Word
  prio  : BitVec 8
deriving DecidableEq, Repr

/-- How a trigger write reaches the device (spec 09, R208). -/
inductive Via where
  | yd
  | cxlMem
  | cxlIo
deriving DecidableEq, Repr

/-- How a tray answers an access (spec 06, R148). -/
inductive TrayOutcome where
  | ok
  | poison
  | error
deriving DecidableEq, Repr

/-- A register-window datagram (spec 21, R436 and R437). -/
structure Datagram where
  sumOk   : Bool := true
  srcIp   : BitVec 32
  srcPort : BitVec 16
  ver     : BitVec 8 := 1
  op      : BitVec 8
  outcome : BitVec 8 := 0
  rsvd    : Nat := 0
  tag     : BitVec 32
  addr    : BitVec 26
  countM1 : BitVec 9
  len     : Nat
  data    : List Word := []
deriving DecidableEq, Repr

/-- Who asks on a management path, and the tag the answer echoes (spec 02, R53 and R54). -/
structure Req where
  path : Path
  tag  : Nat := 0
deriving DecidableEq, Repr

/-- What kind of requester an SPDM requester is (spec 14, R325 and R328). -/
inductive Requester where
  | tenant
  | operator
  | linkPartner
deriving DecidableEq, Repr

/-- An SPDM request: its path, its session (0 for none) and its requester's root-certificate digest. -/
structure SpdmReq where
  req     : Req
  session : Nat := 0
  kind    : Requester
  digest  : BitVec 384
deriving DecidableEq, Repr

/-- IDE_KM requests of a link (spec 02, R50 and R51). -/
inductive IdeKm where
  | query
  | keyProg (keySet : Bool)
  | kSetGo (keySet : Bool) (skid : Bool)
  | kSetStop (keySet : Bool)
deriving DecidableEq, Repr

/-- A signed configuration batch (spec 14, R327); the two cryptographic checks come as outcomes. -/
structure Batch where
  keyOk   : Bool
  sigOk   : Bool
  seq     : BitVec 64
  entries : List (Nat × Word)
deriving DecidableEq, Repr

/-- A key-load entry (spec 14, R323); the unwrap comes as an outcome, the unwrapped pair with it. -/
structure KeyLoad where
  session  : Nat
  ctx      : CtxId
  noCmpr   : Bool
  rsvdZero : Bool := true
  keyId    : Word
  unwrapOk : Bool
  pair     : BitVec 512
deriving DecidableEq, Repr

/-- The 380 V feeds (spec 16). -/
inductive Feed where
  | a
  | b
deriving DecidableEq, Repr

/-- What a verifier reads at the optical test port (spec 17, R390). -/
inductive OpticalItem where
  | registers
  | log
  | certificate
deriving DecidableEq, Repr

/-- The commands: one constructor for each row of spec/opcode_table.json, in its order. -/
inductive Instr where
  -- links and Yarlia Direct (spec 02)
  | linkUp (p : PortId) (width rate : BitVec 2) (partnerYd reversed : Bool)
  | linkDown (p : PortId)
  | ydFallback (p : PortId)
  | l1Exit (p : PortId)
  | hotReset (p : PortId)
  | ydFlitRx (p : PortId) (flit : BitVec 2048) (macOk : Bool)
  | ydNakRx (p : PortId) (ack : BitVec 12)
  | credit (p : PortId) (cls : BitVec 2) (n : Nat)
  | init (p : PortId) (feid : Feid) (dev : DevId) (incarn : BitVec 16)
  | hb (p : PortId) (src : Feid) (incarn : BitVec 16) (ndev : BitVec 8)
  | hbSend
  | rd (p : PortId) (h : Hdr)
  | wr (p : PortId) (h : Hdr) (d : Line)
  | wrMask (p : PortId) (h : Hdr) (mask : BitVec 64) (d : Line)
  | rspData (p : PortId) (h : Hdr) (d : Line)
  | rsp (p : PortId) (h : Hdr)
  -- remote atomics, publication (spec 05)
  | atom (p : PortId) (h : Hdr) (slots : List Slot)
  | atomRsp (p : PortId) (h : Hdr) (slots : List Slot)
  | atomAck (p : PortId) (h : Hdr)
  | publish (p : PortId) (h : Hdr) (slots : List Slot)
  | openReq (p : PortId) (h : Hdr) (slots : List Slot)
  | close (p : PortId) (h : Hdr) (slots : List Slot)
  | replReq (p : PortId) (h : Hdr) (slots : List Slot)
  | replInv (p : PortId) (h : Hdr) (slots : List Slot)
  | rgnInv (p : PortId) (h : Hdr) (slots : List Slot)
  | pubRsp (p : PortId) (h : Hdr) (slots : List Slot)
  | trigger (via : Via) (p : PortId) (h : Hdr) (d : Line) (whole : Bool)
  | coll (p : PortId) (h : Hdr) (slots : List Slot)
  | collRes (p : PortId) (h : Hdr) (slots : List Slot)
  | ydFence (p : PortId) (src : Feid)
  -- liveness (spec 15)
  | suspect (p : PortId) (m : LiveMsg)
  | withdraw (p : PortId) (m : LiveMsg)
  | verdict (p : PortId) (m : LiveMsg)
  | rejoin (p : PortId) (m : LiveMsg)
  | rejoinAck (p : PortId) (m : LiveMsg)
  | fenceEntry (p : PortId) (m : LiveMsg)
  -- hand-over (spec 03)
  | give (p : PortId) (m : HandMsg)
  | take (p : PortId) (m : HandMsg)
  | handoffCommit (p : PortId) (m : HandMsg)
  | commitAck (p : PortId) (m : HandMsg)
  -- stitch chain and tuck messages (spec 12)
  | stitchKey (p : PortId) (h : StitchHdr) (all : Bool) (key : BitVec 160)
  | bestRsp (p : PortId) (h : StitchHdr) (hit : Bool) (m : Match) (falseHits : BitVec 8)
  | allRsp (p : PortId) (h : StitchHdr) (last : Bool) (count : BitVec 24) (ms : List Match)
  | tuckContinue (p : PortId) (h : StitchHdr)
  | tuckEntry (p : PortId) (h : StitchHdr) (part : Bool) (half : BitVec 256)
  | tuckAck (p : PortId) (h : StitchHdr)
  | tuckAbortMsg (p : PortId) (h : StitchHdr)
  | stitchFrame (w : Word)
  -- CXL traffic (spec 04, 21)
  | memRd (p : PortId) (tag : BitVec 16) (addr : BitVec 64) (own : Bool) (dpid : Option (BitVec 12) := none)
  | memInv (p : PortId) (tag : BitVec 16) (addr : BitVec 64) (dpid : Option (BitVec 12) := none)
  | memWr (p : PortId) (tag : BitVec 16) (addr : BitVec 64) (d : Line) (mask : BitVec 64) (poison wb : Bool)
    (dpid : Option (BitVec 12) := none)
  | birsp (p : PortId) (addr : BitVec 48) (shared : Bool)
  | biconflict (p : PortId) (tag : BitVec 16) (addr : BitVec 48)
  | cxlIoMemWr (p : PortId) (addr : BitVec 64) (dws : List (Word × BitVec 4)) (poison : Bool)
    (dpid : Option (BitVec 12) := none)
  | cxlIoMemRd (p : PortId) (tag : BitVec 16) (addr : BitVec 64) (len : Nat) (dpid : Option (BitVec 12) := none)
  | atomicOp (p : PortId) (tag : BitVec 16) (addr : BitVec 64) (op : BitVec 4) (size : BitVec 2) (operand swapv : Slot)
    (dpid : Option (BitVec 12) := none)
  | cfgRd (p : PortId) (tag : BitVec 16) (reg : BitVec 12)
  | trayCpl (id : Nat) (r : TrayOutcome)
  | trayTimeout (id : Nat)
  | hostCpl (p : PortId) (tag : BitVec 16) (ok : Bool) (data : List Byte) (dpid : Option (BitVec 12) := none)
  | cplTimeout (p : PortId)
  | ptmExchange (rootTs : BitVec 64)
  | pps
  -- management paths (spec 02, 21)
  | regWindowRead (g : Datagram)
  | regWindowWrite (g : Datagram)
  | netConfigApply
  | identify (q : Req)
  | backgroundOperationStatus (q : Req)
  | getResponseMessageLimit (q : Req)
  | setResponseMessageLimit (q : Req) (limit : BitVec 8)
  | getEventRecords (q : Req)
  | clearEventRecords (q : Req) (all : Bool) (n : Nat)
  | getEventInterruptPolicy (q : Req)
  | setEventInterruptPolicy (q : Req) (v : Word)
  | getSupportedLogs (q : Req)
  | getLog (q : Req) (logId : Nat)
  | identifySwitchDevice (q : Req)
  | getPhysicalPortState (q : Req) (p : PortId)
  | physicalPortControl (q : Req) (p : PortId) (op : BitVec 8)
  | sendPpbCxlIoConfigRequest (q : Req) (p : PortId) (reg : BitVec 12) (write : Bool) (v : Word)
  | getVirtualCxlSwitchInfo (q : Req) (vcs : BitVec 8)
  | bindVppb (q : Req) (vcs vppb : BitVec 8) (p : PortId)
  | unbindVppb (q : Req) (vcs vppb : BitVec 8)
  | generateAerEvent (q : Req) (vcs vppb : BitVec 8) (err : Word)
  | tunnelManagementCommand (q : Req) (p : PortId) (payload : List Byte)
  | getDcdInfo (q : Req)
  | getHostDcRegionConfiguration (q : Req) (p : PortId)
  | setDcRegionConfiguration (q : Req) (p : PortId) (entries : List (Nat × Word))
  | getDcRegionExtentLists (q : Req) (p : PortId)
  | initiateDynamicCapacityAdd (q : Req) (p : PortId) (extents : List (BitVec 18))
  | initiateDynamicCapacityRelease (q : Req) (p : PortId) (extents : List (BitVec 18))
  | fmapiUnsupported (q : Req) (opcode : BitVec 16)
  | backgroundOperationDone
  -- attestation (spec 14)
  | getVersion (r : SpdmReq)
  | getCapabilities (r : SpdmReq)
  | negotiateAlgorithms (r : SpdmReq)
  | getDigests (r : SpdmReq)
  | getCertificate (r : SpdmReq) (slot : BitVec 1)
  | challenge (r : SpdmReq) (slot : BitVec 1)
  | getMeasurements (r : SpdmReq) (index : BitVec 8)
  | keyExchange (r : SpdmReq)
  | finish (r : SpdmReq) (ok : Bool)
  | heartbeat (r : SpdmReq)
  | keyUpdate (r : SpdmReq)
  | endSession (r : SpdmReq)
  | vendorDefinedRequest (r : SpdmReq) (p : PortId) (k : IdeKm)
  | spdmUnsupported (r : SpdmReq) (code : BitVec 8)
  | signedBatch (path : Path) (b : Batch)
  -- pages and registers (spec 20)
  | pageEnable (path : Path) (g : Page)
  | enableCheckDone (g : Page) (selfTestOk : Bool)
  | pageDisable (path : Path) (g : Page)
  | pageQuiesce (path : Path) (g : Page)
  | pageQuiesceRelease (path : Path) (g : Page)
  | blockQuiesced (g : Page)
  | pageSoftReset (path : Path) (g : Page)
  | softResetDone (g : Page)
  | pageLock (path : Path) (g : Page)
  | pgErrInj (path : Path) (g : Page) (v : Word)
  | registerWrite (path : Path) (addr : BitVec 26) (v : Word) (be : BitVec 4)
  | loReadLatch (path : Path) (addr : BitVec 26)
  | tableWindowRead (path : Path) (addr : BitVec 26)
  | tableWindowWrite (path : Path) (addr : BitVec 26) (v : Word)
  -- the composition map (spec 03)
  | mapCommit (path : Path)
  | commitCheckDone
  | dcdRelease (p : PortId) (extent : BitVec 18)
  | pendingReloadDone
  | mapXfer (path : Path) (extent : BitVec 18) (slice : BitVec 8)
  | epochRetire
  | drainExpiry
  | giveReady (extent : BitVec 18)
  | summaryStored (extent : BitVec 18)
  | handoffRetransmit (extent : BitVec 18)
  | handoffLimit (extent : BitVec 18)
  -- the home (spec 04)
  | memReadDone (id : Nat)
  | snoopTimeout (p : PortId) (addr : BitVec 48)
  | dirMirrorRebuilt
  | replWindowEnd
  | replFillDone (page : BitVec 36)
  | replInvRetransmit (page : BitVec 36)
  -- regions (spec 05)
  | pubCreate (path : Path)
  | pubDestroy (path : Path)
  | pubRingTail (path : Path) (tail : BitVec 20)
  | rgnInvRetransmit (region : Word)
  | publishListRead (src : Feid) (tag : BitVec 16) (entries : List Word) (poison : Bool)
  -- tiers and prefetch (spec 06)
  | tierWindowEnd
  | tierMoveDone (page : BitVec 32)
  | wbTimer (unit : BitVec 36)
  | writebackDone (unit : BitVec 36)
  | coldTimer (page : BitVec 32)
  | packDone (page : BitVec 32)
  | t4Timer (page : BitVec 32)
  | t4CopyDone (page : BitVec 32)
  | expandDone (page : BitVec 32)
  | prefRegister (path : Path) (c : CtxId) (sched : BitVec 6)
  | prefUnregister (path : Path) (c : CtxId) (sched : BitVec 6)
  | stepSet (path : Path) (c : CtxId) (sched : BitVec 6) (step : BitVec 12)
  | stepAdvance (path : Path) (c : CtxId) (sched : BitVec 6)
  | prefDeadline (c : CtxId) (sched : BitVec 6)
  | prefStageDone (c : CtxId) (sched : BitVec 6) (page : BitVec 32)
  | tierRebuild (path : Path) (extent : BitVec 18)
  | rebuildDone
  | hbmStackFail (s : DieId)
  | smapInitDone (extent : BitVec 18)
  -- descriptors (spec 08, 09, 10)
  | coreDispatch (c : CoreId)
  | descFetchDone (c : CoreId)
  | gather (c : CoreId)
  | scatter (c : CoreId)
  | copy (c : CoreId)
  | filter (c : CoreId)
  | score (c : CoreId)
  | topk (c : CoreId)
  | attnPartial (c : CoreId)
  | merge (c : CoreId)
  | reduceLocal (c : CoreId)
  | moeDispatch (c : CoreId)
  | moeCombine (c : CoreId)
  | compress (c : CoreId)
  | expand (c : CoreId)
  | atomicBatch (c : CoreId)
  | fence (c : CoreId)
  | signal (c : CoreId)
  | wait (c : CoreId)
  | step (c : CoreId)
  | nop (c : CoreId)
  | descCommit (c : CoreId)
  | waitRecheck (x : CtxId) (proc : Nat)
  | waitLimit (x : CtxId) (proc : Nat)
  | remoteAccessTimeout (c : CoreId)
  | completionRecord (x : CtxId) (proc : Nat)
  | counterIncrement (x : CtxId) (proc : Nat)
  | ctxPause (path : Path) (x : CtxId) (pause : Bool)
  | preemptCheck (c : CoreId)
  | preemptSaveDone (c : CoreId)
  | restoreDone (c : CoreId)
  | coreFault (c : CoreId) (cause : BitVec 4)
  | coreWatchdog (c : CoreId)
  | replayStart (c : CoreId)
  | coreInjArm (path : Path) (c : CoreId) (cause : BitVec 2)
  | pstateDwell (c : CoreId)
  | pstateExitDone (c : CoreId)
  -- collectives (spec 11)
  | collDefine (path : Path) (group : BitVec 12)
  | collDelete (path : Path) (group : BitVec 12)
  | collWindowWrite (p : PortId) (group : BitVec 12) (off : BitVec 12) (d : Line) (whole poison : Bool)
  | collLimit (group : BitVec 12)
  -- filter tables (spec 12)
  | tuckArm (path : Path)
  | tuckResume (path : Path)
  | tuckAbort (path : Path)
  | tuckCopy
  | tuckCrossWait
  | tuckRetransmit
  | stitchLapse (slot : BitVec 6)
  | stitchSlotFree (slot : BitVec 6)
  | filtScrub (c : CoreId) (entry : BitVec 14)
  | filtSoftError (c : CoreId) (entry : BitVec 14)
  -- scheduling (spec 13)
  | egressSchedule (p : PortId)
  -- contexts and keys (spec 14)
  | keyLoad (path : Path) (k : KeyLoad)
  | retire (path : Path) (x : CtxId)
  | ctxZeroise (x : CtxId)
  | coolingEnd (x : CtxId)
  | ctxReset (path : Path) (x : CtxId)
  | secBatchGo (path : Path)
  | secBatchReadDone (ok : Bool) (b : Batch)
  -- liveness timers and commands (spec 15)
  | hbIntervalEnd
  | suspectResend (feid : Feid)
  | liveIdExpire (kind : BitVec 8) (m : LiveMsg)
  | declare (path : Path) (isPort : Bool) (port : BitVec 8) (feid : Feid)
  | forget (path : Path) (feid : Feid)
  | selfFence (path : Path)
  | rejoinResend
  | flushDone
  | progSnap (path : Path)
  | progClear (path : Path)
  -- power, clocks, reset (spec 16)
  | feedGood (f : Feed)
  | feedBad (f : Feed)
  | feedReturn
  | holdupEnd
  | pwrCapStep (watts : BitVec 16)
  | pwrPeak (watts : BitVec 16)
  | thermStep (die : BitVec 5) (tempC : BitVec 8)
  | thermalTrip (die : BitVec 5)
  | refclkLoss
  | refclkReturn
  | hbmSrEnter (s : DieId)
  | devReset (path : Path)
  | flushReset (path : Path)
  | devResetN (lowNs : Nat)
  | resetNLongLow
  | por
  | bootRomStart
  | hbmTrainingDone (s : DieId) (ok : Bool)
  | calibrationDone (d : DieId) (failed : BitVec 128)
  | ready
  | bootFailure
  | readyTimeout
  -- firmware (spec 18)
  | stage (path : Path)
  | stageDone (code : BitVec 16) (svn : BitVec 7) (major minor : Byte)
  | activate (path : Path)
  | commitSvn (path : Path)
  | settingsSave (path : Path)
  | settingsSaveDone (ok : Bool)
  | dieLinkLoss (d : DieId) (compute : Bool)
  -- fault injection (spec 21)
  | txCrc (path : Path) (p : PortId)
  | txByte (path : Path) (p : PortId)
  | rxCrc (path : Path) (p : PortId)
  | hbmInjCe (path : Path) (s : DieId)
  | hbmInjUe (path : Path) (s : DieId)
  -- the Pocket (spec 17)
  | pocketPeriodic
  | sealBreak
  | pocketRing (path : Path)
  | pocketSignDone (r s : BitVec 256)
  | pocketMirrorWrite (mwhA mwhB : Nat)
  | pocketAliveTimeout
  | pocketPowerLoss
  | pocketPulse
  | opticalPortRead (what : OpticalItem)
  | rtcAdjust (seconds : BitVec 64)
  -- performance monitoring (spec 19)
  | pmonFreeze (path : Path)
  | pmonUnfreeze (path : Path)
  | clearAll (path : Path)
  | counterLoad (path : Path) (i : BitVec 8) (hi : BitVec 16)
  | smpEnable (path : Path)
  -- the rows the table adds at its end
  | l1Entry (p : PortId)
  | l0pWidthChange (p : PortId) (width : BitVec 2)
  | netLinkChange (up : Bool)
  | ptmUnlock
  | devResetNRelease
  | pocketPowerUp
  | xtalFault
  | overrange (f : Feed)
deriving DecidableEq, Repr

end Sys2Proof
end

