-- ==== Sys2Proof/WellFormed.lean ====
section
/-! DEFINITION. WellFormed: commands whose operands the hardware can meet. A message that a sender forms wrongly is a command
too (its meaning discards or refuses it); what is ruled out here is an operand no link, path or sensor can deliver. -/

namespace Sys2Proof

/-- A CXL.mem address names a line (spec 00 R2). -/
def lineAligned (a : BitVec 64) : Bool := a.toNat % 64 == 0

/-- Whether a command's operands are ones the hardware can meet: a rate code PCIe 7.0 lists (spec 02 R26), credits of a class that
uses them (R42), line-aligned CXL.mem addresses, a CXL.io request within 4 KiB, chunk-aligned window writes (11 R259), at most two
matches a message (12 R288), a fault cause of R200, a die code of PWR_TEMP, at most 1,024 list entries (05 R106), dword-aligned
register accesses (20 R416). -/
def wellFormed : Instr → Bool
  | .linkUp _ _ rate _ _ => rate != 3
  | .credit _ cls n => cls != 0 && n != 0
  | .allRsp _ _ _ _ ms => ms.length ≤ 2
  | .memRd _ _ a _ _ => lineAligned a
  | .memInv _ _ a _ => lineAligned a
  | .memWr _ _ a _ _ _ _ _ => lineAligned a
  | .birsp _ a _ => a.toNat % 64 == 0
  | .biconflict _ _ a => a.toNat % 64 == 0
  | .cxlIoMemWr _ a dws _ _ => a.toNat % 4 == 0 && 1 ≤ dws.length && a.toNat % 4096 + 4 * dws.length ≤ 4096
  | .cxlIoMemRd _ _ a len _ => 1 ≤ len && a.toNat % 4096 + len ≤ 4096
  | .hostCpl _ _ _ data _ => data.length ≤ 4096
  | .registerWrite _ a _ _ => a.toNat % 4 == 0
  | .loReadLatch _ a => a.toNat % 4 == 0
  | .tableWindowRead _ a => a.toNat % 4 == 0
  | .tableWindowWrite _ a _ => a.toNat % 4 == 0
  | .snoopTimeout _ a => a.toNat % 64 == 0
  | .publishListRead _ _ es _ => es.length ≤ 1024
  | .coreFault _ cause => 1 ≤ cause.toNat && cause.toNat ≤ 4
  | .collWindowWrite _ _ off _ _ _ => off.toNat % 64 == 0
  | .thermStep die _ => die.toNat ≤ 24
  | .thermalTrip die => die.toNat ≤ 24
  | .linkDown _ | .ydFallback _ | .l1Exit _ | .hotReset _ | .ydFlitRx _ _ _ | .ydNakRx _ _ | .init _ _ _ _ | .hb _ _ _ _
  | .hbSend | .rd _ _ | .wr _ _ _ | .wrMask _ _ _ _ | .rspData _ _ _ | .rsp _ _ | .atom _ _ _ | .atomRsp _ _ _
  | .atomAck _ _ | .publish _ _ _ | .openReq _ _ _ | .close _ _ _ | .replReq _ _ _ | .replInv _ _ _ | .rgnInv _ _ _
  | .pubRsp _ _ _ | .trigger _ _ _ _ _ | .coll _ _ _ | .collRes _ _ _ | .ydFence _ _ | .suspect _ _ | .withdraw _ _
  | .verdict _ _ | .rejoin _ _ | .rejoinAck _ _ | .fenceEntry _ _ | .give _ _ | .take _ _ | .handoffCommit _ _
  | .commitAck _ _ | .stitchKey _ _ _ _ | .bestRsp _ _ _ _ _ | .tuckContinue _ _ | .tuckEntry _ _ _ _ | .tuckAck _ _
  | .tuckAbortMsg _ _ | .stitchFrame _ | .atomicOp _ _ _ _ _ _ _ _ | .cfgRd _ _ _ | .trayCpl _ _ | .trayTimeout _
  | .cplTimeout _ | .ptmExchange _ | .pps | .regWindowRead _ | .regWindowWrite _ | .netConfigApply | .identify _
  | .backgroundOperationStatus _ | .getResponseMessageLimit _ | .setResponseMessageLimit _ _ | .getEventRecords _
  | .clearEventRecords _ _ _ | .getEventInterruptPolicy _ | .setEventInterruptPolicy _ _ | .getSupportedLogs _
  | .getLog _ _ | .identifySwitchDevice _ | .getPhysicalPortState _ _ | .physicalPortControl _ _ _
  | .sendPpbCxlIoConfigRequest _ _ _ _ _ | .getVirtualCxlSwitchInfo _ _ | .bindVppb _ _ _ _ | .unbindVppb _ _ _
  | .generateAerEvent _ _ _ _ | .tunnelManagementCommand _ _ _ | .getDcdInfo _ | .getHostDcRegionConfiguration _ _
  | .setDcRegionConfiguration _ _ _ | .getDcRegionExtentLists _ _ | .initiateDynamicCapacityAdd _ _ _
  | .initiateDynamicCapacityRelease _ _ _ | .fmapiUnsupported _ _ | .backgroundOperationDone | .getVersion _
  | .getCapabilities _ | .negotiateAlgorithms _ | .getDigests _ | .getCertificate _ _ | .challenge _ _
  | .getMeasurements _ _ | .keyExchange _ | .finish _ _ | .heartbeat _ | .keyUpdate _ | .endSession _
  | .vendorDefinedRequest _ _ _ | .spdmUnsupported _ _ | .signedBatch _ _ | .pageEnable _ _ | .enableCheckDone _ _
  | .pageDisable _ _ | .pageQuiesce _ _ | .pageQuiesceRelease _ _ | .blockQuiesced _ | .pageSoftReset _ _
  | .softResetDone _ | .pageLock _ _ | .pgErrInj _ _ _ | .mapCommit _ | .commitCheckDone | .dcdRelease _ _
  | .pendingReloadDone | .mapXfer _ _ _ | .epochRetire | .drainExpiry | .giveReady _ | .summaryStored _
  | .handoffRetransmit _ | .handoffLimit _ | .memReadDone _ | .dirMirrorRebuilt | .replWindowEnd | .replFillDone _
  | .replInvRetransmit _ | .pubCreate _ | .pubDestroy _ | .pubRingTail _ _ | .rgnInvRetransmit _ | .tierWindowEnd
  | .tierMoveDone _ | .wbTimer _ | .writebackDone _ | .coldTimer _ | .packDone _ | .t4Timer _ | .t4CopyDone _
  | .expandDone _ | .prefRegister _ _ _ | .prefUnregister _ _ _ | .stepSet _ _ _ _ | .stepAdvance _ _ _ | .prefDeadline _ _
  | .prefStageDone _ _ _ | .tierRebuild _ _ | .rebuildDone | .hbmStackFail _ | .smapInitDone _ | .coreDispatch _
  | .descFetchDone _ | .gather _ | .scatter _ | .copy _ | .filter _ | .score _ | .topk _ | .attnPartial _ | .merge _
  | .reduceLocal _ | .moeDispatch _ | .moeCombine _ | .compress _ | .expand _ | .atomicBatch _ | .fence _ | .signal _
  | .wait _ | .step _ | .nop _ | .descCommit _ | .waitRecheck _ _ | .waitLimit _ _ | .remoteAccessTimeout _
  | .completionRecord _ _ | .counterIncrement _ _ | .ctxPause _ _ _ | .preemptCheck _ | .preemptSaveDone _ | .restoreDone _
  | .coreWatchdog _ | .replayStart _ | .coreInjArm _ _ _ | .pstateDwell _ | .pstateExitDone _ | .collDefine _ _
  | .collDelete _ _ | .collLimit _ | .tuckArm _ | .tuckResume _ | .tuckAbort _ | .tuckCopy | .tuckCrossWait
  | .tuckRetransmit | .stitchLapse _ | .stitchSlotFree _ | .filtScrub _ _ | .filtSoftError _ _ | .egressSchedule _
  | .keyLoad _ _ | .retire _ _ | .ctxZeroise _ | .coolingEnd _ | .ctxReset _ _ | .secBatchGo _ | .secBatchReadDone _ _
  | .hbIntervalEnd | .suspectResend _ | .liveIdExpire _ _ | .declare _ _ _ _ | .forget _ _ | .selfFence _ | .rejoinResend
  | .flushDone | .progSnap _ | .progClear _ | .feedGood _ | .feedBad _ | .feedReturn | .holdupEnd | .pwrCapStep _
  | .pwrPeak _ | .refclkLoss | .refclkReturn | .hbmSrEnter _ | .devReset _ | .flushReset _ | .devResetN _ | .resetNLongLow
  | .por | .bootRomStart | .hbmTrainingDone _ _ | .calibrationDone _ _ | .ready | .bootFailure | .readyTimeout | .stage _
  | .stageDone _ _ _ _ | .activate _ | .commitSvn _ | .settingsSave _ | .settingsSaveDone _ | .dieLinkLoss _ _ | .txCrc _ _
  | .txByte _ _ | .rxCrc _ _ | .hbmInjCe _ _ | .hbmInjUe _ _ | .pocketPeriodic | .sealBreak | .pocketRing _
  | .pocketSignDone _ _ | .pocketMirrorWrite _ _ | .pocketAliveTimeout | .pocketPowerLoss | .pocketPulse
  | .opticalPortRead _ | .rtcAdjust _ | .pmonFreeze _ | .pmonUnfreeze _ | .clearAll _ | .counterLoad _ _ _ | .smpEnable _
  | .l1Entry _ | .l0pWidthChange _ _ | .netLinkChange _ | .ptmUnlock | .devResetNRelease | .pocketPowerUp | .xtalFault
  | .overrange _ => true

end Sys2Proof
end

