-- ==== Sys2Proof/Decode.lean ====
section
/-! DEFINITION. Decode: the rows of spec/opcode_table.json give no bits, so no word spells a command. The words the module does
receive, YD flits and register words, are decoded where a command brings them (Machine/Flit.lean, Machine/Mgmt.lean). -/

namespace Sys2Proof

/-- The command a word spells by the table's bits: none, since no row of the table gives bits. -/
def decodeTableWord (_nbits _w : Nat) : Option Instr := none

end Sys2Proof
end

