-- ==== Sys2Proof/Config.lean ====
section
/-! DEFINITION. What the spec leaves open: values without a body, so that no proof can see them (the assumption log
names each), and the few sizes an implementation fixes. -/

namespace Sys2Proof

/-- A fresh free value: applied to the counter State.free, which each use advances. -/
opaque Config.freeValue : Nat → Nat
/-- Bytes a line decrypts to under a key, generation or address it was not written under (spec 07 R172, R173, R175):
of the stored byte, the line and byte, and the key and generation used. -/
opaque Config.unreadable : Byte → Nat → Nat × Nat → Byte
/-- The set of a line in the directory (spec 04 R81 gives a hash it does not state). -/
opaque Config.dirSet : Nat → Nat
/-- The vector unit's approximate functions of an FP32 pattern (spec 08 R186, R187: results within a stated error). -/
opaque Config.exp2 : Nat → Nat
opaque Config.log2 : Nat → Nat
opaque Config.reciprocal : Nat → Nat
opaque Config.rsqrt : Nat → Nat
/-- A feed's voltage as the front end's own sensor reads it (PWR_VA and PWR_VB, spec 16 R356): of the feed and of how much the
block has answered so far, so that no two readings are bound to agree. -/
opaque Config.feedVolts : Nat → Nat → Nat
/-- The unused nibble of a COMPRESS descriptor's size map, of the descriptor (spec 10 R248 states no value for it). -/
opaque Config.spareNibble : Nat → Nat
/-- Whether a DEV_RESET_N pulse between 200 ns and 1 µs resets the module (spec 22 R456 states only the ends). -/
opaque Config.shortReset : Nat → Bool

end Sys2Proof
end

