-- ==== Sys2Proof/Machine/State.lean ====
section
/-! DEFINITION. State: everything the spec gives the module, as plain data, and State.reset. Registers that software
reads or writes live in `regs` (one home each, unlisted = the reset value of Machine/Regs.lean) unless a read computes
them from the state below; the structures below hold what the spec gives the module beside its registers. -/

namespace Sys2Proof.Machine

/-- A table keyed by a number, keys rising. -/
abbrev Tbl (α : Type) := List (Nat × α)

/-- Messages the device sends (spec 02 R39, 04, 09 R225, 11 R259). -/
inductive Msg where
  /-- A YD message with its opcode, header slot and data slots. -/
  | yd (opc : Byte) (h : Hdr) (slots : List Slot)
  /-- CONTROL flits: INIT, CREDIT, NAK (spec 02 R36, R42, R43). -/
  | ydInit (feid : Feid) (dev : DevId) (incarn : BitVec 16)
  | ydCredit (cls : BitVec 2) (n : Nat)
  | ydNak (ack : BitVec 12)
  /-- A flit ended as a stomp (spec 02 R46): its messages are not delivered. -/
  | ydStomp
  /-- Heartbeat and LIVE, HANDOFF, STITCH_KEY kinds, kept as their fields (spec 15 R336, R340; 03 R77; 12 R288). -/
  | hb (incarn : BitVec 16) (ndev : BitVec 8)
  | live (kind : BitVec 8) (dst : Feid) (m : LiveMsg)
  | handoff (kind : BitVec 8) (dst : Feid) (m : HandMsg)
  | stitchKey (dst : Feid) (h : StitchHdr) (all : Bool) (key : BitVec 160)
  | bestRsp (dst : Feid) (h : StitchHdr) (hit : Bool) (m : Match) (falseHits : BitVec 8)
  | allRsp (dst : Feid) (h : StitchHdr) (last : Bool) (count : Nat) (ms : List Match)
  | tuck (dst : Feid) (h : StitchHdr) (op : BitVec 3) (part : Bool) (half : BitVec 256)
  /-- CXL.mem responses and snoops (spec 04). -/
  | memData (tag : BitVec 16) (d : Line) (poison : Bool)
  | memCmp (tag : BitVec 16) (grant : BitVec 2)
  | biSnp (inv : Bool) (addr : Nat)
  | biConflictAck (addr : Nat)
  /-- CXL.io (spec 09 R225, 11 R259, 21 R438): status 0 successful, 1 Unsupported Request, 2 Configuration Request Retry Status. -/
  | ioCpl (tag : BitVec 16) (status : BitVec 3) (data : List Byte) (poison : Bool)
  | ioMemWr (addr : Nat) (data : List Byte) (poison : Bool)
  | ioMemRd (tag : BitVec 16) (addr : Nat) (len : Nat)
  | ioFetchAdd (tag : BitVec 16) (addr : Nat) (v : BitVec 64)
  | ioAtomic (tag : BitVec 16) (addr : Nat) (op : BitVec 4) (size : BitVec 2) (operand swapv : Slot)
  | ioCfg (write : Bool) (reg : BitVec 12) (v : Word)
  | ioAer (vppb : Nat) (err : Word)
  /-- CXL.mem towards a tray, by the number of the tray access (spec 06); written lines stand for their ciphertext. -/
  | trayRd (id : Nat) (addr lines : Nat)
  | trayWr (id : Nat) (addr : Nat) (lines : List Line) (poison : List Bool)
  /-- Dynamic capacity events to a leaf (spec 03 R68). -/
  | dcd (add : Bool) (extent : Nat) (forced : Bool)
  /-- Tunnelled management traffic (spec 02 R54), and the device's own SPDM and IDE_KM requests (R50). -/
  | mctp (payload : List Byte)
  | ideKm (payload : List Byte)
deriving DecidableEq, Repr

/-- A message that waits in an egress queue: its queue Q0 to Q15, and on TRAY and TRUNK ports its tenant node and
service class (spec 13 R304, R305, R309); `by_` the YD sender whose request it passes on as CXL.io (spec 04 R89). -/
structure Queued where
  q    : Nat
  node : Nat := 0
  sc   : Nat := 0
  msg  : Msg
  by_  : Option Feid := none
deriving DecidableEq, Repr

/-- What leaves the module on a management path or a pin, and what an egress port sent: the model's own record of the
block's outputs, newest first. -/
inductive Output where
  | tx (p : Nat) (m : Msg)
  /-- A YD PAYLOAD flit as sent, where no IDE stream encrypts it (spec 02 R37, R38, R48). -/
  | flit (p : Nat) (bits : BitVec 2048)
  /-- A flit sent with a wrong CRC, or with one flipped byte (spec 21 R440). -/
  | txBad (p : Nat) (m : Msg) (oneByte : Bool)
  | regRead (path : Path) (addr : Nat) (v : Word)
  | window (fromIp fromPort : Nat) (ip : BitVec 32) (udp : BitVec 16) (op outcome : Byte) (tag : BitVec 32) (addr countM1 : Nat) (data : List Word)
  | fm (q : Req) (code : Byte) (ext : Nat) (payload : List Nat)
  | spdm (q : Req) (code : Byte) (payload : List Nat)
  | stitchFrame (w : Word)
  | pps (second : Nat)
  | pocketPulse
  | optical (what : OpticalItem) (payload : List Nat)
deriving DecidableEq, Repr

/-- A request the device holds, with the map epoch its ingress tagged it with (spec 03 R63, 01 R18). -/
structure Held where
  epoch : Nat
  cmd   : Instr
deriving DecidableEq, Repr

/-- Link, replay, credit and scheduler state of a logical port that no register shows (spec 02, 13): `trained` the width the
link trained at, `owed` the slots whose credit is withheld (spec 02 R466), `ideCount` and `ideRx` the IDE invocation counters of the
two directions (R52). -/
structure PortSt where
  partnerDev    : DevId := 0
  partnerIncarn : BitVec 16 := 0
  initRx        : Bool := false
  txSeq         : BitVec 12 := 0
  rxSeq         : BitVec 12 := 0
  nakAck        : BitVec 12 := 0
  nakCount      : Nat := 0
  awaitReplay   : Bool := false
  replay        : List (BitVec 12 × List Queued) := []
  trained       : Nat := 0
  owed          : List Nat := [0, 0, 0, 0]
  ydDeclined    : Bool := false
  retraining    : Bool := false
  ideKeySet     : Nat := 0
  ideCount      : Nat := 0
  ideRx         : Nat := 0
  credit        : List Nat := [0, 0, 0, 0]
  egress        : List Queued := []
  guard         : Nat := 0
  rr            : Nat := 0
  deficit       : Tbl Nat := []
  bucket        : Tbl Nat := []
  held          : List Held := []
  l1Wait        : List Instr := []
  fences        : List (Feid × List Held) := []
  cto           : List Nat := []
  collHdr       : Tbl (Nat × Nat × Nat) := []
deriving DecidableEq, Repr

/-- One bank of the composition map and its route table: raw entries by index, bits as spec 03 and 21 lay them out. -/
structure Bank where
  extents : Tbl Nat := []
  slices  : Tbl Nat := []
  binds   : Tbl Nat := []
  places  : Tbl Nat := []
  routes  : Tbl Nat := []
deriving DecidableEq, Repr

/-- Who issued a home transaction, and how it is answered (spec 04 R84). -/
inductive Src where
  | yd (p : Nat) (h : Hdr)
  | cxlMem (p : Nat) (tag : BitVec 16)
  | cxlIo (p : Nat) (tag : BitVec 16)
  /-- A procedure's write: context, procedure, and which of its writes. -/
  | core (x id k : Nat)
  | internal
  /-- A unit of the device that is a requester of its own (spec 04 R79, R88): 1 collective engine, 2 tier manager, 3 replica
  logic, 4 performance monitor. -/
  | engine (k : Nat)
deriving DecidableEq, Repr

/-- What a home transaction does (spec 04, Transactions). -/
inductive Access where
  | readShared
  | readOwn (noData : Bool)
  | readUnc (off len : Nat)
  | write (d : Line) (mask : BitVec 64) (poison : Bool)
  | atomic (op : BitVec 4) (size : BitVec 2) (signed : Bool) (off : Nat) (operand swapv : Slot) (rc : Option (Feid × BitVec 16 × BitVec 16))
  | evict
  /-- A write-back of an owner (spec 04, Transactions; 06 R148, R150). -/
  | wback (d : Line) (mask : BitVec 64) (poison : Bool)
  /-- An uncached read of a unit that copies a page: it takes a modified line out of its owner's cache (spec 04 R79, R99). -/
  | pull
  /-- A commit-log entry of SCATTER: elements combined into the line under a mask, or the line poisoned (spec 10 R239). -/
  | combine (ty op : Nat) (d : Line) (mask : BitVec 64) (mark : Bool)
deriving DecidableEq, Repr

/-- Hand-over states of an extent (spec 03, Hand-over between devices). -/
inductive HoState where
  | owned | giving | givenUnconfirmed | given | awaiting | taking | failed
deriving DecidableEq, Repr

/-- A hand-over in progress (spec 03 R72 to R77); `feid` the other side's FEID as its INIT named it. -/
structure Handover where
  st      : HoState
  peer    : DevId
  xfer    : BitVec 32
  queue   : List Held := []
  feid    : Feid := 0
  last    : Option (BitVec 8 × HandMsg) := none
  gaveUp  : Bool := false
  giveEpoch : Nat := 0
  summary : List Nat := []
  sumBase : Nat := 0
deriving DecidableEq, Repr

/-- The composition map, its epochs and what waits on them (spec 03); `proxied`: requests the device passed on under a tag of
its own, by peer (a port, or 256 + a FEID) and tag (spec 02 R44, 03 R73, 21 R438), `passed` the epochs they count against (R64);
`moved`: extents whose tray memory the draining map places elsewhere. -/
structure MapSt where
  cur      : Bank := {}
  draining : Option Bank := none
  pend     : Bank := {}
  xferUndo : Option (Nat × Nat) := none
  tainted  : List Nat := []
  ho       : Tbl Handover := []
  held     : List Held := []
  dcdWait  : List (Nat × Nat) := []
  commitSnoops : List (Nat × Nat) := []
  moved    : List Nat := []
  smapInit : List Nat := []
  proxied  : List (Nat × BitVec 16 × Src × Access) := []
  passed   : List (Nat × BitVec 16 × Nat) := []
  transit  : List (Feid × Byte × Hdr) := []
deriving DecidableEq, Repr

/-- Directory states other than I (spec 04, The directory). -/
inductive DirState where
  | s | e | m
deriving DecidableEq, Repr

/-- A directory entry (spec 04 R81): `sharers` by native port, `owner` a logical port, `seq` its allocation order. -/
structure DirEntry where
  st      : DirState
  owner   : Nat := 0
  sharers : Nat := 0
  seq     : Nat := 0
deriving DecidableEq, Repr

/-- Where a home transaction stands. -/
inductive Phase where
  | waiting | snoop | replica | expand | data | tray (id : Nat)
deriving DecidableEq, Repr

/-- A running or waiting home transaction (spec 04 R84, R85). -/
structure Txn where
  id     : Nat
  line   : Nat
  src    : Src
  acc    : Access
  epoch  : Nat
  slot   : Nat := 0
  phase  : Phase := .waiting
  snoops : List Nat := []
  fwd    : Option (Line × Bool) := none
  spec   : Bool := false
  specDone : Bool := false
  specBad : Bool := false
  rdDone : Bool := false
  lost   : Bool := false
  /-- Its page entry is at hand: no page-table line is to be read first (spec 06 R136). -/
  looked : Bool := true
  /-- It found no frame before (spec 06 R141). -/
  noFrame : Bool := false
  /-- A core's write of a line of an output block it covers whole (spec 07 R169). -/
  whole  : Bool := false
  /-- A core's compressor (spec 10 R235): OENC_OFF, the MX output type or 0, and whether outputs are RAW (spec 07 R176). -/
  enc    : Option (Nat × Nat × Bool) := none
deriving DecidableEq, Repr

/-- Page replicas of the home and at peers (spec 04 R95 to R98). -/
structure ReplSt where
  local_   : List Nat := []
  fills    : List (Nat × Bool) := []
  peers    : Tbl (List Nat) := []
  invWait  : Tbl (List (Nat × BitVec 16)) := []
  reads    : Tbl Nat := []
  writes   : Tbl Nat := []
  fwdReads : Tbl (Nat × Nat) := []
  cands    : List Nat := []
  asked    : Tbl (Nat × BitVec 16) := []
  mine     : Tbl Nat := []
  mineTag  : Tbl Nat := []
  mineBytes : List Host.Cell := []
deriving DecidableEq, Repr

/-- The home's own state (spec 04): `adopt` holds entries of a hand-over's summary that wait for room in their set (R82, 03 R73),
`defines` collective groups whose image is being read, by group and address (01 R16). -/
structure HomeSt where
  dir     : Tbl DirEntry := []
  dirSeq  : Nat := 0
  txns    : List Txn := []
  nextId  : Nat := 1
  snoopsTo : List (Nat × Nat) := []
  blocked : List Held := []
  adopt   : Tbl DirEntry := []
  defines : List (Nat × Nat) := []
  repl    : ReplSt := {}
deriving DecidableEq, Repr

/-- A region record (spec 05 R101): versions with their extent lists, newest first; `written` the release records a retiring version
has written while the ring held it back, by version and extent (R114). -/
structure Region where
  tenant   : Nat
  cur      : Nat := 0
  retain   : Nat := 7
  rrepl    : Bool := false
  closing  : Bool := false
  versions : List (Nat × List Nat) := []
  written  : List (Nat × Nat) := []
  replicas : List Feid := []
  invWait  : List Feid := []
  running  : Option (PortId × Hdr × List Slot) := none
  stage    : Nat := 0
  newList  : List Nat := []
  waiting  : List Held := []
deriving DecidableEq, Repr

/-- A pin (spec 05 R112). -/
structure Pin where
  feid   : Feid
  incarn : BitVec 16
  region : Nat
  ver    : Nat
  count  : Nat
deriving DecidableEq, Repr

/-- A region replica held for another home, with the pins counted locally (spec 05 R116); `alive` until RGN_INV. -/
structure RegionReplica where
  ver    : Nat
  exts   : List Nat
  home   : Feid
  alive  : Bool := true
  pins   : List Pin := []
  tenant : Nat := 0
deriving DecidableEq, Repr

/-- An OPEN forwarded towards its home, with what the home has written to its LIST_BUF (spec 05 R116); `dead` once RGN_INV of its region has
come (R117). -/
structure FwdOpen where
  port  : PortId
  hdr   : Hdr
  slots : List Slot
  bytes : List Host.Cell := []
  dead  : Bool := false
deriving DecidableEq, Repr

/-- Publication state (spec 05); region replicas by region × 2^32 + version. -/
structure PubSt where
  regions  : Tbl Region := []
  pins     : List Pin := []
  replicas : Tbl RegionReplica := []
  fwd      : List FwdOpen := []
  listWait : List (PortId × Hdr × List Slot) := []
deriving DecidableEq, Repr

/-- The result a reply-cache entry holds (spec 05 R121). -/
structure Reply where
  status : Byte
  old    : Slot := 0
  succ   : Bool := false
  ver    : Word := 0
  count  : Nat := 0
  grant  : Bool := false
deriving DecidableEq, Repr

/-- A reply-cache entry (spec 05 R121). -/
structure RcEntry where
  src    : Feid
  incarn : BitVec 16
  tag    : BitVec 16
  print_ : Nat
  res    : Option Reply := none
  dups   : List PortId := []
deriving DecidableEq, Repr

/-- A tier page in T1 (spec 06 R130 to R134): dirty 4 KiB units by bit, the order of its last access, its pins. -/
structure T1Page where
  stack : Nat
  dirty : Nat := 0
  seen  : Nat := 0
  pins  : List (Nat × Nat × Nat) := []
deriving DecidableEq, Repr

/-- Tiers of a PAGED extent's page (spec 06 R136). -/
inductive PageTier where
  | zero | t2 | t3 | t4
deriving DecidableEq, Repr

/-- A page entry of a PAGED extent (spec 06 R136); `len` counts frames. -/
structure PageEnt where
  tier  : PageTier := .zero
  frame : Nat := 0
  len   : Nat := 0
deriving DecidableEq, Repr

/-- Why a page moves (spec 06 R131, R132, R138 to R140). -/
inductive MoveKind where
  | promote | stage (ctx sched : Nat) | alloc | evict | pack | toT4 | expandT2 | expandT1
deriving DecidableEq, Repr

/-- A tray access in progress (spec 06 R148, R468): `head` is the head or unit it goes to, `again` whether it was re-issued after a
head or unit failed, `area` whether it goes to the size-map area (07 R159). -/
structure TrayOp where
  id    : Nat
  txn   : Nat
  line  : Nat
  port  : Nat
  head  : Nat := 0
  write : Bool
  again : Bool := false
  area  : Bool := false
deriving DecidableEq, Repr

/-- A prefetch schedule (spec 06 R142 to R147). -/
structure Sched where
  steps   : Nat
  loop    : Bool
  cont    : Bool
  rec_    : Bool
  look    : Nat
  recLog2 : Nat
  recAddr : Nat
  image   : Nat
  clock   : Option Nat := none
  head    : Nat := 0
  issued  : Tbl Nat := []
  staging : List (Nat × Nat) := []
  waitIssue : List (Nat × Nat) := []
  deadlinePast : Bool := false
  late    : Nat := 0
  fallback : Bool := false
  denied  : Bool := false
deriving DecidableEq, Repr

/-- A command of a schedule that waits for its image to be read (spec 01 R16, 06 R142, R143). -/
inductive PrefOp where
  | register (ctx sched : Nat)
  | advance (ctx sched : Nat)
  | set (ctx sched step : Nat)
deriving DecidableEq, Repr

/-- Tier manager state (spec 06): `wbAgain` units written during their own forced write-back (R133), `headBad` failed heads of
placements, `healed` extents rebuilt since, by head (R152). -/
structure TierSt where
  t1      : Tbl T1Page := []
  clock   : Nat := 0
  ents    : Tbl PageEnt := []
  moves   : Tbl (MoveKind × Nat) := []
  wbs     : List (Nat × Bool) := []
  wbAgain : List Nat := []
  winReads : Tbl Nat := []
  seen    : Tbl Nat := []
  headBad : List (Nat × Nat) := []
  trayOps : List TrayOp := []
  nextTray : Nat := 1
  healed  : List (Nat × Nat) := []
  rebuild : Option Nat := none
  lostStacks : List Nat := []
  t4Reads : List (Nat × BitVec 16) := []
  scheds  : Tbl Sched := []
  prefOps : List PrefOp := []
deriving DecidableEq, Repr

/-- One stored view of pool memory (spec 04 R93, 07 R157, R171): bytes in one canonical form, poisoned lines, the key
pair and GEN each written line is encrypted under, size-map entries other than RAW by block number. -/
structure Store where
  bytes  : List Host.Cell := []
  poison : List Nat := []
  tags   : Tbl (Nat × Nat) := []
  smap   : Tbl Nat := []
deriving DecidableEq, Repr

/-- Pool memory (spec 03 R59, 06 R128) by pool address: `cur` is what the home serves, `tray` what the trays hold (they
differ in dirty T1 units only); extents whose tray contents another mapping or device wrote; lines of HBM stored with a
correctable (false) or uncorrectable (true) error (spec 21 R440). -/
structure PoolSt where
  cur     : Store := {}
  tray    : Store := {}
  foreign : List Nat := []
  ue      : Tbl Bool := []
deriving DecidableEq, Repr

/-- A byte a descriptor writes at its commit (spec 08 R198). -/
structure StagedByte where
  addr   : Nat
  byte   : Byte
  poison : Bool := false
deriving DecidableEq, Repr

/-- A commit-log entry (spec 08 R199, 10 R239, R249, R251): an atomic on a pool address, or a combine of SCATTER. -/
structure LogEntry where
  addr    : Nat
  op      : Nat
  ty      : Nat
  bytes   : List Byte
  swap    : List Byte := []
  signed  : Bool := false
  mark    : Bool := false
  done    : Bool := false
  old     : List Byte := []
  status  : Byte := 0
deriving DecidableEq, Repr

/-- Where a procedure stands (spec 09 R213 to R215, 08 R196 to R202). -/
inductive ProcPhase where
  | ready
  | running (core : Nat)
  | parked
  | saved
  | replay
  | ending
  /-- Its record has been issued; its counter may be due (09 R225). -/
  | recorded
  /-- A refused trigger whose record has been issued and whose counter is due (09 R212). -/
  | refused
deriving DecidableEq, Repr

/-- A read of PEER or HOST memory a descriptor has issued (spec 09 R211, R218): the procedure address of its line, its tag,
and the status, bytes and poison it returned. -/
structure RemoteRd where
  addr : Nat
  tag  : BitVec 16
  res  : Option (Byte × List Byte × Bool) := none
deriving DecidableEq, Repr

/-- A procedure of a context's queue (spec 09). `trig` is its trigger, `desc` the descriptor it runs, `logDone` says that its commit
log is carried out and the old values are being written (08 R199). -/
structure Proc where
  id      : Nat
  trig    : Nat
  epoch   : Nat
  idx     : Nat := 0
  phase   : ProcPhase := .ready
  fetched : Bool := false
  ran     : Bool := false
  desc    : Nat := 0
  staged  : List StagedByte := []
  log     : List LogEntry := []
  hasLog  : Bool := false
  logDone : Bool := false
  outAddr : Nat := 0
  status  : Byte := 0
  poisoned : Bool := false
  flags   : Nat := 0
  dflags  : Nat := 0
  res     : List Word := [0, 0, 0, 0]
  dres    : List Word := [0, 0, 0, 0]
  replays : Nat := 0
  remote  : List RemoteRd := []
  hostPorts : List Nat := []
  hostUsed : List Nat := []
  rdPorts : List (Nat × BitVec 16) := []
  wrTags  : List (BitVec 16) := []
  issued  : Bool := false
  wrWait  : Nat := 0
  wrBad   : Byte := 0
  cloak   : Bool := false
  oenc    : Nat := 0
  omx     : Nat := 0
deriving DecidableEq, Repr

/-- Procedures and cores (spec 08, 09); `unfence` the fenced cores a SOFT_RESET has met since their fault (08 R204). -/
structure ProcSt where
  procs   : Tbl (List Proc) := []
  nextId  : Nat := 1
  served  : Tbl Nat := []
  running : Tbl (Nat × Nat) := []
  saving  : List Nat := []
  unfence : List Nat := []
deriving DecidableEq, Repr

/-- A chain lookup of a FILTER record: its key, and what the chain has answered (spec 12 R286, R287, R290). -/
structure ChainRes where
  key   : Nat
  all   : Bool
  unit_ : Nat
  done  : Bool := false
  st    : Byte := 0
  hit   : Option Match := none
  found : List Match := []
  lasts : Nat := 0
  fh    : Nat := 0
  tries : Nat := 1
deriving DecidableEq, Repr

/-- A member's own result for a lookup slot, until the chain needs it no more: its match, whether it could not search, the
false hits it dropped, the requester, and whether the merge pass has used it. -/
structure LocalRes where
  hit   : Option Match
  una   : Bool
  fh    : Nat
  who   : Feid
  tag   : BitVec 16
  used  : Bool := false
deriving DecidableEq, Repr

/-- Filter tables and the chain (spec 12): entries as 64 B images keyed by core × 16,384 + entry; `slots` name the lookup
(core × 2^24 + record) each open slot serves; `heldRun` says whether a HELD tuck was in RUN, `fenced` names the units whose core was
fenced and which have not been enabled since (R301). -/
structure FiltSt where
  cam    : Tbl Nat := []
  shadow : Tbl Nat := []
  slots  : Tbl Nat := []
  lapsed : List Nat := []
  res    : Tbl ChainRes := []
  local_ : Tbl LocalRes := []
  frames : List Word := []
  tuckNext  : Nat := 0
  lastMsg   : Option (Nat × Msg) := none
  crossWait : Bool := false
  crossing  : Bool := false
  entryHalf : Option (BitVec 256) := none
  heldRun   : Bool := false
  fenced    : List Nat := []
deriving DecidableEq, Repr

/-- An entry of a collective group (spec 11 R256). -/
structure CollEnt where
  port    : Nat
  rank    : Nat
  count   : Nat
  resAddr : Nat
deriving DecidableEq, Repr

/-- An open collective operation (spec 11 R268): chunks by entry and index, results already sent. -/
structure CollOp where
  cop    : Nat
  rop    : Nat
  ty     : Nat
  outTy  : Nat
  dM1    : Nat
  exact  : Bool
  nchunk : Nat
  seq    : Nat
  chunks : List (Nat × Nat × Line × Bool) := []
  up     : List Nat := []
  sent   : List Nat := []
  total  : Nat := 0
deriving DecidableEq, Repr

/-- A collective group on this device (spec 11 R256). -/
structure Group where
  tenant  : Nat
  kind    : Bool
  first   : Nat
  size    : Nat
  parent  : Nat
  bcast   : Nat
  ents    : List CollEnt
  next    : Nat
  fenced  : Bool := false
  op      : Option CollOp := none
deriving DecidableEq, Repr

/-- A key slot (spec 14 R320): no register reads the pair back. -/
structure Slot_ where
  pair    : BitVec 512
  noCmpr  : Bool
deriving DecidableEq, Repr

/-- SPDM sessions and link keys (spec 14 R328, 02 R50). -/
structure Session where
  id     : Nat
  kind   : Requester
  digest : BitVec 384
  done   : Bool := false
deriving DecidableEq, Repr

/-- Contexts, keys and attestation (spec 14); `opDigest` is the fused operator digest (R324), which every reset keeps. -/
structure SecSt where
  slots    : Tbl Slot_ := []
  sessions : List Session := []
  nextSess : Nat := 1
  opDigest : BitVec 384 := 0
deriving DecidableEq, Repr

/-- A juror's vote (spec 15 R339). -/
structure Vote where
  subject : Feid
  incarn  : BitVec 16
  juror   : DevId
  jury    : Nat
deriving DecidableEq, Repr

/-- Liveness state (spec 15). -/
structure LiveSt where
  fences   : Tbl (BitVec 16 × Bool) := []
  votes    : List Vote := []
  suspects : List Feid := []
  seen     : List (BitVec 8 × BitVec 16 × BitVec 16 × DevId) := []
  heard    : List Feid := []
  missed   : Tbl Nat := []
  ndev     : Tbl Nat := []
  incarns  : Tbl (BitVec 16) := []
  recent   : Tbl Nat := []
  isoMiss  : Nat := 0
  isoN     : Nat := 0
  interval : Nat := 0
  joinAcks : List Feid := []
  flushReset : Bool := false
  prog     : List Nat := [0, 0, 0]
deriving DecidableEq, Repr

/-- Supply of the dies (spec 16 R359, R363). -/
inductive Supply where
  | off | on | holdup | tripped
deriving DecidableEq, Repr

/-- Power, temperature and clock state that no register shows (spec 16): `lastOff` the CAUSE of the next power-on reset, duties in
eighths of the dies that throttle and the last reading of each die (dies by the codes of PWR_TEMP), `done` the stacks (0 to 7)
and port dies (8 to 15) whose training or calibration has ended, `dirtyMarks` RST_DIRTY as the last reset froze it. -/
structure PowerSt where
  supply  : Supply := .on
  lastOff : Nat := 0
  duty    : Nat := 8
  peak    : Bool := false
  thermDuty : Tbl Nat := []
  refLost : Bool := false
  resetLow : Bool := false
  temps   : Tbl Nat := []
  done    : List Nat := []
  dirtyMarks : List Nat := []
deriving DecidableEq, Repr

/-- A record of the Pocket (spec 17 R383), or an event entry of its log (R382), as the kinds of 0x10 and above. -/
structure PocketRec where
  kind  : Nat
  seq   : Nat := 0
  flags : Nat
  rtc   : Nat
  eA    : Nat
  eB    : Nat
  sealCnt : Nat
  nonce : Nat
  sig   : Nat := 0
deriving DecidableEq, Repr

/-- The Pocket's own state, which no reset of the dies changes (spec 17): `due` waits to be signed, `ready` to be shown on the
page, `tenths` page writes since the RTC's last second, `sealDue` breaks whose record waits for power. -/
structure PocketSt where
  powered : Bool := true
  id      : Nat := 0
  eA      : Nat := 0
  eB      : Nat := 0
  pulseAt : Nat := 0
  rtc     : Nat := 0
  tenths  : Nat := 0
  rtcSet  : Bool := true
  sealCnt : Nat := 0
  sealDue : Nat := 0
  seq     : Nat := 0
  overRange    : Bool := false
  xtal    : Bool := false
  wrapped : Bool := false
  due     : List PocketRec := []
  signing : Option PocketRec := none
  ready   : List PocketRec := []
  log     : List PocketRec := []
deriving DecidableEq, Repr

/-- A copy of the settings: savable register fields that differ from their reset values, by address (banked counter
registers under addresses of their own), QOS entries, and the format (spec 18 R392, R401, 21 R434). -/
structure Settings where
  regs : Tbl Word := []
  qos  : Tbl Nat := []
  fmt  : Nat × Nat := (1, 0)
deriving DecidableEq, Repr

/-- Flash, fuses and boot state (spec 18): SVN and settings format of the slots' images, boot attempts by slot, the
retained area, the newer settings copy, and the snapshots a running and a booked save write. -/
structure FwSt where
  svn      : Tbl Nat := [(0, 1)]
  fmt      : Tbl (Nat × Nat) := []
  boots    : Tbl Nat := []
  incarn   : BitVec 16 := 0
  secSeq   : BitVec 64 := 0
  lastGasp : Option (Nat × Nat × Bool) := none
  saved    : Settings := {}
  snap     : Option Settings := none
  booked   : Option Settings := none
deriving DecidableEq, Repr

/-- Counters and sampling (spec 19); `cfg` holds registers 0x108 to 0x120 of each counter, `specOf` the SPEC field of tagged requests
(R409). -/
structure PmonSt where
  cnt     : Tbl Nat := []
  cfg     : Tbl (List Word) := []
  stagedLo : Tbl Word := []
  vcnt    : Tbl Nat := []
  lfsr    : Word := 0
  tagged  : Tbl Nat := []
  specOf  : Tbl Nat := []
  events  : Tbl Nat := []
deriving DecidableEq, Repr

/-- Management access state (spec 20, 21, 02 R54): staging and captures by path and window, latched high halves, held
writes in arrival order, register-window messages behind a held access with the number done, Fabric Management API state. -/
structure MgmtSt where
  staging  : Tbl (Nat × Nat) := []
  capture  : Tbl (Nat × Nat) := []
  latches  : Tbl Word := []
  held     : List (Path × Nat × Word) := []
  heldEnt  : List (Path × Nat × Nat) := []
  msgs     : List (Datagram × Nat) := []
  netForce : List Word := [0, 0, 0, 0x1D7B1D7A]
  msgLimit : Nat := 0
  policy   : Word := 0
  events   : List (Nat × Nat × Nat × Nat) := []
  background : Option Nat := none
  vppb     : Tbl Nat := []
deriving DecidableEq, Repr

/-- The module. -/
structure State where
  pending : List Instr := []
  regs    : Tbl Word := []
  qos     : Tbl Nat := []
  ports   : Tbl PortSt := []
  map     : MapSt := {}
  home    : HomeSt := {}
  pub     : PubSt := {}
  rc      : List RcEntry := []
  pool    : PoolSt := {}
  tier    : TierSt := {}
  procs   : ProcSt := {}
  filt    : FiltSt := {}
  coll    : Tbl Group := []
  sec     : SecSt := {}
  live    : LiveSt := {}
  power   : PowerSt := {}
  pocket  : PocketSt := {}
  fw      : FwSt := {}
  pmon    : PmonSt := {}
  mgmt    : MgmtSt := {}
  closing : List Page := []
  ts      : BitVec 64 := 0
  free    : Nat := 0
  out     : List Output := []
deriving DecidableEq, Repr

/-- Reasons a command can stop with a fault. The module has none: the spec answers every command with an effect, so
the type has no constructor and no meaning can raise one. -/
inductive Fault where
deriving DecidableEq, Repr

/-- Reasons a command is refused. -/
inductive Refusal where
  /-- Raised by Dispatch for a command without a meaning; safe (the model stops where the hardware goes on). -/
  | notModelled (mnemonic : String)
deriving DecidableEq, Repr

/-- The module right after its power-on reset (spec 16 R371, R375): every register at its reset value (none listed),
tables empty, queues empty, RST_STAT at step 3; retained and fused values as the assumption log names them. -/
def State.reset : State := {}

end Sys2Proof.Machine
end

