-- ==== Sys2Proof/Machine/Regs.lean ====
section
/-! DEFINITION. Every register of the management window, field by field, as the spec's register tables give them:
type, reset value and numeric range (spec 20 and the chapters named beside each). The lookup of a register by its
address, and the reset value of a page header that depends on the page. -/

namespace Sys2Proof.Machine

/-- Field types (spec 00, Typography and tables). -/
inductive FTy where
  | rw | ro | rwl | w1c | w1s | rc | wo
deriving DecidableEq, Repr

/-- A field: bits, type, reset value, and the numeric range R7 refuses outside of (none when the table states none). -/
structure Fld where
  hi   : Nat
  lo   : Nat
  ty   : FTy
  rst  : Nat := 0
  rng  : Option (Nat × Nat) := none
deriving DecidableEq, Repr

/-- A register: its block (none = the common header), offset, copies and their stride, and whether it is the low (1) or
high (2) half of a read-only or counter pair (spec 20 R417). -/
structure RegDef where
  blk    : Option Block
  off    : Nat
  n      : Nat
  stride : Nat
  pair   : Nat
  flds   : List Fld
deriving DecidableEq, Repr

def rw (hi lo r : Nat) : Fld := { hi, lo, ty := .rw, rst := r }
def ro (hi lo r : Nat) : Fld := { hi, lo, ty := .ro, rst := r }
def rwl (hi lo r : Nat) : Fld := { hi, lo, ty := .rwl, rst := r }
def w1c (hi lo r : Nat) : Fld := { hi, lo, ty := .w1c, rst := r }
def w1s (hi lo r : Nat) : Fld := { hi, lo, ty := .w1s, rst := r }
def rc (hi lo r : Nat) : Fld := { hi, lo, ty := .rc, rst := r }
def wo (hi lo r : Nat) : Fld := { hi, lo, ty := .wo, rst := r }
def rwIn (hi lo r a b : Nat) : Fld := { hi, lo, ty := .rw, rst := r, rng := some (a, b) }
def rwlIn (hi lo r a b : Nat) : Fld := { hi, lo, ty := .rwl, rst := r, rng := some (a, b) }

/-- Registers of the common header of every page. -/
def hdrRegs : List RegDef := [
  -- PG_ID (spec 20_register_conventions, R418)
  { blk := none, off := 0x000, n := 1, stride := 4, pair := 0, flds := [ro 15 0 0x0, ro 31 24 0x0] },
  -- PG_VER (spec 20_register_conventions, R418)
  { blk := none, off := 0x004, n := 1, stride := 4, pair := 0, flds := [ro 7 0 0x0, ro 15 8 0x1] },
  -- PG_CTL (spec 20_register_conventions, R418)
  { blk := none, off := 0x008, n := 1, stride := 4, pair := 0, flds := [rw 0 0 0x0, rw 1 1 0x0, w1s 2 2 0x0, w1s 31 31 0x0] },
  -- PG_STAT (spec 20_register_conventions, R418)
  { blk := none, off := 0x00C, n := 1, stride := 4, pair := 0, flds := [ro 0 0 0x0, ro 1 1 0x0, ro 2 2 0x0, ro 3 3 0x0] },
  -- PG_REASON (spec 20_register_conventions, R418)
  { blk := none, off := 0x010, n := 1, stride := 4, pair := 0, flds := [ro 15 0 0x0, ro 31 16 0x0] },
  -- PG_ERR (spec 20_register_conventions, R418)
  { blk := none, off := 0x014, n := 1, stride := 4, pair := 0, flds := [w1c 31 0 0x0] },
  -- PG_ERR_EN (spec 20_register_conventions, R418)
  { blk := none, off := 0x018, n := 1, stride := 4, pair := 0, flds := [rw 31 0 0xFFFFFFFF] },
  -- PG_ERR_INJ (spec 20_register_conventions, R418)
  { blk := none, off := 0x01C, n := 1, stride := 4, pair := 0, flds := [wo 31 0 0x0] }]

/-- Registers of the DEV page. -/
def devRegs : List RegDef := [
  -- DEV_ID (spec 21_block_registers, R432)
  { blk := some .dev, off := 0x100, n := 1, stride := 4, pair := 0, flds := [rw 11 0 0x0, rw 31 16 0x0] },
  -- DEV_CAP (spec 21_block_registers, R432)
  { blk := some .dev, off := 0x104, n := 1, stride := 4, pair := 0, flds := [ro 7 0 0x8, ro 15 8 0x8, ro 23 16 0x8, ro 31 24 0x1] },
  -- DEV_SERIAL_LO (spec 21_block_registers, R432)
  { blk := some .dev, off := 0x108, n := 1, stride := 4, pair := 1, flds := [ro 31 0 0x0] },
  -- DEV_SERIAL_HI (spec 21_block_registers, R432)
  { blk := some .dev, off := 0x10C, n := 1, stride := 4, pair := 2, flds := [ro 31 0 0x0] },
  -- DEV_STATUS (spec 21_block_registers, R432)
  { blk := some .dev, off := 0x110, n := 1, stride := 4, pair := 0, flds := [w1c 0 0 0x0, ro 1 1 0x0] },
  -- DEV_SAVE (spec 21_block_registers, R432)
  { blk := some .dev, off := 0x114, n := 1, stride := 4, pair := 0, flds := [w1s 0 0 0x0, rw 1 1 0x0, ro 2 2 0x0, w1c 3 3 0x0] },
  -- DEV_MAC_LO (spec 21_block_registers, R432)
  { blk := some .dev, off := 0x120, n := 1, stride := 4, pair := 1, flds := [ro 31 0 0x0] },
  -- DEV_MAC_HI (spec 21_block_registers, R432)
  { blk := some .dev, off := 0x124, n := 1, stride := 4, pair := 2, flds := [ro 15 0 0x0] },
  -- DEV_IP4 (spec 21_block_registers, R432)
  { blk := some .dev, off := 0x128, n := 1, stride := 4, pair := 0, flds := [rw 31 0 0x0] },
  -- DEV_IP4_MASK (spec 21_block_registers, R432)
  { blk := some .dev, off := 0x12C, n := 1, stride := 4, pair := 0, flds := [rw 31 0 0x0] },
  -- DEV_IP4_GW (spec 21_block_registers, R432)
  { blk := some .dev, off := 0x130, n := 1, stride := 4, pair := 0, flds := [rw 31 0 0x0] },
  -- DEV_UDP (spec 21_block_registers, R432)
  { blk := some .dev, off := 0x134, n := 1, stride := 4, pair := 0, flds := [rw 15 0 0x1D7A, rw 31 16 0x1D7B] },
  -- DEV_MGR (spec 21_block_registers, R432)
  { blk := some .dev, off := 0x138, n := 1, stride := 4, pair := 0, flds := [rw 31 0 0x0] },
  -- DEV_MGR_MASK (spec 21_block_registers, R432)
  { blk := some .dev, off := 0x13C, n := 1, stride := 4, pair := 0, flds := [rw 31 0 0x0] },
  -- DEV_NET_STAT (spec 21_block_registers, R432)
  { blk := some .dev, off := 0x140, n := 1, stride := 4, pair := 0, flds := [ro 0 0 0x0, ro 1 1 0x0, rc 31 16 0x0] },
  -- DEV_MCTP (spec 21_block_registers, R432)
  { blk := some .dev, off := 0x144, n := 1, stride := 4, pair := 0, flds := [rw 7 0 0x0] }]

/-- Registers of the CLK page. -/
def clkRegs : List RegDef := [
  -- CLK_STAT (spec 16_power_clock_reset, R367)
  { blk := some .clk, off := 0x100, n := 1, stride := 4, pair := 0, flds := [ro 0 0 0x0, ro 1 1 0x0, ro 2 2 0x0] },
  -- CLK_PTM (spec 16_power_clock_reset, R368)
  { blk := some .clk, off := 0x104, n := 1, stride := 4, pair := 0, flds := [rwl 0 0 0x0, rwl 15 8 0xFF] },
  -- CLK_TS_LO (spec 16_power_clock_reset, R368)
  { blk := some .clk, off := 0x108, n := 1, stride := 4, pair := 1, flds := [ro 31 0 0x0] },
  -- CLK_TS_HI (spec 16_power_clock_reset, R368)
  { blk := some .clk, off := 0x10C, n := 1, stride := 4, pair := 2, flds := [ro 31 0 0x0] },
  -- CLK_PTM_OFS (spec 16_power_clock_reset, R368)
  { blk := some .clk, off := 0x110, n := 1, stride := 4, pair := 0, flds := [ro 31 0 0x0] }]

/-- Registers of the PWR page. -/
def pwrRegs : List RegDef := [
  -- PWR_STAT (spec 16_power_clock_reset, R356)
  { blk := some .pwr, off := 0x100, n := 1, stride := 4, pair := 0, flds := [ro 1 0 0x1, ro 2 2 0x0, ro 3 3 0x0, ro 4 4 0x0, ro 5 5 0x0] },
  -- PWR_CFG (spec 16_power_clock_reset, R358)
  { blk := some .pwr, off := 0x104, n := 1, stride := 4, pair := 0, flds := [rwIn 15 0 1000 10 60000] },
  -- PWR_CAP (spec 16_power_clock_reset, R361)
  { blk := some .pwr, off := 0x108, n := 1, stride := 4, pair := 0, flds := [rwIn 7 0 240 120 240] },
  -- PWR_XFER (spec 16_power_clock_reset, R357)
  { blk := some .pwr, off := 0x10C, n := 1, stride := 4, pair := 0, flds := [ro 15 0 0x0, ro 17 16 0x0] },
  -- PWR_VA (spec 16_power_clock_reset, R356)
  { blk := some .pwr, off := 0x110, n := 1, stride := 4, pair := 0, flds := [ro 12 0 0x0] },
  -- PWR_VB (spec 16_power_clock_reset, R356)
  { blk := some .pwr, off := 0x114, n := 1, stride := 4, pair := 0, flds := [ro 12 0 0x0] },
  -- PWR_TEMP (spec 16_power_clock_reset, R362)
  { blk := some .pwr, off := 0x118, n := 1, stride := 4, pair := 0, flds := [ro 7 0 0x0, ro 12 8 0x0] },
  -- PWR_INPUT (spec 16_power_clock_reset, R361)
  { blk := some .pwr, off := 0x11C, n := 1, stride := 4, pair := 0, flds := [ro 15 0 0x0] }]

/-- Registers of the RST page. -/
def rstRegs : List RegDef := [
  -- RST_CMD (spec 16_power_clock_reset, R371)
  { blk := some .rst, off := 0x100, n := 1, stride := 4, pair := 0, flds := [rw 0 0 0x0, w1s 1 1 0x0] },
  -- RST_STAT (spec 16_power_clock_reset, R375)
  { blk := some .rst, off := 0x104, n := 1, stride := 4, pair := 0, flds := [ro 3 0 0x3, ro 4 4 0x0, ro 5 5 0x0, ro 31 16 0x0] },
  -- RST_REASON (spec 16_power_clock_reset, R371)
  { blk := some .rst, off := 0x108, n := 1, stride := 4, pair := 0, flds := [ro 3 0 0x0, ro 4 4 0x0, ro 5 5 0x0] },
  -- RST_DIRTY_IDX (spec 16_power_clock_reset, R373)
  { blk := some .rst, off := 0x10C, n := 1, stride := 4, pair := 0, flds := [rw 12 0 0x0] },
  -- RST_DIRTY_DATA (spec 16_power_clock_reset, R373)
  { blk := some .rst, off := 0x110, n := 1, stride := 4, pair := 0, flds := [ro 31 0 0x0] }]

/-- Registers of the FW page. -/
def fwRegs : List RegDef := [
  -- FW_STAT (spec 18_firmware, R395)
  { blk := some .fw, off := 0x100, n := 1, stride := 4, pair := 0, flds := [ro 0 0 0x0, ro 1 1 0x0, ro 2 2 0x1, ro 3 3 0x0, ro 4 4 0x0, ro 5 5 0x0, ro 12 6 0x0, ro 31 16 0x0] },
  -- FW_SRC_LO (spec 18_firmware, R396)
  { blk := some .fw, off := 0x104, n := 1, stride := 4, pair := 0, flds := [rw 31 0 0x0] },
  -- FW_SRC_HI (spec 18_firmware, R396)
  { blk := some .fw, off := 0x108, n := 1, stride := 4, pair := 0, flds := [rw 31 0 0x0] },
  -- FW_LEN (spec 18_firmware, R396)
  { blk := some .fw, off := 0x10C, n := 1, stride := 4, pair := 0, flds := [rw 27 0 0x0] },
  -- FW_CTL (spec 18_firmware, R396)
  { blk := some .fw, off := 0x110, n := 1, stride := 4, pair := 0, flds := [rw 2 0 0x0, w1s 3 3 0x0, rw 4 4 0x1] }]

/-- Registers of the POCKET page. -/
def pocketRegs : List RegDef := [
  -- POCKET_STAT (spec 17_pocket, R386)
  { blk := some .pocket, off := 0x100, n := 1, stride := 4, pair := 0, flds := [ro 0 0 0x0, ro 5 1 0x0] },
  -- POCKET_MSEQ (spec 17_pocket, R386)
  { blk := some .pocket, off := 0x104, n := 1, stride := 4, pair := 0, flds := [ro 31 0 0x0] },
  -- POCKET_EA_LO (spec 17_pocket, R385)
  { blk := some .pocket, off := 0x108, n := 1, stride := 4, pair := 1, flds := [ro 31 0 0x0] },
  -- POCKET_EA_HI (spec 17_pocket, R385)
  { blk := some .pocket, off := 0x10C, n := 1, stride := 4, pair := 2, flds := [ro 31 0 0x0] },
  -- POCKET_EB_LO (spec 17_pocket, R385)
  { blk := some .pocket, off := 0x110, n := 1, stride := 4, pair := 1, flds := [ro 31 0 0x0] },
  -- POCKET_EB_HI (spec 17_pocket, R385)
  { blk := some .pocket, off := 0x114, n := 1, stride := 4, pair := 2, flds := [ro 31 0 0x0] },
  -- POCKET_RTC_LO (spec 17_pocket, R385)
  { blk := some .pocket, off := 0x120, n := 1, stride := 4, pair := 1, flds := [ro 31 0 0x0] },
  -- POCKET_RTC_HI (spec 17_pocket, R385)
  { blk := some .pocket, off := 0x124, n := 1, stride := 4, pair := 2, flds := [ro 31 0 0x0] },
  -- POCKET_VIA (spec 17_pocket, R385)
  { blk := some .pocket, off := 0x118, n := 1, stride := 4, pair := 0, flds := [ro 15 0 0x0, ro 31 16 0x0] },
  -- POCKET_VIB (spec 17_pocket, R385)
  { blk := some .pocket, off := 0x11C, n := 1, stride := 4, pair := 0, flds := [ro 15 0 0x0, ro 31 16 0x0] },
  -- POCKET_SEAL (spec 17_pocket, R389)
  { blk := some .pocket, off := 0x128, n := 1, stride := 4, pair := 0, flds := [ro 15 0 0x0] },
  -- POCKET_NONCE (spec 17_pocket, R387)
  { blk := some .pocket, off := 0x130, n := 4, stride := 4, pair := 0, flds := [rw 31 0 0x0] },
  -- POCKET_DB (spec 17_pocket, R387)
  { blk := some .pocket, off := 0x140, n := 1, stride := 4, pair := 0, flds := [w1s 0 0 0x0, ro 1 1 0x0, w1c 2 2 0x0, w1c 3 3 0x0] },
  -- POCKET_LASTREC (spec 17_pocket, R383)
  { blk := some .pocket, off := 0x200, n := 32, stride := 4, pair := 0, flds := [ro 31 0 0x0] },
  -- POCKET_REQREC (spec 17_pocket, R387)
  { blk := some .pocket, off := 0x280, n := 32, stride := 4, pair := 0, flds := [ro 31 0 0x0] },
  -- POCKET_CERT (spec 17_pocket, R384)
  { blk := some .pocket, off := 0x400, n := 256, stride := 4, pair := 0, flds := [ro 31 0 0x0] }]

/-- Registers of the SEC page. -/
def secRegs : List RegDef := [
  -- SEC_PROFILE (spec 14_tenancy_security, R325)
  { blk := some .sec, off := 0x100, n := 1, stride := 4, pair := 0, flds := [ro 1 0 0x1] },
  -- SEC_BATCH_LO (spec 14_tenancy_security, R327)
  { blk := some .sec, off := 0x104, n := 1, stride := 4, pair := 0, flds := [rw 31 0 0x0] },
  -- SEC_BATCH_HI (spec 14_tenancy_security, R327)
  { blk := some .sec, off := 0x108, n := 1, stride := 4, pair := 0, flds := [rw 31 0 0x0] },
  -- SEC_BATCH_CMD (spec 14_tenancy_security, R327)
  { blk := some .sec, off := 0x10C, n := 1, stride := 4, pair := 0, flds := [w1s 0 0 0x0, ro 31 16 0x0] },
  -- SEC_BATCH_IDX (spec 14_tenancy_security, R327)
  { blk := some .sec, off := 0x110, n := 1, stride := 4, pair := 0, flds := [ro 11 0 0x0] },
  -- SEC_SEQ_LO (spec 14_tenancy_security, R327)
  { blk := some .sec, off := 0x114, n := 1, stride := 4, pair := 1, flds := [ro 31 0 0x0] },
  -- SEC_SEQ_HI (spec 14_tenancy_security, R327)
  { blk := some .sec, off := 0x118, n := 1, stride := 4, pair := 2, flds := [ro 31 0 0x0] }]

/-- Registers of the LIVE page. -/
def liveRegs : List RegDef := [
  -- LIVE_CFG (spec 15_faults, R355)
  { blk := some .live, off := 0x100, n := 1, stride := 4, pair := 0, flds := [rwlIn 7 0 10 3 80, rwlIn 11 8 3 1 15] },
  -- LIVE_STAT (spec 15_faults, R346)
  { blk := some .live, off := 0x104, n := 1, stride := 4, pair := 0, flds := [ro 1 0 0x0, ro 2 2 0x0, ro 5 3 0x0, ro 15 8 0x0, ro 31 16 0x0] },
  -- LIVE_INCARN (spec 16_power_clock_reset, R374)
  { blk := some .live, off := 0x108, n := 1, stride := 4, pair := 0, flds := [ro 15 0 0x0] },
  -- LIVE_CMD (spec 15_faults, R343)
  { blk := some .live, off := 0x10C, n := 1, stride := 4, pair := 0, flds := [rw 1 0 0x0, w1s 2 2 0x0, rw 3 3 0x0, rw 15 8 0x0, rw 31 16 0x0] },
  -- LIVE_CMD_STAT (spec 15_faults, R351)
  { blk := some .live, off := 0x110, n := 1, stride := 4, pair := 0, flds := [ro 15 0 0x0] },
  -- LIVE_LAST_W0 (spec 15_faults, R341)
  { blk := some .live, off := 0x114, n := 1, stride := 4, pair := 0, flds := [ro 15 0 0x0, ro 31 16 0x0] },
  -- LIVE_LAST_W1 (spec 15_faults, R341)
  { blk := some .live, off := 0x118, n := 1, stride := 4, pair := 0, flds := [ro 2 0 0x0, ro 3 3 0x0, w1c 4 4 0x0, w1c 5 5 0x0] },
  -- PROG_CTL (spec 15_faults, R354)
  { blk := some .live, off := 0x180, n := 1, stride := 4, pair := 0, flds := [w1s 0 0 0x0, w1s 1 1 0x0] },
  -- PROG_CAUSE (spec 15_faults, R353)
  { blk := some .live, off := 0x184, n := 1, stride := 4, pair := 0, flds := [ro 15 0 0x0] },
  -- PROG_NORMAL_LO (spec 15_faults, R354)
  { blk := some .live, off := 0x188, n := 1, stride := 4, pair := 1, flds := [ro 31 0 0x0] },
  -- PROG_NORMAL_HI (spec 15_faults, R354)
  { blk := some .live, off := 0x18C, n := 1, stride := 4, pair := 2, flds := [ro 31 0 0x0] },
  -- PROG_DEGRADED_LO (spec 15_faults, R354)
  { blk := some .live, off := 0x190, n := 1, stride := 4, pair := 1, flds := [ro 31 0 0x0] },
  -- PROG_DEGRADED_HI (spec 15_faults, R354)
  { blk := some .live, off := 0x194, n := 1, stride := 4, pair := 2, flds := [ro 31 0 0x0] },
  -- PROG_RECOVERING_LO (spec 15_faults, R354)
  { blk := some .live, off := 0x198, n := 1, stride := 4, pair := 1, flds := [ro 31 0 0x0] },
  -- PROG_RECOVERING_HI (spec 15_faults, R354)
  { blk := some .live, off := 0x19C, n := 1, stride := 4, pair := 2, flds := [ro 31 0 0x0] }]

/-- Registers of the MAP page. -/
def mapRegs : List RegDef := [
  -- MAP_EPOCH (spec 03_composition, R60)
  { blk := some .map, off := 0x100, n := 1, stride := 4, pair := 0, flds := [ro 15 0 0x0, ro 31 16 0x0] },
  -- MAP_COMMIT (spec 03_composition, R60)
  { blk := some .map, off := 0x104, n := 1, stride := 4, pair := 0, flds := [w1s 0 0 0x0] },
  -- MAP_STAT (spec 03_composition, R60)
  { blk := some .map, off := 0x108, n := 1, stride := 4, pair := 0, flds := [ro 0 0 0x0, ro 1 1 0x1, w1c 2 2 0x0, ro 31 16 0x0] },
  -- MAP_DRAIN (spec 03_composition, R65)
  { blk := some .map, off := 0x10C, n := 1, stride := 4, pair := 0, flds := [rwIn 23 0 1000 10 100000] },
  -- MAP_INFLIGHT (spec 03_composition, R64)
  { blk := some .map, off := 0x110, n := 1, stride := 4, pair := 0, flds := [ro 31 0 0x0] },
  -- MAP_XFER (spec 03_composition, R71)
  { blk := some .map, off := 0x114, n := 1, stride := 4, pair := 0, flds := [wo 17 0 0x0, wo 25 18 0x0] },
  -- MAP_HO_LIMIT (spec 03_composition, R76)
  { blk := some .map, off := 0x118, n := 1, stride := 4, pair := 0, flds := [rwIn 23 0 10000 100 1000000] },
  -- MAP_BADENT (spec 03_composition, R61)
  { blk := some .map, off := 0x11C, n := 1, stride := 4, pair := 0, flds := [ro 19 0 0x0, ro 22 20 0x0] }]

/-- Registers of the HOME page. -/
def homeRegs : List RegDef := [
  -- HOME_CTL (spec 04_coherence, R91)
  { blk := some .home, off := 0x100, n := 1, stride := 4, pair := 0, flds := [rwl 0 0 0x1] },
  -- HOME_TSNP (spec 04_coherence, R92)
  { blk := some .home, off := 0x104, n := 1, stride := 4, pair := 0, flds := [rwIn 23 0 50 1 10000] },
  -- HOME_SNPTO (spec 04_coherence, R92)
  { blk := some .home, off := 0x108, n := 1, stride := 4, pair := 0, flds := [ro 11 0 0x0, ro 19 12 0x0, w1c 20 20 0x0, w1c 21 21 0x0] },
  -- HOME_SNPTO_ADDR_LO (spec 04_coherence, R92)
  { blk := some .home, off := 0x10C, n := 1, stride := 4, pair := 1, flds := [ro 31 0 0x0] },
  -- HOME_SNPTO_ADDR_HI (spec 04_coherence, R92)
  { blk := some .home, off := 0x110, n := 1, stride := 4, pair := 2, flds := [ro 15 0 0x0] },
  -- HOME_DIRSTAT (spec 04_coherence, R83)
  { blk := some .home, off := 0x114, n := 1, stride := 4, pair := 0, flds := [ro 27 0 0x0, ro 28 28 0x1] }]

/-- Registers of the REPL page. -/
def replRegs : List RegDef := [
  -- REPL_CTL (spec 04_coherence, R95)
  { blk := some .repl, off := 0x100, n := 1, stride := 4, pair := 0, flds := [rw 0 0 0x0, rw 1 1 0x0, rw 2 2 0x0, rwIn 23 8 4096 64 65535] },
  -- REPL_CAP (spec 04_coherence, R100)
  { blk := some .repl, off := 0x104, n := 1, stride := 4, pair := 0, flds := [rwlIn 9 0 0 0 524] },
  -- REPL_STAT (spec 04_coherence, R95)
  { blk := some .repl, off := 0x108, n := 1, stride := 4, pair := 0, flds := [ro 27 0 0x0] },
  -- REPL_PEERS (spec 04_coherence, R96)
  { blk := some .repl, off := 0x10C, n := 1, stride := 4, pair := 0, flds := [ro 6 0 0x0] }]

/-- Registers of the PUB page. -/
def pubRegs : List RegDef := [
  -- PUB_CMD_REGION (spec 05_regions_atomics, R101)
  { blk := some .pub, off := 0x100, n := 1, stride := 4, pair := 0, flds := [rw 31 0 0x0] },
  -- PUB_CMD_ARG (spec 05_regions_atomics, R101)
  { blk := some .pub, off := 0x104, n := 1, stride := 4, pair := 0, flds := [rw 15 0 0x0, rw 18 16 0x7, rw 19 19 0x0] },
  -- PUB_CMD (spec 05_regions_atomics, R101)
  { blk := some .pub, off := 0x108, n := 1, stride := 4, pair := 0, flds := [rw 1 0 0x0, w1s 2 2 0x0] },
  -- PUB_STAT (spec 05_regions_atomics, R101)
  { blk := some .pub, off := 0x10C, n := 1, stride := 4, pair := 0, flds := [ro 15 0 0x0, ro 16 16 0x0] },
  -- PUB_COUNT (spec 05_regions_atomics, R101)
  { blk := some .pub, off := 0x110, n := 1, stride := 4, pair := 0, flds := [ro 16 0 0x0] },
  -- PUB_PINS (spec 05_regions_atomics, R112)
  { blk := some .pub, off := 0x114, n := 1, stride := 4, pair := 0, flds := [ro 16 0 0x0] },
  -- PUB_RING_LO (spec 05_regions_atomics, R114)
  { blk := some .pub, off := 0x118, n := 1, stride := 4, pair := 0, flds := [rwl 31 0 0x0] },
  -- PUB_RING_HI (spec 05_regions_atomics, R114)
  { blk := some .pub, off := 0x11C, n := 1, stride := 4, pair := 0, flds := [rwl 15 0 0x0] },
  -- PUB_RING_SIZE (spec 05_regions_atomics, R114)
  { blk := some .pub, off := 0x120, n := 1, stride := 4, pair := 0, flds := [rwlIn 4 0 8 8 20] },
  -- PUB_RING_HEAD (spec 05_regions_atomics, R114)
  { blk := some .pub, off := 0x124, n := 1, stride := 4, pair := 0, flds := [ro 19 0 0x0] },
  -- PUB_RING_TAIL (spec 05_regions_atomics, R114)
  { blk := some .pub, off := 0x128, n := 1, stride := 4, pair := 0, flds := [rw 19 0 0x0] }]

/-- Registers of the ATOM page. -/
def atomRegs : List RegDef := [
  -- ATOM_CTL (spec 05_regions_atomics, R123)
  { blk := some .atom, off := 0x100, n := 1, stride := 4, pair := 0, flds := [rwIn 16 0 4096 16 65536] },
  -- ATOM_STAT (spec 05_regions_atomics, R121)
  { blk := some .atom, off := 0x104, n := 1, stride := 4, pair := 0, flds := [ro 16 0 0x0] }]

/-- Registers of the TIER page. -/
def tierRegs : List RegDef := [
  -- TIER_CTL (spec 06_tiers, R131)
  { blk := some .tier, off := 0x100, n := 1, stride := 4, pair := 0, flds := [rwl 0 0 0x1, rwl 1 1 0x0] },
  -- TIER_NEAR (spec 06_tiers, R130)
  { blk := some .tier, off := 0x104, n := 1, stride := 4, pair := 0, flds := [ro 9 0 0x20C] },
  -- TIER_TRAY_TO (spec 06_tiers, R148)
  { blk := some .tier, off := 0x108, n := 1, stride := 4, pair := 0, flds := [rwIn 23 0 50 10 1000] },
  -- TIER_DIRTY (spec 06_tiers, R133)
  { blk := some .tier, off := 0x10C, n := 1, stride := 4, pair := 0, flds := [ro 27 0 0x0] },
  -- TIER_PT (spec 06_tiers, R136)
  { blk := some .tier, off := 0x110, n := 1, stride := 4, pair := 0, flds := [rwl 7 0 0xFF, rwl 23 8 0x0] },
  -- TIER_T4_BASE_LO (spec 06_tiers, R139)
  { blk := some .tier, off := 0x114, n := 1, stride := 4, pair := 0, flds := [rwl 31 0 0x0] },
  -- TIER_T4_BASE_HI (spec 06_tiers, R139)
  { blk := some .tier, off := 0x118, n := 1, stride := 4, pair := 0, flds := [rwl 31 0 0x0] },
  -- TIER_T4_CFG (spec 06_tiers, R139)
  { blk := some .tier, off := 0x11C, n := 1, stride := 4, pair := 0, flds := [rwl 7 0 0xFF, rwl 23 8 0x0] },
  -- TIER_REBUILD (spec 06_tiers, R152)
  { blk := some .tier, off := 0x120, n := 1, stride := 4, pair := 0, flds := [wo 17 0 0x0, w1s 18 18 0x0] },
  -- TIER_REBUILD_STAT (spec 06_tiers, R152)
  { blk := some .tier, off := 0x124, n := 1, stride := 4, pair := 0, flds := [ro 0 0 0x0, ro 31 16 0x0] },
  -- TIER_AREA_W0 (spec 06_tiers, R136)
  { blk := some .tier, off := 0x180, n := 16, stride := 8, pair := 0, flds := [rwl 7 0 0xFF, rwl 23 8 0x0] },
  -- TIER_AREA_W1 (spec 06_tiers, R136)
  { blk := some .tier, off := 0x184, n := 16, stride := 8, pair := 0, flds := [rwl 15 0 0x0] },
  -- TIER_POL_A (spec 06_tiers, R129)
  { blk := some .tier, off := 0x200, n := 16, stride := 8, pair := 0, flds := [rwl 0 0 0x1, rwl 1 1 0x0, rwl 2 2 0x0, rwl 3 3 0x0, rwl 4 4 0x0, rwlIn 31 16 600 1 65535] },
  -- TIER_POL_B (spec 06_tiers, R131)
  { blk := some .tier, off := 0x204, n := 16, stride := 8, pair := 0, flds := [rwlIn 14 0 1 1 16384, rwlIn 23 16 64 1 255, rwlIn 31 24 100 1 255] }]

/-- Registers of the PREF page. -/
def prefRegs : List RegDef := [
  -- PREF_LIMIT (spec 06_tiers, R144)
  { blk := some .pref, off := 0x100, n := 1, stride := 4, pair := 0, flds := [rwIn 9 0 256 1 524] },
  -- PREF_STAT (spec 06_tiers, R145)
  { blk := some .pref, off := 0x104, n := 1, stride := 4, pair := 0, flds := [ro 23 0 0x0] }]

/-- Registers of the CMPR page. -/
def cmprRegs : List RegDef := [
  -- CMPR_CTL (spec 07_compression_crypto, R164)
  { blk := some .cmpr, off := 0x100, n := 1, stride := 4, pair := 0, flds := [rw 0 0 0x0, rwl 4 4 0x1, rwl 5 5 0x1, rwl 6 6 0x1, rwl 7 7 0x1] },
  -- CMPR_SMAP_A (spec 07_compression_crypto, R159)
  { blk := some .cmpr, off := 0x104, n := 1, stride := 4, pair := 0, flds := [rwl 7 0 0xFF, rwl 23 8 0x0] },
  -- CMPR_SMAP_B (spec 07_compression_crypto, R159)
  { blk := some .cmpr, off := 0x108, n := 1, stride := 4, pair := 0, flds := [rwl 7 0 0xFF, rwl 23 8 0x0] },
  -- CMPR_SMAP_SIZE (spec 07_compression_crypto, R159)
  { blk := some .cmpr, off := 0x10C, n := 1, stride := 4, pair := 0, flds := [rwlIn 9 0 0 0 512] },
  -- CMPR_SIZEERR (spec 07_compression_crypto, R179)
  { blk := some .cmpr, off := 0x110, n := 1, stride := 4, pair := 0, flds := [w1c 0 0 0x0, ro 1 1 0x0, w1c 2 2 0x0, ro 3 3 0x0] },
  -- CMPR_SIZEERR_ADDR_LO (spec 07_compression_crypto, R179)
  { blk := some .cmpr, off := 0x114, n := 1, stride := 4, pair := 1, flds := [ro 31 0 0x0] },
  -- CMPR_SIZEERR_ADDR_HI (spec 07_compression_crypto, R179)
  { blk := some .cmpr, off := 0x118, n := 1, stride := 4, pair := 2, flds := [ro 15 0 0x0] }]

/-- Registers of the KEYS page. -/
def keysRegs : List RegDef := [
  -- KEYS_LOAD_STAT (spec 14_tenancy_security, R324)
  { blk := some .keys, off := 0x100, n := 1, stride := 4, pair := 0, flds := [ro 15 0 0x0, ro 27 16 0x0, w1c 31 31 0x0] },
  -- KEYS_COUNT (spec 14_tenancy_security, R320)
  { blk := some .keys, off := 0x104, n := 1, stride := 4, pair := 0, flds := [ro 12 0 0x0] }]

/-- Registers of the COLL page. -/
def collRegs : List RegDef := [
  -- COLL_CTL (spec 11_collectives, R274)
  { blk := some .coll, off := 0x100, n := 1, stride := 4, pair := 0, flds := [rwIn 23 0 10000 100 10000000, rwIn 27 24 1 1 8] },
  -- COLL_GDEF_LO (spec 11_collectives, R256)
  { blk := some .coll, off := 0x104, n := 1, stride := 4, pair := 0, flds := [rw 31 0 0x0] },
  -- COLL_GDEF_HI (spec 11_collectives, R256)
  { blk := some .coll, off := 0x108, n := 1, stride := 4, pair := 0, flds := [rw 15 0 0x0] },
  -- COLL_GCMD (spec 11_collectives, R256)
  { blk := some .coll, off := 0x10C, n := 1, stride := 4, pair := 0, flds := [rw 11 0 0x0, rw 13 12 0x0, w1s 14 14 0x0, ro 31 16 0x0] },
  -- COLL_GSTAT (spec 11_collectives, R268)
  { blk := some .coll, off := 0x110, n := 1, stride := 4, pair := 0, flds := [ro 15 0 0x0, ro 16 16 0x0, ro 17 17 0x0, ro 18 18 0x0, ro 19 19 0x0] },
  -- COLL_STAT (spec 11_collectives, R269)
  { blk := some .coll, off := 0x114, n := 1, stride := 4, pair := 0, flds := [ro 7 0 0x0, ro 20 8 0x0] }]

/-- Registers of the QOS page. -/
def qosRegs : List RegDef := [
  -- QOS_CTL (spec 13_qos, R311)
  { blk := some .qos, off := 0x100, n := 1, stride := 4, pair := 0, flds := [rw 0 0 0x0, rw 7 4 0xF] }]

/-- Registers of the PMON page. -/
def pmonRegs : List RegDef := [
  -- PMON_CTL (spec 19_perfmon, R407)
  { blk := some .pmon, off := 0x100, n := 1, stride := 4, pair := 0, flds := [rw 0 0 0x0, rw 1 1 0x0, w1s 2 2 0x0] },
  -- PMON_IDX (spec 19_perfmon, R405)
  { blk := some .pmon, off := 0x104, n := 1, stride := 4, pair := 0, flds := [rw 7 0 0x0] },
  -- PMON_CFG (spec 19_perfmon, R405)
  { blk := some .pmon, off := 0x108, n := 1, stride := 4, pair := 0, flds := [rw 0 0 0x0, rw 2 1 0x0, rw 4 3 0x0, rw 5 5 0x0, rw 12 6 0x0, rw 23 16 0x0, rw 31 24 0x0] },
  -- PMON_INST (spec 19_perfmon, R405)
  { blk := some .pmon, off := 0x10C, n := 1, stride := 4, pair := 0, flds := [rw 15 0 0xFFFF] },
  -- PMON_MATCH (spec 19_perfmon, R406)
  { blk := some .pmon, off := 0x110, n := 1, stride := 4, pair := 0, flds := [rw 15 0 0x0, rw 31 16 0x0] },
  -- PMON_BASE_LO (spec 19_perfmon, R406)
  { blk := some .pmon, off := 0x114, n := 1, stride := 4, pair := 0, flds := [rw 31 0 0x0] },
  -- PMON_BASE_HI (spec 19_perfmon, R406)
  { blk := some .pmon, off := 0x118, n := 1, stride := 4, pair := 0, flds := [rw 9 0 0x0] },
  -- PMON_LIMIT_LO (spec 19_perfmon, R406)
  { blk := some .pmon, off := 0x11C, n := 1, stride := 4, pair := 0, flds := [rw 31 0 0x0] },
  -- PMON_LIMIT_HI (spec 19_perfmon, R406)
  { blk := some .pmon, off := 0x120, n := 1, stride := 4, pair := 0, flds := [rw 9 0 0x0] },
  -- PMON_OVF (spec 19_perfmon, R403)
  { blk := some .pmon, off := 0x180, n := 8, stride := 4, pair := 0, flds := [w1c 31 0 0x0] },
  -- PMON_SMP_CTL (spec 19_perfmon, R408)
  { blk := some .pmon, off := 0x1A0, n := 1, stride := 4, pair := 0, flds := [rw 0 0 0x0, rw 1 1 0x0, rwIn 6 2 10 4 20, rw 15 8 0x0, rw 23 16 0xFF] },
  -- PMON_SMP_SEED (spec 19_perfmon, R408)
  { blk := some .pmon, off := 0x1A4, n := 1, stride := 4, pair := 0, flds := [rwIn 31 0 1 1 4294967295] },
  -- PMON_RING_LO (spec 19_perfmon, R410)
  { blk := some .pmon, off := 0x1A8, n := 1, stride := 4, pair := 0, flds := [rwl 31 0 0x0] },
  -- PMON_RING_HI (spec 19_perfmon, R410)
  { blk := some .pmon, off := 0x1AC, n := 1, stride := 4, pair := 0, flds := [rwl 15 0 0x0] },
  -- PMON_RING_SIZE (spec 19_perfmon, R410)
  { blk := some .pmon, off := 0x1B0, n := 1, stride := 4, pair := 0, flds := [rwlIn 4 0 10 10 22] },
  -- PMON_RING_HEAD (spec 19_perfmon, R410)
  { blk := some .pmon, off := 0x1B4, n := 1, stride := 4, pair := 0, flds := [ro 21 0 0x0] },
  -- PMON_RING_TAIL (spec 19_perfmon, R410)
  { blk := some .pmon, off := 0x1B8, n := 1, stride := 4, pair := 0, flds := [rw 21 0 0x0] },
  -- PMON_SMP_STAT (spec 19_perfmon, R410)
  { blk := some .pmon, off := 0x1BC, n := 1, stride := 4, pair := 0, flds := [rc 15 0 0x0, rc 31 16 0x0] },
  -- PMON_CNT_LO (spec 19_perfmon, R404)
  { blk := some .pmon, off := 0x800, n := 256, stride := 8, pair := 1, flds := [rw 31 0 0x0] },
  -- PMON_CNT_HI (spec 19_perfmon, R404)
  { blk := some .pmon, off := 0x804, n := 256, stride := 8, pair := 2, flds := [rw 15 0 0x0] }]

/-- Registers of the PORT page. -/
def portRegs : List RegDef := [
  -- PORT_CFG (spec 02_links, R27)
  { blk := some .port, off := 0x100, n := 1, stride := 4, pair := 0, flds := [rwl 1 0 0x0, rwl 3 2 0x0, rwl 4 4 0x1, rwl 6 5 0x0, rwl 7 7 0x0, rwl 8 8 0x0, rwl 9 9 0x1, rwl 10 10 0x1, rwl 11 11 0x0] },
  -- PORT_LSTAT (spec 02_links, R28)
  { blk := some .port, off := 0x104, n := 1, stride := 4, pair := 0, flds := [ro 0 0 0x0, ro 2 1 0x0, ro 4 3 0x0, ro 5 5 0x0, ro 6 6 0x0, ro 7 7 0x0, ro 9 8 0x0, ro 10 10 0x0, ro 31 16 0x0] },
  -- PORT_ERRS (spec 21_block_registers, R440)
  { blk := some .port, off := 0x108, n := 1, stride := 4, pair := 0, flds := [rc 15 0 0x0, rc 31 16 0x0] },
  -- PORT_FSTAT (spec 15_faults, R344)
  { blk := some .port, off := 0x10C, n := 1, stride := 4, pair := 0, flds := [ro 0 0 0x0, ro 1 1 0x0, w1c 2 2 0x0] },
  -- PORT_INJ (spec 21_block_registers, R440)
  { blk := some .port, off := 0x110, n := 1, stride := 4, pair := 0, flds := [w1s 0 0 0x0, w1s 1 1 0x0, w1s 2 2 0x0] }]

/-- Registers of the CORE page. -/
def coreRegs : List RegDef := [
  -- CORE_STAT (spec 08_cores, R205)
  { blk := some .core, off := 0x100, n := 1, stride := 4, pair := 0, flds := [ro 2 0 0x4, ro 3 3 0x0, ro 4 4 0x0, ro 16 5 0x0] },
  -- CORE_FAULT (spec 08_cores, R200)
  { blk := some .core, off := 0x104, n := 1, stride := 4, pair := 0, flds := [ro 3 0 0x0, w1c 4 4 0x0, ro 31 16 0x0] },
  -- CORE_PWR (spec 08_cores, R205)
  { blk := some .core, off := 0x108, n := 1, stride := 4, pair := 0, flds := [rw 7 0 0xA, rw 15 8 0xA, rw 23 16 0xA, rw 31 24 0x64] },
  -- CORE_WDOG (spec 08_cores, R200)
  { blk := some .core, off := 0x10C, n := 1, stride := 4, pair := 0, flds := [rwIn 23 0 1000 100 100000] },
  -- CORE_INJ (spec 21_block_registers, R441)
  { blk := some .core, off := 0x110, n := 1, stride := 4, pair := 0, flds := [rw 1 0 0x0, w1s 2 2 0x0, ro 3 3 0x0] }]

/-- Registers of the FILT page. -/
def filtRegs : List RegDef := [
  -- FILT_CTL (spec 12_search, R300)
  { blk := some .filt, off := 0x100, n := 1, stride := 4, pair := 0, flds := [rwl 1 0 0x0] },
  -- FILT_CASC (spec 12_search, R283)
  { blk := some .filt, off := 0x104, n := 1, stride := 4, pair := 0, flds := [rwl 6 0 0x0, rwl 14 8 0x0, rwl 15 15 0x0] },
  -- FILT_STAT (spec 12_search, R280)
  { blk := some .filt, off := 0x108, n := 1, stride := 4, pair := 0, flds := [ro 14 0 0x0] },
  -- FILT_ERRS (spec 12_search, R291)
  { blk := some .filt, off := 0x10C, n := 1, stride := 4, pair := 0, flds := [ro 15 0 0x0, ro 31 16 0x0] },
  -- FILT_LOSS (spec 12_search, R292)
  { blk := some .filt, off := 0x110, n := 1, stride := 4, pair := 0, flds := [ro 13 0 0x0, w1c 14 14 0x0, w1c 15 15 0x0] },
  -- FILT_CHAIN (spec 12_search, R285)
  { blk := some .filt, off := 0x180, n := 1, stride := 4, pair := 0, flds := [rwl 0 0 0x0, rwl 2 1 0x0, rwlIn 4 3 1 1 3, rwl 15 8 0x0, rwl 31 16 0x0] },
  -- FILT_CHAIN_CORES (spec 12_search, R286)
  { blk := some .filt, off := 0x184, n := 1, stride := 4, pair := 0, flds := [rwl 6 0 0x0, rwl 14 8 0x7F] },
  -- FILT_CHAIN_FEID (spec 12_search, R289)
  { blk := some .filt, off := 0x188, n := 4, stride := 4, pair := 0, flds := [rwl 15 0 0x0] },
  -- FILT_TUCK_G (spec 12_search, R295)
  { blk := some .filt, off := 0x1A0, n := 1, stride := 4, pair := 0, flds := [rw 22 0 0x0] },
  -- FILT_TUCK_H (spec 12_search, R295)
  { blk := some .filt, off := 0x1A4, n := 1, stride := 4, pair := 0, flds := [rw 22 0 0x0] },
  -- FILT_TUCK_CMD (spec 12_search, R295)
  { blk := some .filt, off := 0x1A8, n := 1, stride := 4, pair := 0, flds := [rw 2 0 0x0, w1s 3 3 0x0, ro 6 4 0x0, ro 31 16 0x0] },
  -- FILT_TUCK_CUR (spec 12_search, R296)
  { blk := some .filt, off := 0x1AC, n := 1, stride := 4, pair := 0, flds := [ro 22 0 0x0] },
  -- FILT_TUCK_ENT (spec 12_search, R295)
  { blk := some .filt, off := 0x1C0, n := 16, stride := 4, pair := 0, flds := [rw 31 0 0x0] }]

/-- Registers of the HBM page. -/
def hbmRegs : List RegDef := [
  -- HBM_PWR (spec 16_power_clock_reset, R370)
  { blk := some .hbm, off := 0x100, n := 1, stride := 4, pair := 0, flds := [rw 0 0 0x1, ro 1 1 0x0, rwIn 31 16 100 1 65535] },
  -- HBM_STAT (spec 21_block_registers, R440)
  { blk := some .hbm, off := 0x104, n := 1, stride := 4, pair := 0, flds := [ro 0 0 0x0, ro 1 1 0x0, ro 2 2 0x0, ro 15 8 0x0] },
  -- HBM_ECC (spec 21_block_registers, R440)
  { blk := some .hbm, off := 0x108, n := 1, stride := 4, pair := 0, flds := [rc 15 0 0x0, rc 31 16 0x0] },
  -- HBM_UE_LINE (spec 21_block_registers, R440)
  { blk := some .hbm, off := 0x10C, n := 1, stride := 4, pair := 0, flds := [ro 30 0 0x0, w1c 31 31 0x0] },
  -- HBM_INJ (spec 21_block_registers, R440)
  { blk := some .hbm, off := 0x110, n := 1, stride := 4, pair := 0, flds := [w1s 0 0 0x0, w1s 1 1 0x0] }]

/-- Registers of the CDIE page. -/
def cdieRegs : List RegDef := [
  -- CDIE_LINK (spec 21_block_registers, R442)
  { blk := some .cdie, off := 0x100, n := 1, stride := 4, pair := 0, flds := [ro 0 0 0x0, ro 1 1 0x0, ro 15 8 0x0, ro 23 16 0x0] },
  -- CDIE_RETRY (spec 21_block_registers, R442)
  { blk := some .cdie, off := 0x104, n := 1, stride := 4, pair := 0, flds := [rc 15 0 0x0, rc 31 16 0x0] },
  -- CDIE_ECC (spec 21_block_registers, R442)
  { blk := some .cdie, off := 0x108, n := 1, stride := 4, pair := 0, flds := [rc 15 0 0x0, rc 31 16 0x0] },
  -- CDIE_TEMP (spec 21_block_registers, R442)
  { blk := some .cdie, off := 0x10C, n := 1, stride := 4, pair := 0, flds := [ro 7 0 0x0] }]

/-- Registers of the PDIE page. -/
def pdieRegs : List RegDef := [
  -- PDIE_STAT (spec 21_block_registers, R443)
  { blk := some .pdie, off := 0x100, n := 1, stride := 4, pair := 0, flds := [ro 0 0 0x0] },
  -- PDIE_LANES (spec 21_block_registers, R443)
  { blk := some .pdie, off := 0x104, n := 4, stride := 4, pair := 0, flds := [ro 31 0 0x0] },
  -- PDIE_TEMP (spec 21_block_registers, R443)
  { blk := some .pdie, off := 0x114, n := 1, stride := 4, pair := 0, flds := [ro 7 0 0x0] }]

/-- Registers of the CTX page. -/
def ctxRegs : List RegDef := [
  -- CTX_BIND (spec 14_tenancy_security, R316)
  { blk := some .ctx, off := 0x100, n := 1, stride := 4, pair := 0, flds := [rwl 15 0 0x0, rwl 23 16 0x0] },
  -- CTX_CTL (spec 14_tenancy_security, R332)
  { blk := some .ctx, off := 0x104, n := 1, stride := 4, pair := 0, flds := [w1s 0 0 0x0, w1s 1 1 0x0] },
  -- CTX_STAT (spec 14_tenancy_security, R316)
  { blk := some .ctx, off := 0x108, n := 1, stride := 4, pair := 0, flds := [ro 1 0 0x0, ro 2 2 0x0, ro 3 3 0x0, ro 15 8 0x0] },
  -- CTX_DRAIN (spec 14_tenancy_security, R321)
  { blk := some .ctx, off := 0x10C, n := 1, stride := 4, pair := 0, flds := [ro 23 0 0x0] },
  -- CTX_KEYID (spec 14_tenancy_security, R320)
  { blk := some .ctx, off := 0x110, n := 1, stride := 4, pair := 0, flds := [ro 31 0 0x0] },
  -- CTX_QSTAT (spec 09_procedures, R213)
  { blk := some .ctx, off := 0x140, n := 1, stride := 4, pair := 0, flds := [ro 8 0 0x0, ro 17 9 0x0, ro 26 18 0x0] },
  -- CTX_QSEQ (spec 09_procedures, R212)
  { blk := some .ctx, off := 0x144, n := 1, stride := 4, pair := 0, flds := [ro 31 0 0x0] },
  -- CTX_QCTL (spec 09_procedures, R217)
  { blk := some .ctx, off := 0x148, n := 1, stride := 4, pair := 0, flds := [rw 1 0 0x2, rw 2 2 0x0] },
  -- CTX_QOS (spec 13_qos, R306)
  { blk := some .ctx, off := 0x150, n := 1, stride := 4, pair := 0, flds := [rw 3 0 0x0] },
  -- CTX_ENERGY_LO (spec 17_pocket, R391)
  { blk := some .ctx, off := 0x160, n := 1, stride := 4, pair := 1, flds := [ro 31 0 0x0] },
  -- CTX_ENERGY_HI (spec 17_pocket, R391)
  { blk := some .ctx, off := 0x164, n := 1, stride := 4, pair := 2, flds := [ro 31 0 0x0] },
  -- CTX_VCFG (spec 19_perfmon, R411)
  { blk := some .ctx, off := 0x170, n := 4, stride := 4, pair := 0, flds := [rw 7 0 0x0, rw 15 8 0x0, rw 22 16 0x0, rw 23 23 0x0, w1c 24 24 0x0] },
  -- CTX_STEP (spec 06_tiers, R143)
  { blk := some .ctx, off := 0x180, n := 1, stride := 4, pair := 0, flds := [wo 5 0 0x0, wo 6 6 0x0, wo 18 7 0x0] },
  -- CTX_PREF_LO (spec 06_tiers, R142)
  { blk := some .ctx, off := 0x184, n := 1, stride := 4, pair := 0, flds := [rw 31 0 0x0] },
  -- CTX_PREF_HI (spec 06_tiers, R142)
  { blk := some .ctx, off := 0x188, n := 1, stride := 4, pair := 0, flds := [rw 15 0 0x0] },
  -- CTX_PREF_CMD (spec 06_tiers, R142)
  { blk := some .ctx, off := 0x18C, n := 1, stride := 4, pair := 0, flds := [rw 5 0 0x0, rw 7 6 0x0, w1s 8 8 0x0, ro 31 16 0x0] },
  -- CTX_VCNT_LO (spec 19_perfmon, R411)
  { blk := some .ctx, off := 0x190, n := 4, stride := 8, pair := 1, flds := [ro 31 0 0x0] },
  -- CTX_VCNT_HI (spec 19_perfmon, R411)
  { blk := some .ctx, off := 0x194, n := 4, stride := 8, pair := 2, flds := [ro 15 0 0x0] },
  -- CTX_PREF_HEAD (spec 06_tiers, R147)
  { blk := some .ctx, off := 0x1B0, n := 1, stride := 4, pair := 0, flds := [rw 5 0 0x0, ro 31 16 0x0] },
  -- CTX_OWNER (spec 14_tenancy_security, R324)
  { blk := some .ctx, off := 0x1C0, n := 12, stride := 4, pair := 0, flds := [rwl 31 0 0x0] }]

/-- Registers of the WIN page. -/
def winRegs : List RegDef := [
  -- WIN_QOS_PORT (spec 20_register_conventions, R428)
  { blk := some .win, off := 0x000, n := 1, stride := 4, pair := 0, flds := [rw 7 0 0x0] },
  -- WIN_CAM_CORE (spec 20_register_conventions, R428)
  { blk := some .win, off := 0x004, n := 1, stride := 4, pair := 0, flds := [rw 6 0 0x0] },
  -- WIN_STAT (spec 20_register_conventions, R428)
  { blk := some .win, off := 0x008, n := 1, stride := 4, pair := 0, flds := [ro 15 0 0x0, ro 19 16 0x0, w1c 20 20 0x0] }]

/-- The registers of a block, the common header aside. -/
def blockRegs : Block → List RegDef
  | .dev => devRegs
  | .clk => clkRegs
  | .pwr => pwrRegs
  | .rst => rstRegs
  | .fw => fwRegs
  | .pocket => pocketRegs
  | .sec => secRegs
  | .live => liveRegs
  | .map => mapRegs
  | .home => homeRegs
  | .repl => replRegs
  | .pub => pubRegs
  | .atom => atomRegs
  | .tier => tierRegs
  | .pref => prefRegs
  | .cmpr => cmprRegs
  | .keys => keysRegs
  | .coll => collRegs
  | .qos => qosRegs
  | .pmon => pmonRegs
  | .port => portRegs
  | .core => coreRegs
  | .filt => filtRegs
  | .hbm => hbmRegs
  | .cdie => cdieRegs
  | .pdie => pdieRegs
  | .ctx => ctxRegs
  | .win => winRegs

/-- Where page `i` of a block starts (spec 20 R414; the window-control registers of R428 as a page of their own). -/
def pageBase (b : Block) (i : Nat) : Nat :=
  match b with
  | .dev => 0x0000 | .clk => 0x1000 | .pwr => 0x2000 | .rst => 0x3000 | .fw => 0x4000 | .pocket => 0x5000
  | .sec => 0x6000 | .live => 0x7000 | .map => 0x8000 | .home => 0x9000 | .repl => 0xA000 | .pub => 0xB000
  | .atom => 0xC000 | .tier => 0xD000 | .pref => 0xE000 | .cmpr => 0xF000 | .keys => 0x10000 | .coll => 0x11000
  | .qos => 0x12000 | .pmon => 0x13000
  | .port => 0x100000 + i * 0x1000 | .core => 0x200000 + i * 0x1000 | .filt => 0x280000 + i * 0x1000
  | .hbm => 0x300000 + i * 0x1000 | .cdie => 0x308000 + i * 0x1000 | .pdie => 0x310000 + i * 0x1000
  | .win => 0xFF0000 | .ctx => 0x1000000 + i * 0x1000

/-- How many pages a block has (spec 20 R414). -/
def pageCount : Block → Nat
  | .port => 256 | .core => 128 | .filt => 128 | .hbm => 8 | .cdie => 8 | .pdie => 8 | .ctx => 4096 | _ => 1

/-- The global pages in the order of their offsets (spec 20 R414). -/
def globalPages : List Block :=
  [.dev, .clk, .pwr, .rst, .fw, .pocket, .sec, .live, .map, .home, .repl, .pub, .atom, .tier, .pref, .cmpr, .keys,
   .coll, .qos, .pmon]

/-- The page an address lies in (spec 20 R414). -/
def pageOf (addr : Nat) : Option Page :=
  let p := addr / 0x1000
  if p < 0x14 then (globalPages[p]?).map (fun b => { blk := b })
  else if 0x100 ≤ p && p < 0x200 then some { blk := .port, inst := p - 0x100 }
  else if 0x200 ≤ p && p < 0x280 then some { blk := .core, inst := p - 0x200 }
  else if 0x280 ≤ p && p < 0x300 then some { blk := .filt, inst := p - 0x280 }
  else if 0x300 ≤ p && p < 0x308 then some { blk := .hbm, inst := p - 0x300 }
  else if 0x308 ≤ p && p < 0x310 then some { blk := .cdie, inst := p - 0x308 }
  else if 0x310 ≤ p && p < 0x318 then some { blk := .pdie, inst := p - 0x310 }
  else if p == 0xFF0 then some { blk := .win }
  else if 0x1000 ≤ p && p < 0x2000 then some { blk := .ctx, inst := p - 0x1000 }
  else none

/-- Whether a register definition covers an offset. -/
def RegDef.covers (d : RegDef) (off : Nat) : Bool :=
  d.off ≤ off && off < d.off + d.n * d.stride && (off - d.off) % d.stride == 0

/-- The register at an address, with its page (spec 20 R415): none where no register lies. -/
def regAt (addr : Nat) : Option (Page × RegDef) :=
  match pageOf addr with
  | none => none
  | some g =>
    let off := addr % 0x1000
    let defs := if off < 0x100 && g.blk != .win then hdrRegs else blockRegs g.blk
    let ok := !(g.blk == .filt && g.inst != 0 && 0x180 ≤ off)
    if ok then (defs.find? (fun d => d.covers off)).map (fun d => (g, d)) else none

/-- Block type codes of PG_ID.BLOCK (spec 19 R412's list; codes it does not name follow the page order, spec 20 R414). -/
def blockCode : Block → Nat
  | .dev => 0x01 | .clk => 0x02 | .pwr => 0x03 | .rst => 0x04 | .fw => 0x05 | .pocket => 0x06 | .sec => 0x07
  | .live => 0x08 | .map => 0x09 | .home => 0x0A | .repl => 0x0B | .pub => 0x0C | .atom => 0x0D | .tier => 0x0E
  | .pref => 0x0F | .cmpr => 0x10 | .keys => 0x11 | .coll => 0x12 | .qos => 0x13 | .pmon => 0x14
  | .port => 0x20 | .core => 0x21 | .filt => 0x22 | .hbm => 0x23 | .cdie => 0x24 | .pdie => 0x25 | .ctx => 0x30
  | .win => 0x00

/-- Blocks whose ENABLE resets to 1 and cannot be cleared (spec 20 R420). -/
def alwaysOn : Block → Bool
  | .dev | .clk | .pwr | .rst | .fw | .pocket | .sec | .cdie => true
  | _ => false

/-- The reset value of a register: its fields' reset values; PG_ID, PG_CTL, PG_STAT and FILT_CASC.FIRST depend on the
page (spec 20 R418, R420; 12). -/
def regReset (addr : Nat) : Nat :=
  match regAt addr with
  | none => 0
  | some (g, d) =>
    let base := d.flds.foldl (fun a f => a + f.rst <<< f.lo) 0
    match d.blk, d.off with
    | none, 0x000 => blockCode g.blk <<< 24 + g.inst
    | none, 0x008 => b2n (alwaysOn g.blk)
    | none, 0x00C => b2n (alwaysOn g.blk)
    | some .filt, 0x104 => g.inst
    | _, _ => base

end Sys2Proof.Machine
end

