-- ==== Sys2Proof/Machine/Fields.lean ====
section
/-! DEFINITION. A name for every register field (REGISTER_FIELD, as the spec spells them): where it lies. -/

namespace Sys2Proof.Machine

/-- Where a field lies: block (the header's fields name none), offset, bits and the stride of the copies. -/
structure FieldRef where
  off    : Nat
  hi     : Nat
  lo     : Nat
  stride : Nat := 4
deriving DecidableEq, Repr

/-- A field of a block's pages. -/
structure BlockField where
  blk : Block
  ref : FieldRef
deriving DecidableEq, Repr

abbrev PG_ID_INSTANCE : FieldRef := ⟨0x000, 15, 0, 4⟩
abbrev PG_ID_BLOCK : FieldRef := ⟨0x000, 31, 24, 4⟩
abbrev PG_VER_MINOR : FieldRef := ⟨0x004, 7, 0, 4⟩
abbrev PG_VER_MAJOR : FieldRef := ⟨0x004, 15, 8, 4⟩
abbrev PG_CTL_ENABLE : FieldRef := ⟨0x008, 0, 0, 4⟩
abbrev PG_CTL_QUIESCE : FieldRef := ⟨0x008, 1, 1, 4⟩
abbrev PG_CTL_SOFT_RESET : FieldRef := ⟨0x008, 2, 2, 4⟩
abbrev PG_CTL_LOCK : FieldRef := ⟨0x008, 31, 31, 4⟩
abbrev PG_STAT_ENABLED : FieldRef := ⟨0x00C, 0, 0, 4⟩
abbrev PG_STAT_BUSY : FieldRef := ⟨0x00C, 1, 1, 4⟩
abbrev PG_STAT_QUIESCED : FieldRef := ⟨0x00C, 2, 2, 4⟩
abbrev PG_STAT_ERR : FieldRef := ⟨0x00C, 3, 3, 4⟩
abbrev PG_REASON_CODE : FieldRef := ⟨0x010, 15, 0, 4⟩
abbrev PG_REASON_OFFSET : FieldRef := ⟨0x010, 31, 16, 4⟩
abbrev PG_ERR_ERR : FieldRef := ⟨0x014, 31, 0, 4⟩
abbrev PG_ERR_EN_EN : FieldRef := ⟨0x018, 31, 0, 4⟩
abbrev PG_ERR_INJ_INJ : FieldRef := ⟨0x01C, 31, 0, 4⟩
abbrev DEV_ID_DEVICE_ID : BlockField := ⟨.dev, ⟨0x100, 11, 0, 4⟩⟩
abbrev DEV_ID_FEID : BlockField := ⟨.dev, ⟨0x100, 31, 16, 4⟩⟩
abbrev DEV_CAP_PORT_DIES : BlockField := ⟨.dev, ⟨0x104, 7, 0, 4⟩⟩
abbrev DEV_CAP_COMPUTE_DIES : BlockField := ⟨.dev, ⟨0x104, 15, 8, 4⟩⟩
abbrev DEV_CAP_STACKS : BlockField := ⟨.dev, ⟨0x104, 23, 16, 4⟩⟩
abbrev DEV_CAP_STEPPING : BlockField := ⟨.dev, ⟨0x104, 31, 24, 4⟩⟩
abbrev DEV_SERIAL_LO_SERIAL : BlockField := ⟨.dev, ⟨0x108, 31, 0, 4⟩⟩
abbrev DEV_SERIAL_HI_SERIAL : BlockField := ⟨.dev, ⟨0x10C, 31, 0, 4⟩⟩
abbrev DEV_STATUS_SETTINGS_RESET : BlockField := ⟨.dev, ⟨0x110, 0, 0, 4⟩⟩
abbrev DEV_STATUS_UNSAVED : BlockField := ⟨.dev, ⟨0x110, 1, 1, 4⟩⟩
abbrev DEV_SAVE_GO : BlockField := ⟨.dev, ⟨0x114, 0, 0, 4⟩⟩
abbrev DEV_SAVE_AUTO : BlockField := ⟨.dev, ⟨0x114, 1, 1, 4⟩⟩
abbrev DEV_SAVE_BUSY : BlockField := ⟨.dev, ⟨0x114, 2, 2, 4⟩⟩
abbrev DEV_SAVE_FAILED : BlockField := ⟨.dev, ⟨0x114, 3, 3, 4⟩⟩
abbrev DEV_MAC_LO_MAC : BlockField := ⟨.dev, ⟨0x120, 31, 0, 4⟩⟩
abbrev DEV_MAC_HI_MAC : BlockField := ⟨.dev, ⟨0x124, 15, 0, 4⟩⟩
abbrev DEV_IP4_ADDR : BlockField := ⟨.dev, ⟨0x128, 31, 0, 4⟩⟩
abbrev DEV_IP4_MASK_MASK : BlockField := ⟨.dev, ⟨0x12C, 31, 0, 4⟩⟩
abbrev DEV_IP4_GW_GW : BlockField := ⟨.dev, ⟨0x130, 31, 0, 4⟩⟩
abbrev DEV_UDP_REG_PORT : BlockField := ⟨.dev, ⟨0x134, 15, 0, 4⟩⟩
abbrev DEV_UDP_MCTP_PORT : BlockField := ⟨.dev, ⟨0x134, 31, 16, 4⟩⟩
abbrev DEV_MGR_SRC : BlockField := ⟨.dev, ⟨0x138, 31, 0, 4⟩⟩
abbrev DEV_MGR_MASK_MASK : BlockField := ⟨.dev, ⟨0x13C, 31, 0, 4⟩⟩
abbrev DEV_NET_STAT_LINK_UP : BlockField := ⟨.dev, ⟨0x140, 0, 0, 4⟩⟩
abbrev DEV_NET_STAT_IP_VALID : BlockField := ⟨.dev, ⟨0x140, 1, 1, 4⟩⟩
abbrev DEV_NET_STAT_DROPPED : BlockField := ⟨.dev, ⟨0x140, 31, 16, 4⟩⟩
abbrev DEV_MCTP_EID : BlockField := ⟨.dev, ⟨0x144, 7, 0, 4⟩⟩
abbrev CLK_STAT_ROOT_LOCK : BlockField := ⟨.clk, ⟨0x100, 0, 0, 4⟩⟩
abbrev CLK_STAT_REFCLK_OK : BlockField := ⟨.clk, ⟨0x100, 1, 1, 4⟩⟩
abbrev CLK_STAT_PTM_LOCK : BlockField := ⟨.clk, ⟨0x100, 2, 2, 4⟩⟩
abbrev CLK_PTM_ROOT : BlockField := ⟨.clk, ⟨0x104, 0, 0, 4⟩⟩
abbrev CLK_PTM_PORT : BlockField := ⟨.clk, ⟨0x104, 15, 8, 4⟩⟩
abbrev CLK_TS_LO_TS : BlockField := ⟨.clk, ⟨0x108, 31, 0, 4⟩⟩
abbrev CLK_TS_HI_TS : BlockField := ⟨.clk, ⟨0x10C, 31, 0, 4⟩⟩
abbrev CLK_PTM_OFS_OFFSET_NS : BlockField := ⟨.clk, ⟨0x110, 31, 0, 4⟩⟩
abbrev PWR_STAT_FEED : BlockField := ⟨.pwr, ⟨0x100, 1, 0, 4⟩⟩
abbrev PWR_STAT_A_GOOD : BlockField := ⟨.pwr, ⟨0x100, 2, 2, 4⟩⟩
abbrev PWR_STAT_B_GOOD : BlockField := ⟨.pwr, ⟨0x100, 3, 3, 4⟩⟩
abbrev PWR_STAT_THROTTLE : BlockField := ⟨.pwr, ⟨0x100, 4, 4, 4⟩⟩
abbrev PWR_STAT_CAPPED : BlockField := ⟨.pwr, ⟨0x100, 5, 5, 4⟩⟩
abbrev PWR_CFG_RETURN_MS : BlockField := ⟨.pwr, ⟨0x104, 15, 0, 4⟩⟩
abbrev PWR_CAP_CAP : BlockField := ⟨.pwr, ⟨0x108, 7, 0, 4⟩⟩
abbrev PWR_XFER_COUNT : BlockField := ⟨.pwr, ⟨0x10C, 15, 0, 4⟩⟩
abbrev PWR_XFER_LAST_TO : BlockField := ⟨.pwr, ⟨0x10C, 17, 16, 4⟩⟩
abbrev PWR_VA_VOLTS : BlockField := ⟨.pwr, ⟨0x110, 12, 0, 4⟩⟩
abbrev PWR_VB_VOLTS : BlockField := ⟨.pwr, ⟨0x114, 12, 0, 4⟩⟩
abbrev PWR_TEMP_MAX_C : BlockField := ⟨.pwr, ⟨0x118, 7, 0, 4⟩⟩
abbrev PWR_TEMP_DIE : BlockField := ⟨.pwr, ⟨0x118, 12, 8, 4⟩⟩
abbrev PWR_INPUT_WATTS : BlockField := ⟨.pwr, ⟨0x11C, 15, 0, 4⟩⟩
abbrev RST_CMD_FLUSH : BlockField := ⟨.rst, ⟨0x100, 0, 0, 4⟩⟩
abbrev RST_CMD_GO : BlockField := ⟨.rst, ⟨0x100, 1, 1, 4⟩⟩
abbrev RST_STAT_STEP : BlockField := ⟨.rst, ⟨0x104, 3, 0, 4⟩⟩
abbrev RST_STAT_READY : BlockField := ⟨.rst, ⟨0x104, 4, 4, 4⟩⟩
abbrev RST_STAT_STOPPED : BlockField := ⟨.rst, ⟨0x104, 5, 5, 4⟩⟩
abbrev RST_STAT_STOP_CODE : BlockField := ⟨.rst, ⟨0x104, 31, 16, 4⟩⟩
abbrev RST_REASON_CAUSE : BlockField := ⟨.rst, ⟨0x108, 3, 0, 4⟩⟩
abbrev RST_REASON_FLUSHED : BlockField := ⟨.rst, ⟨0x108, 4, 4, 4⟩⟩
abbrev RST_REASON_DIRTY_LOST : BlockField := ⟨.rst, ⟨0x108, 5, 5, 4⟩⟩
abbrev RST_DIRTY_IDX_WORD : BlockField := ⟨.rst, ⟨0x10C, 12, 0, 4⟩⟩
abbrev RST_DIRTY_DATA_BITS : BlockField := ⟨.rst, ⟨0x110, 31, 0, 4⟩⟩
abbrev FW_STAT_ACTIVE : BlockField := ⟨.fw, ⟨0x100, 0, 0, 4⟩⟩
abbrev FW_STAT_NEXT : BlockField := ⟨.fw, ⟨0x100, 1, 1, 4⟩⟩
abbrev FW_STAT_A_VALID : BlockField := ⟨.fw, ⟨0x100, 2, 2, 4⟩⟩
abbrev FW_STAT_B_VALID : BlockField := ⟨.fw, ⟨0x100, 3, 3, 4⟩⟩
abbrev FW_STAT_BUSY : BlockField := ⟨.fw, ⟨0x100, 4, 4, 4⟩⟩
abbrev FW_STAT_REVERTED : BlockField := ⟨.fw, ⟨0x100, 5, 5, 4⟩⟩
abbrev FW_STAT_SVN_FUSE : BlockField := ⟨.fw, ⟨0x100, 12, 6, 4⟩⟩
abbrev FW_STAT_RESULT : BlockField := ⟨.fw, ⟨0x100, 31, 16, 4⟩⟩
abbrev FW_SRC_LO_ADDR : BlockField := ⟨.fw, ⟨0x104, 31, 0, 4⟩⟩
abbrev FW_SRC_HI_ADDR : BlockField := ⟨.fw, ⟨0x108, 31, 0, 4⟩⟩
abbrev FW_LEN_BYTES : BlockField := ⟨.fw, ⟨0x10C, 27, 0, 4⟩⟩
abbrev FW_CTL_OP : BlockField := ⟨.fw, ⟨0x110, 2, 0, 4⟩⟩
abbrev FW_CTL_GO : BlockField := ⟨.fw, ⟨0x110, 3, 3, 4⟩⟩
abbrev FW_CTL_AUTO_SVN : BlockField := ⟨.fw, ⟨0x110, 4, 4, 4⟩⟩
abbrev POCKET_STAT_ALIVE : BlockField := ⟨.pocket, ⟨0x100, 0, 0, 4⟩⟩
abbrev POCKET_STAT_FLAGS : BlockField := ⟨.pocket, ⟨0x100, 5, 1, 4⟩⟩
abbrev POCKET_MSEQ_SEQ : BlockField := ⟨.pocket, ⟨0x104, 31, 0, 4⟩⟩
abbrev POCKET_EA_LO_V : BlockField := ⟨.pocket, ⟨0x108, 31, 0, 4⟩⟩
abbrev POCKET_EA_HI_V : BlockField := ⟨.pocket, ⟨0x10C, 31, 0, 4⟩⟩
abbrev POCKET_EB_LO_V : BlockField := ⟨.pocket, ⟨0x110, 31, 0, 4⟩⟩
abbrev POCKET_EB_HI_V : BlockField := ⟨.pocket, ⟨0x114, 31, 0, 4⟩⟩
abbrev POCKET_RTC_LO_V : BlockField := ⟨.pocket, ⟨0x120, 31, 0, 4⟩⟩
abbrev POCKET_RTC_HI_V : BlockField := ⟨.pocket, ⟨0x124, 31, 0, 4⟩⟩
abbrev POCKET_VIA_CV : BlockField := ⟨.pocket, ⟨0x118, 15, 0, 4⟩⟩
abbrev POCKET_VIA_MA : BlockField := ⟨.pocket, ⟨0x118, 31, 16, 4⟩⟩
abbrev POCKET_VIB_CV : BlockField := ⟨.pocket, ⟨0x11C, 15, 0, 4⟩⟩
abbrev POCKET_VIB_MA : BlockField := ⟨.pocket, ⟨0x11C, 31, 16, 4⟩⟩
abbrev POCKET_SEAL_COUNT : BlockField := ⟨.pocket, ⟨0x128, 15, 0, 4⟩⟩
abbrev POCKET_NONCE_NONCE : BlockField := ⟨.pocket, ⟨0x130, 31, 0, 4⟩⟩
abbrev POCKET_DB_RING : BlockField := ⟨.pocket, ⟨0x140, 0, 0, 4⟩⟩
abbrev POCKET_DB_PENDING : BlockField := ⟨.pocket, ⟨0x140, 1, 1, 4⟩⟩
abbrev POCKET_DB_DONE : BlockField := ⟨.pocket, ⟨0x140, 2, 2, 4⟩⟩
abbrev POCKET_DB_DROPPED : BlockField := ⟨.pocket, ⟨0x140, 3, 3, 4⟩⟩
abbrev POCKET_LASTREC_REC : BlockField := ⟨.pocket, ⟨0x200, 31, 0, 4⟩⟩
abbrev POCKET_REQREC_REC : BlockField := ⟨.pocket, ⟨0x280, 31, 0, 4⟩⟩
abbrev POCKET_CERT_DER : BlockField := ⟨.pocket, ⟨0x400, 31, 0, 4⟩⟩
abbrev SEC_PROFILE_PROFILE : BlockField := ⟨.sec, ⟨0x100, 1, 0, 4⟩⟩
abbrev SEC_BATCH_LO_ADDR : BlockField := ⟨.sec, ⟨0x104, 31, 0, 4⟩⟩
abbrev SEC_BATCH_HI_ADDR : BlockField := ⟨.sec, ⟨0x108, 31, 0, 4⟩⟩
abbrev SEC_BATCH_CMD_GO : BlockField := ⟨.sec, ⟨0x10C, 0, 0, 4⟩⟩
abbrev SEC_BATCH_CMD_RESULT : BlockField := ⟨.sec, ⟨0x10C, 31, 16, 4⟩⟩
abbrev SEC_BATCH_IDX_INDEX : BlockField := ⟨.sec, ⟨0x110, 11, 0, 4⟩⟩
abbrev SEC_SEQ_LO_SEQ : BlockField := ⟨.sec, ⟨0x114, 31, 0, 4⟩⟩
abbrev SEC_SEQ_HI_SEQ : BlockField := ⟨.sec, ⟨0x118, 31, 0, 4⟩⟩
abbrev LIVE_CFG_MISS : BlockField := ⟨.live, ⟨0x100, 7, 0, 4⟩⟩
abbrev LIVE_CFG_CTO_MAX : BlockField := ⟨.live, ⟨0x100, 11, 8, 4⟩⟩
abbrev LIVE_STAT_STATE : BlockField := ⟨.live, ⟨0x104, 1, 0, 4⟩⟩
abbrev LIVE_STAT_FLUSHING : BlockField := ⟨.live, ⟨0x104, 2, 2, 4⟩⟩
abbrev LIVE_STAT_CAUSE : BlockField := ⟨.live, ⟨0x104, 5, 3, 4⟩⟩
abbrev LIVE_STAT_NDEV : BlockField := ⟨.live, ⟨0x104, 15, 8, 4⟩⟩
abbrev LIVE_STAT_FENCED : BlockField := ⟨.live, ⟨0x104, 31, 16, 4⟩⟩
abbrev LIVE_INCARN_INCARN : BlockField := ⟨.live, ⟨0x108, 15, 0, 4⟩⟩
abbrev LIVE_CMD_OP : BlockField := ⟨.live, ⟨0x10C, 1, 0, 4⟩⟩
abbrev LIVE_CMD_GO : BlockField := ⟨.live, ⟨0x10C, 2, 2, 4⟩⟩
abbrev LIVE_CMD_KIND : BlockField := ⟨.live, ⟨0x10C, 3, 3, 4⟩⟩
abbrev LIVE_CMD_PORT : BlockField := ⟨.live, ⟨0x10C, 15, 8, 4⟩⟩
abbrev LIVE_CMD_FEID : BlockField := ⟨.live, ⟨0x10C, 31, 16, 4⟩⟩
abbrev LIVE_CMD_STAT_RESULT : BlockField := ⟨.live, ⟨0x110, 15, 0, 4⟩⟩
abbrev LIVE_LAST_W0_FEID : BlockField := ⟨.live, ⟨0x114, 15, 0, 4⟩⟩
abbrev LIVE_LAST_W0_INCARN : BlockField := ⟨.live, ⟨0x114, 31, 16, 4⟩⟩
abbrev LIVE_LAST_W1_CAUSE : BlockField := ⟨.live, ⟨0x118, 2, 0, 4⟩⟩
abbrev LIVE_LAST_W1_PORT : BlockField := ⟨.live, ⟨0x118, 3, 3, 4⟩⟩
abbrev LIVE_LAST_W1_VALID : BlockField := ⟨.live, ⟨0x118, 4, 4, 4⟩⟩
abbrev LIVE_LAST_W1_MORE : BlockField := ⟨.live, ⟨0x118, 5, 5, 4⟩⟩
abbrev PROG_CTL_SNAP : BlockField := ⟨.live, ⟨0x180, 0, 0, 4⟩⟩
abbrev PROG_CTL_CLEAR : BlockField := ⟨.live, ⟨0x180, 1, 1, 4⟩⟩
abbrev PROG_CAUSE_CAUSE : BlockField := ⟨.live, ⟨0x184, 15, 0, 4⟩⟩
abbrev PROG_NORMAL_LO_NORMAL : BlockField := ⟨.live, ⟨0x188, 31, 0, 4⟩⟩
abbrev PROG_NORMAL_HI_NORMAL : BlockField := ⟨.live, ⟨0x18C, 31, 0, 4⟩⟩
abbrev PROG_DEGRADED_LO_DEGRADED : BlockField := ⟨.live, ⟨0x190, 31, 0, 4⟩⟩
abbrev PROG_DEGRADED_HI_DEGRADED : BlockField := ⟨.live, ⟨0x194, 31, 0, 4⟩⟩
abbrev PROG_RECOVERING_LO_RECOVERING : BlockField := ⟨.live, ⟨0x198, 31, 0, 4⟩⟩
abbrev PROG_RECOVERING_HI_RECOVERING : BlockField := ⟨.live, ⟨0x19C, 31, 0, 4⟩⟩
abbrev MAP_EPOCH_CURRENT : BlockField := ⟨.map, ⟨0x100, 15, 0, 4⟩⟩
abbrev MAP_EPOCH_DRAINING : BlockField := ⟨.map, ⟨0x100, 31, 16, 4⟩⟩
abbrev MAP_COMMIT_COMMIT : BlockField := ⟨.map, ⟨0x104, 0, 0, 4⟩⟩
abbrev MAP_STAT_DRAINING : BlockField := ⟨.map, ⟨0x108, 0, 0, 4⟩⟩
abbrev MAP_STAT_PENDING_READY : BlockField := ⟨.map, ⟨0x108, 1, 1, 4⟩⟩
abbrev MAP_STAT_DRAIN_EXPIRED : BlockField := ⟨.map, ⟨0x108, 2, 2, 4⟩⟩
abbrev MAP_STAT_RESULT : BlockField := ⟨.map, ⟨0x108, 31, 16, 4⟩⟩
abbrev MAP_DRAIN_LIMIT_US : BlockField := ⟨.map, ⟨0x10C, 23, 0, 4⟩⟩
abbrev MAP_INFLIGHT_COUNT : BlockField := ⟨.map, ⟨0x110, 31, 0, 4⟩⟩
abbrev MAP_XFER_EXTENT : BlockField := ⟨.map, ⟨0x114, 17, 0, 4⟩⟩
abbrev MAP_XFER_SLICE : BlockField := ⟨.map, ⟨0x114, 25, 18, 4⟩⟩
abbrev MAP_HO_LIMIT_LIMIT_US : BlockField := ⟨.map, ⟨0x118, 23, 0, 4⟩⟩
abbrev MAP_BADENT_INDEX : BlockField := ⟨.map, ⟨0x11C, 19, 0, 4⟩⟩
abbrev MAP_BADENT_TABLE : BlockField := ⟨.map, ⟨0x11C, 22, 20, 4⟩⟩
abbrev HOME_CTL_SPEC_EN : BlockField := ⟨.home, ⟨0x100, 0, 0, 4⟩⟩
abbrev HOME_TSNP_LIMIT_US : BlockField := ⟨.home, ⟨0x104, 23, 0, 4⟩⟩
abbrev HOME_SNPTO_PBR_ID : BlockField := ⟨.home, ⟨0x108, 11, 0, 4⟩⟩
abbrev HOME_SNPTO_PORT : BlockField := ⟨.home, ⟨0x108, 19, 12, 4⟩⟩
abbrev HOME_SNPTO_VALID : BlockField := ⟨.home, ⟨0x108, 20, 20, 4⟩⟩
abbrev HOME_SNPTO_MORE : BlockField := ⟨.home, ⟨0x108, 21, 21, 4⟩⟩
abbrev HOME_SNPTO_ADDR_LO_LINE_ADDR : BlockField := ⟨.home, ⟨0x10C, 31, 0, 4⟩⟩
abbrev HOME_SNPTO_ADDR_HI_LINE_ADDR : BlockField := ⟨.home, ⟨0x110, 15, 0, 4⟩⟩
abbrev HOME_DIRSTAT_ENTRIES : BlockField := ⟨.home, ⟨0x114, 27, 0, 4⟩⟩
abbrev HOME_DIRSTAT_MIRROR_OK : BlockField := ⟨.home, ⟨0x114, 28, 28, 4⟩⟩
abbrev REPL_CTL_LOCAL_EN : BlockField := ⟨.repl, ⟨0x100, 0, 0, 4⟩⟩
abbrev REPL_CTL_PEER_GRANT_EN : BlockField := ⟨.repl, ⟨0x100, 1, 1, 4⟩⟩
abbrev REPL_CTL_PEER_REQ_EN : BlockField := ⟨.repl, ⟨0x100, 2, 2, 4⟩⟩
abbrev REPL_CTL_PEER_MIN : BlockField := ⟨.repl, ⟨0x100, 23, 8, 4⟩⟩
abbrev REPL_CAP_GIB : BlockField := ⟨.repl, ⟨0x104, 9, 0, 4⟩⟩
abbrev REPL_STAT_LOCAL_PAGES : BlockField := ⟨.repl, ⟨0x108, 27, 0, 4⟩⟩
abbrev REPL_PEERS_PEERS_MAX : BlockField := ⟨.repl, ⟨0x10C, 6, 0, 4⟩⟩
abbrev PUB_CMD_REGION_REGION : BlockField := ⟨.pub, ⟨0x100, 31, 0, 4⟩⟩
abbrev PUB_CMD_ARG_TENANT : BlockField := ⟨.pub, ⟨0x104, 15, 0, 4⟩⟩
abbrev PUB_CMD_ARG_RETAIN : BlockField := ⟨.pub, ⟨0x104, 18, 16, 4⟩⟩
abbrev PUB_CMD_ARG_RREPL : BlockField := ⟨.pub, ⟨0x104, 19, 19, 4⟩⟩
abbrev PUB_CMD_OP : BlockField := ⟨.pub, ⟨0x108, 1, 0, 4⟩⟩
abbrev PUB_CMD_GO : BlockField := ⟨.pub, ⟨0x108, 2, 2, 4⟩⟩
abbrev PUB_STAT_RESULT : BlockField := ⟨.pub, ⟨0x10C, 15, 0, 4⟩⟩
abbrev PUB_STAT_RING_FULL : BlockField := ⟨.pub, ⟨0x10C, 16, 16, 4⟩⟩
abbrev PUB_COUNT_REGIONS : BlockField := ⟨.pub, ⟨0x110, 16, 0, 4⟩⟩
abbrev PUB_PINS_PINS : BlockField := ⟨.pub, ⟨0x114, 16, 0, 4⟩⟩
abbrev PUB_RING_LO_BASE : BlockField := ⟨.pub, ⟨0x118, 31, 0, 4⟩⟩
abbrev PUB_RING_HI_BASE : BlockField := ⟨.pub, ⟨0x11C, 15, 0, 4⟩⟩
abbrev PUB_RING_SIZE_LOG2 : BlockField := ⟨.pub, ⟨0x120, 4, 0, 4⟩⟩
abbrev PUB_RING_HEAD_HEAD : BlockField := ⟨.pub, ⟨0x124, 19, 0, 4⟩⟩
abbrev PUB_RING_TAIL_TAIL : BlockField := ⟨.pub, ⟨0x128, 19, 0, 4⟩⟩
abbrev ATOM_CTL_QUOTA : BlockField := ⟨.atom, ⟨0x100, 16, 0, 4⟩⟩
abbrev ATOM_STAT_ENTRIES : BlockField := ⟨.atom, ⟨0x104, 16, 0, 4⟩⟩
abbrev TIER_CTL_PROMOTE_EN : BlockField := ⟨.tier, ⟨0x100, 0, 0, 4⟩⟩
abbrev TIER_CTL_PACK_EN : BlockField := ⟨.tier, ⟨0x100, 1, 1, 4⟩⟩
abbrev TIER_NEAR_GIB : BlockField := ⟨.tier, ⟨0x104, 9, 0, 4⟩⟩
abbrev TIER_TRAY_TO_LIMIT_US : BlockField := ⟨.tier, ⟨0x108, 23, 0, 4⟩⟩
abbrev TIER_DIRTY_UNITS : BlockField := ⟨.tier, ⟨0x10C, 27, 0, 4⟩⟩
abbrev TIER_PT_PORT : BlockField := ⟨.tier, ⟨0x110, 7, 0, 4⟩⟩
abbrev TIER_PT_OFFSET_GIB : BlockField := ⟨.tier, ⟨0x110, 23, 8, 4⟩⟩
abbrev TIER_T4_BASE_LO_BASE : BlockField := ⟨.tier, ⟨0x114, 31, 0, 4⟩⟩
abbrev TIER_T4_BASE_HI_BASE : BlockField := ⟨.tier, ⟨0x118, 31, 0, 4⟩⟩
abbrev TIER_T4_CFG_PORT : BlockField := ⟨.tier, ⟨0x11C, 7, 0, 4⟩⟩
abbrev TIER_T4_CFG_SIZE_GIB : BlockField := ⟨.tier, ⟨0x11C, 23, 8, 4⟩⟩
abbrev TIER_REBUILD_EXTENT : BlockField := ⟨.tier, ⟨0x120, 17, 0, 4⟩⟩
abbrev TIER_REBUILD_GO : BlockField := ⟨.tier, ⟨0x120, 18, 18, 4⟩⟩
abbrev TIER_REBUILD_STAT_BUSY : BlockField := ⟨.tier, ⟨0x124, 0, 0, 4⟩⟩
abbrev TIER_REBUILD_STAT_RESULT : BlockField := ⟨.tier, ⟨0x124, 31, 16, 4⟩⟩
abbrev TIER_AREA_W0_PORT : BlockField := ⟨.tier, ⟨0x180, 7, 0, 8⟩⟩
abbrev TIER_AREA_W0_OFFSET_GIB : BlockField := ⟨.tier, ⟨0x180, 23, 8, 8⟩⟩
abbrev TIER_AREA_W1_SIZE_GIB : BlockField := ⟨.tier, ⟨0x184, 15, 0, 8⟩⟩
abbrev TIER_POL_A_T1_EN : BlockField := ⟨.tier, ⟨0x200, 0, 0, 8⟩⟩
abbrev TIER_POL_A_PAGED : BlockField := ⟨.tier, ⟨0x200, 1, 1, 8⟩⟩
abbrev TIER_POL_A_T3_EN : BlockField := ⟨.tier, ⟨0x200, 2, 2, 8⟩⟩
abbrev TIER_POL_A_T4_EN : BlockField := ⟨.tier, ⟨0x200, 3, 3, 8⟩⟩
abbrev TIER_POL_A_PROMOTE_T3_TO_T1 : BlockField := ⟨.tier, ⟨0x200, 4, 4, 8⟩⟩
abbrev TIER_POL_A_COLD_S : BlockField := ⟨.tier, ⟨0x200, 31, 16, 8⟩⟩
abbrev TIER_POL_B_STACK_RUN : BlockField := ⟨.tier, ⟨0x204, 14, 0, 8⟩⟩
abbrev TIER_POL_B_PROMOTE_READS : BlockField := ⟨.tier, ⟨0x204, 23, 16, 8⟩⟩
abbrev TIER_POL_B_WB_MS : BlockField := ⟨.tier, ⟨0x204, 31, 24, 8⟩⟩
abbrev PREF_LIMIT_GIB : BlockField := ⟨.pref, ⟨0x100, 9, 0, 4⟩⟩
abbrev PREF_STAT_PINNED : BlockField := ⟨.pref, ⟨0x104, 23, 0, 4⟩⟩
abbrev CMPR_CTL_STRICT : BlockField := ⟨.cmpr, ⟨0x100, 0, 0, 4⟩⟩
abbrev CMPR_CTL_ENC_EXP : BlockField := ⟨.cmpr, ⟨0x100, 4, 4, 4⟩⟩
abbrev CMPR_CTL_ENC_BD : BlockField := ⟨.cmpr, ⟨0x100, 5, 5, 4⟩⟩
abbrev CMPR_CTL_ENC_SPARSE : BlockField := ⟨.cmpr, ⟨0x100, 6, 6, 4⟩⟩
abbrev CMPR_CTL_ENC_MXP : BlockField := ⟨.cmpr, ⟨0x100, 7, 7, 4⟩⟩
abbrev CMPR_SMAP_A_PORT : BlockField := ⟨.cmpr, ⟨0x104, 7, 0, 4⟩⟩
abbrev CMPR_SMAP_A_OFFSET_GIB : BlockField := ⟨.cmpr, ⟨0x104, 23, 8, 4⟩⟩
abbrev CMPR_SMAP_B_PORT : BlockField := ⟨.cmpr, ⟨0x108, 7, 0, 4⟩⟩
abbrev CMPR_SMAP_B_OFFSET_GIB : BlockField := ⟨.cmpr, ⟨0x108, 23, 8, 4⟩⟩
abbrev CMPR_SMAP_SIZE_GIB : BlockField := ⟨.cmpr, ⟨0x10C, 9, 0, 4⟩⟩
abbrev CMPR_SIZEERR_VALID : BlockField := ⟨.cmpr, ⟨0x110, 0, 0, 4⟩⟩
abbrev CMPR_SIZEERR_OVERRUN : BlockField := ⟨.cmpr, ⟨0x110, 1, 1, 4⟩⟩
abbrev CMPR_SIZEERR_MORE : BlockField := ⟨.cmpr, ⟨0x110, 2, 2, 4⟩⟩
abbrev CMPR_SIZEERR_UNDERRUN : BlockField := ⟨.cmpr, ⟨0x110, 3, 3, 4⟩⟩
abbrev CMPR_SIZEERR_ADDR_LO_BLOCK_ADDR : BlockField := ⟨.cmpr, ⟨0x114, 31, 0, 4⟩⟩
abbrev CMPR_SIZEERR_ADDR_HI_BLOCK_ADDR : BlockField := ⟨.cmpr, ⟨0x118, 15, 0, 4⟩⟩
abbrev KEYS_LOAD_STAT_RESULT : BlockField := ⟨.keys, ⟨0x100, 15, 0, 4⟩⟩
abbrev KEYS_LOAD_STAT_CTX : BlockField := ⟨.keys, ⟨0x100, 27, 16, 4⟩⟩
abbrev KEYS_LOAD_STAT_VALID : BlockField := ⟨.keys, ⟨0x100, 31, 31, 4⟩⟩
abbrev KEYS_COUNT_LOADED : BlockField := ⟨.keys, ⟨0x104, 12, 0, 4⟩⟩
abbrev COLL_CTL_LIMIT_US : BlockField := ⟨.coll, ⟨0x100, 23, 0, 4⟩⟩
abbrev COLL_CTL_RS_SHARE : BlockField := ⟨.coll, ⟨0x100, 27, 24, 4⟩⟩
abbrev COLL_GDEF_LO_ADDR : BlockField := ⟨.coll, ⟨0x104, 31, 0, 4⟩⟩
abbrev COLL_GDEF_HI_ADDR : BlockField := ⟨.coll, ⟨0x108, 15, 0, 4⟩⟩
abbrev COLL_GCMD_GROUP : BlockField := ⟨.coll, ⟨0x10C, 11, 0, 4⟩⟩
abbrev COLL_GCMD_OP : BlockField := ⟨.coll, ⟨0x10C, 13, 12, 4⟩⟩
abbrev COLL_GCMD_GO : BlockField := ⟨.coll, ⟨0x10C, 14, 14, 4⟩⟩
abbrev COLL_GCMD_RESULT : BlockField := ⟨.coll, ⟨0x10C, 31, 16, 4⟩⟩
abbrev COLL_GSTAT_NEXT_SEQ : BlockField := ⟨.coll, ⟨0x110, 15, 0, 4⟩⟩
abbrev COLL_GSTAT_DEFINED : BlockField := ⟨.coll, ⟨0x110, 16, 16, 4⟩⟩
abbrev COLL_GSTAT_OPEN : BlockField := ⟨.coll, ⟨0x110, 17, 17, 4⟩⟩
abbrev COLL_GSTAT_MEMBER_FENCED : BlockField := ⟨.coll, ⟨0x110, 18, 18, 4⟩⟩
abbrev COLL_GSTAT_ROOT : BlockField := ⟨.coll, ⟨0x110, 19, 19, 4⟩⟩
abbrev COLL_STAT_OPEN_OPS : BlockField := ⟨.coll, ⟨0x114, 7, 0, 4⟩⟩
abbrev COLL_STAT_GROUPS : BlockField := ⟨.coll, ⟨0x114, 20, 8, 4⟩⟩
abbrev QOS_CTL_TOK_ON_CFG : BlockField := ⟨.qos, ⟨0x100, 0, 0, 4⟩⟩
abbrev QOS_CTL_BG_TC : BlockField := ⟨.qos, ⟨0x100, 7, 4, 4⟩⟩
abbrev PMON_CTL_FREEZE : BlockField := ⟨.pmon, ⟨0x100, 0, 0, 4⟩⟩
abbrev PMON_CTL_OVF_FREEZE : BlockField := ⟨.pmon, ⟨0x100, 1, 1, 4⟩⟩
abbrev PMON_CTL_CLEAR_ALL : BlockField := ⟨.pmon, ⟨0x100, 2, 2, 4⟩⟩
abbrev PMON_IDX_IDX : BlockField := ⟨.pmon, ⟨0x104, 7, 0, 4⟩⟩
abbrev PMON_CFG_EN : BlockField := ⟨.pmon, ⟨0x108, 0, 0, 4⟩⟩
abbrev PMON_CFG_PRIV : BlockField := ⟨.pmon, ⟨0x108, 2, 1, 4⟩⟩
abbrev PMON_CFG_MKIND : BlockField := ⟨.pmon, ⟨0x108, 4, 3, 4⟩⟩
abbrev PMON_CFG_ADDR_EN : BlockField := ⟨.pmon, ⟨0x108, 5, 5, 4⟩⟩
abbrev PMON_CFG_CLASS : BlockField := ⟨.pmon, ⟨0x108, 12, 6, 4⟩⟩
abbrev PMON_CFG_EVENT : BlockField := ⟨.pmon, ⟨0x108, 23, 16, 4⟩⟩
abbrev PMON_CFG_BLOCK : BlockField := ⟨.pmon, ⟨0x108, 31, 24, 4⟩⟩
abbrev PMON_INST_INST : BlockField := ⟨.pmon, ⟨0x10C, 15, 0, 4⟩⟩
abbrev PMON_MATCH_MVAL : BlockField := ⟨.pmon, ⟨0x110, 15, 0, 4⟩⟩
abbrev PMON_MATCH_MMASK : BlockField := ⟨.pmon, ⟨0x110, 31, 16, 4⟩⟩
abbrev PMON_BASE_LO_BASE : BlockField := ⟨.pmon, ⟨0x114, 31, 0, 4⟩⟩
abbrev PMON_BASE_HI_BASE : BlockField := ⟨.pmon, ⟨0x118, 9, 0, 4⟩⟩
abbrev PMON_LIMIT_LO_LIMIT : BlockField := ⟨.pmon, ⟨0x11C, 31, 0, 4⟩⟩
abbrev PMON_LIMIT_HI_LIMIT : BlockField := ⟨.pmon, ⟨0x120, 9, 0, 4⟩⟩
abbrev PMON_OVF_OVF : BlockField := ⟨.pmon, ⟨0x180, 31, 0, 4⟩⟩
abbrev PMON_SMP_CTL_EN : BlockField := ⟨.pmon, ⟨0x1A0, 0, 0, 4⟩⟩
abbrev PMON_SMP_CTL_KIND : BlockField := ⟨.pmon, ⟨0x1A0, 1, 1, 4⟩⟩
abbrev PMON_SMP_CTL_N : BlockField := ⟨.pmon, ⟨0x1A0, 6, 2, 4⟩⟩
abbrev PMON_SMP_CTL_FLT : BlockField := ⟨.pmon, ⟨0x1A0, 15, 8, 4⟩⟩
abbrev PMON_SMP_CTL_POINTS : BlockField := ⟨.pmon, ⟨0x1A0, 23, 16, 4⟩⟩
abbrev PMON_SMP_SEED_SEED : BlockField := ⟨.pmon, ⟨0x1A4, 31, 0, 4⟩⟩
abbrev PMON_RING_LO_BASE : BlockField := ⟨.pmon, ⟨0x1A8, 31, 0, 4⟩⟩
abbrev PMON_RING_HI_BASE : BlockField := ⟨.pmon, ⟨0x1AC, 15, 0, 4⟩⟩
abbrev PMON_RING_SIZE_LOG2 : BlockField := ⟨.pmon, ⟨0x1B0, 4, 0, 4⟩⟩
abbrev PMON_RING_HEAD_HEAD : BlockField := ⟨.pmon, ⟨0x1B4, 21, 0, 4⟩⟩
abbrev PMON_RING_TAIL_TAIL : BlockField := ⟨.pmon, ⟨0x1B8, 21, 0, 4⟩⟩
abbrev PMON_SMP_STAT_DROPPED : BlockField := ⟨.pmon, ⟨0x1BC, 15, 0, 4⟩⟩
abbrev PMON_SMP_STAT_MISSED : BlockField := ⟨.pmon, ⟨0x1BC, 31, 16, 4⟩⟩
abbrev PMON_CNT_LO_COUNT : BlockField := ⟨.pmon, ⟨0x800, 31, 0, 8⟩⟩
abbrev PMON_CNT_HI_COUNT : BlockField := ⟨.pmon, ⟨0x804, 15, 0, 8⟩⟩
abbrev PORT_CFG_ROLE : BlockField := ⟨.port, ⟨0x100, 1, 0, 4⟩⟩
abbrev PORT_CFG_WIDTH : BlockField := ⟨.port, ⟨0x100, 3, 2, 4⟩⟩
abbrev PORT_CFG_YD_EN : BlockField := ⟨.port, ⟨0x100, 4, 4, 4⟩⟩
abbrev PORT_CFG_MAX_RATE : BlockField := ⟨.port, ⟨0x100, 6, 5, 4⟩⟩
abbrev PORT_CFG_SRIS : BlockField := ⟨.port, ⟨0x100, 7, 7, 4⟩⟩
abbrev PORT_CFG_L1_EN : BlockField := ⟨.port, ⟨0x100, 8, 8, 4⟩⟩
abbrev PORT_CFG_L0P_EN : BlockField := ⟨.port, ⟨0x100, 9, 9, 4⟩⟩
abbrev PORT_CFG_IDE_REQ : BlockField := ⟨.port, ⟨0x100, 10, 10, 4⟩⟩
abbrev PORT_CFG_POD_EDGE : BlockField := ⟨.port, ⟨0x100, 11, 11, 4⟩⟩
abbrev PORT_LSTAT_UP : BlockField := ⟨.port, ⟨0x104, 0, 0, 4⟩⟩
abbrev PORT_LSTAT_RATE : BlockField := ⟨.port, ⟨0x104, 2, 1, 4⟩⟩
abbrev PORT_LSTAT_WIDTH : BlockField := ⟨.port, ⟨0x104, 4, 3, 4⟩⟩
abbrev PORT_LSTAT_MODE : BlockField := ⟨.port, ⟨0x104, 5, 5, 4⟩⟩
abbrev PORT_LSTAT_IDE_ACTIVE : BlockField := ⟨.port, ⟨0x104, 6, 6, 4⟩⟩
abbrev PORT_LSTAT_REVERSED : BlockField := ⟨.port, ⟨0x104, 7, 7, 4⟩⟩
abbrev PORT_LSTAT_PM : BlockField := ⟨.port, ⟨0x104, 9, 8, 4⟩⟩
abbrev PORT_LSTAT_YD_FALLBACK : BlockField := ⟨.port, ⟨0x104, 10, 10, 4⟩⟩
abbrev PORT_LSTAT_PARTNER_FEID : BlockField := ⟨.port, ⟨0x104, 31, 16, 4⟩⟩
abbrev PORT_ERRS_CRC_ERRS : BlockField := ⟨.port, ⟨0x108, 15, 0, 4⟩⟩
abbrev PORT_ERRS_REPLAYS : BlockField := ⟨.port, ⟨0x108, 31, 16, 4⟩⟩
abbrev PORT_FSTAT_FENCED : BlockField := ⟨.port, ⟨0x10C, 0, 0, 4⟩⟩
abbrev PORT_FSTAT_IDE_INSECURE : BlockField := ⟨.port, ⟨0x10C, 1, 1, 4⟩⟩
abbrev PORT_FSTAT_DOWN_UNQUIESCED : BlockField := ⟨.port, ⟨0x10C, 2, 2, 4⟩⟩
abbrev PORT_INJ_TX_CRC : BlockField := ⟨.port, ⟨0x110, 0, 0, 4⟩⟩
abbrev PORT_INJ_TX_BYTE : BlockField := ⟨.port, ⟨0x110, 1, 1, 4⟩⟩
abbrev PORT_INJ_RX_CRC : BlockField := ⟨.port, ⟨0x110, 2, 2, 4⟩⟩
abbrev CORE_STAT_PSTATE : BlockField := ⟨.core, ⟨0x100, 2, 0, 4⟩⟩
abbrev CORE_STAT_FENCED : BlockField := ⟨.core, ⟨0x100, 3, 3, 4⟩⟩
abbrev CORE_STAT_RUNNING : BlockField := ⟨.core, ⟨0x100, 4, 4, 4⟩⟩
abbrev CORE_STAT_CTX : BlockField := ⟨.core, ⟨0x100, 16, 5, 4⟩⟩
abbrev CORE_FAULT_CAUSE : BlockField := ⟨.core, ⟨0x104, 3, 0, 4⟩⟩
abbrev CORE_FAULT_VALID : BlockField := ⟨.core, ⟨0x104, 4, 4, 4⟩⟩
abbrev CORE_FAULT_COUNT : BlockField := ⟨.core, ⟨0x104, 31, 16, 4⟩⟩
abbrev CORE_PWR_DWELL_C1 : BlockField := ⟨.core, ⟨0x108, 7, 0, 4⟩⟩
abbrev CORE_PWR_DWELL_C2 : BlockField := ⟨.core, ⟨0x108, 15, 8, 4⟩⟩
abbrev CORE_PWR_DWELL_C3 : BlockField := ⟨.core, ⟨0x108, 23, 16, 4⟩⟩
abbrev CORE_PWR_DWELL_C4 : BlockField := ⟨.core, ⟨0x108, 31, 24, 4⟩⟩
abbrev CORE_WDOG_LIMIT_US : BlockField := ⟨.core, ⟨0x10C, 23, 0, 4⟩⟩
abbrev CORE_INJ_CAUSE : BlockField := ⟨.core, ⟨0x110, 1, 0, 4⟩⟩
abbrev CORE_INJ_ARM : BlockField := ⟨.core, ⟨0x110, 2, 2, 4⟩⟩
abbrev CORE_INJ_ARMED : BlockField := ⟨.core, ⟨0x110, 3, 3, 4⟩⟩
abbrev FILT_CTL_PLEAT : BlockField := ⟨.filt, ⟨0x100, 1, 0, 4⟩⟩
abbrev FILT_CASC_FIRST : BlockField := ⟨.filt, ⟨0x104, 6, 0, 4⟩⟩
abbrev FILT_CASC_COUNT : BlockField := ⟨.filt, ⟨0x104, 14, 8, 4⟩⟩
abbrev FILT_CASC_STITCH : BlockField := ⟨.filt, ⟨0x104, 15, 15, 4⟩⟩
abbrev FILT_STAT_ENTRIES : BlockField := ⟨.filt, ⟨0x108, 14, 0, 4⟩⟩
abbrev FILT_ERRS_FALSE_HITS : BlockField := ⟨.filt, ⟨0x10C, 15, 0, 4⟩⟩
abbrev FILT_ERRS_SCRUB_FIXES : BlockField := ⟨.filt, ⟨0x10C, 31, 16, 4⟩⟩
abbrev FILT_LOSS_ENTRY : BlockField := ⟨.filt, ⟨0x110, 13, 0, 4⟩⟩
abbrev FILT_LOSS_VALID : BlockField := ⟨.filt, ⟨0x110, 14, 14, 4⟩⟩
abbrev FILT_LOSS_MORE : BlockField := ⟨.filt, ⟨0x110, 15, 15, 4⟩⟩
abbrev FILT_CHAIN_EN : BlockField := ⟨.filt, ⟨0x180, 0, 0, 4⟩⟩
abbrev FILT_CHAIN_POS : BlockField := ⟨.filt, ⟨0x180, 2, 1, 4⟩⟩
abbrev FILT_CHAIN_LEN : BlockField := ⟨.filt, ⟨0x180, 4, 3, 4⟩⟩
abbrev FILT_CHAIN_ID : BlockField := ⟨.filt, ⟨0x180, 15, 8, 4⟩⟩
abbrev FILT_CHAIN_TENANT : BlockField := ⟨.filt, ⟨0x180, 31, 16, 4⟩⟩
abbrev FILT_CHAIN_CORES_FIRST : BlockField := ⟨.filt, ⟨0x184, 6, 0, 4⟩⟩
abbrev FILT_CHAIN_CORES_COUNT : BlockField := ⟨.filt, ⟨0x184, 14, 8, 4⟩⟩
abbrev FILT_CHAIN_FEID_FEID : BlockField := ⟨.filt, ⟨0x188, 15, 0, 4⟩⟩
abbrev FILT_TUCK_G_G : BlockField := ⟨.filt, ⟨0x1A0, 22, 0, 4⟩⟩
abbrev FILT_TUCK_H_H : BlockField := ⟨.filt, ⟨0x1A4, 22, 0, 4⟩⟩
abbrev FILT_TUCK_CMD_OP : BlockField := ⟨.filt, ⟨0x1A8, 2, 0, 4⟩⟩
abbrev FILT_TUCK_CMD_GO : BlockField := ⟨.filt, ⟨0x1A8, 3, 3, 4⟩⟩
abbrev FILT_TUCK_CMD_STATE : BlockField := ⟨.filt, ⟨0x1A8, 6, 4, 4⟩⟩
abbrev FILT_TUCK_CMD_RESULT : BlockField := ⟨.filt, ⟨0x1A8, 31, 16, 4⟩⟩
abbrev FILT_TUCK_CUR_CURSOR : BlockField := ⟨.filt, ⟨0x1AC, 22, 0, 4⟩⟩
abbrev FILT_TUCK_ENT_IMAGE : BlockField := ⟨.filt, ⟨0x1C0, 31, 0, 4⟩⟩
abbrev HBM_PWR_SR_EN : BlockField := ⟨.hbm, ⟨0x100, 0, 0, 4⟩⟩
abbrev HBM_PWR_IN_SR : BlockField := ⟨.hbm, ⟨0x100, 1, 1, 4⟩⟩
abbrev HBM_PWR_DWELL_MS : BlockField := ⟨.hbm, ⟨0x100, 31, 16, 4⟩⟩
abbrev HBM_STAT_TRAINED : BlockField := ⟨.hbm, ⟨0x104, 0, 0, 4⟩⟩
abbrev HBM_STAT_FAILED : BlockField := ⟨.hbm, ⟨0x104, 1, 1, 4⟩⟩
abbrev HBM_STAT_LIMITED : BlockField := ⟨.hbm, ⟨0x104, 2, 2, 4⟩⟩
abbrev HBM_STAT_TEMP_C : BlockField := ⟨.hbm, ⟨0x104, 15, 8, 4⟩⟩
abbrev HBM_ECC_CE : BlockField := ⟨.hbm, ⟨0x108, 15, 0, 4⟩⟩
abbrev HBM_ECC_UE : BlockField := ⟨.hbm, ⟨0x108, 31, 16, 4⟩⟩
abbrev HBM_UE_LINE_LINE : BlockField := ⟨.hbm, ⟨0x10C, 30, 0, 4⟩⟩
abbrev HBM_UE_LINE_VALID : BlockField := ⟨.hbm, ⟨0x10C, 31, 31, 4⟩⟩
abbrev HBM_INJ_CE : BlockField := ⟨.hbm, ⟨0x110, 0, 0, 4⟩⟩
abbrev HBM_INJ_UE : BlockField := ⟨.hbm, ⟨0x110, 1, 1, 4⟩⟩
abbrev CDIE_LINK_PDIE_UP : BlockField := ⟨.cdie, ⟨0x100, 0, 0, 4⟩⟩
abbrev CDIE_LINK_COMPUTE_UP : BlockField := ⟨.cdie, ⟨0x100, 1, 1, 4⟩⟩
abbrev CDIE_LINK_PDIE_REPAIRED : BlockField := ⟨.cdie, ⟨0x100, 15, 8, 4⟩⟩
abbrev CDIE_LINK_COMPUTE_REPAIRED : BlockField := ⟨.cdie, ⟨0x100, 23, 16, 4⟩⟩
abbrev CDIE_RETRY_PDIE : BlockField := ⟨.cdie, ⟨0x104, 15, 0, 4⟩⟩
abbrev CDIE_RETRY_COMPUTE : BlockField := ⟨.cdie, ⟨0x104, 31, 16, 4⟩⟩
abbrev CDIE_ECC_CE : BlockField := ⟨.cdie, ⟨0x108, 15, 0, 4⟩⟩
abbrev CDIE_ECC_UE : BlockField := ⟨.cdie, ⟨0x108, 31, 16, 4⟩⟩
abbrev CDIE_TEMP_TEMP_C : BlockField := ⟨.cdie, ⟨0x10C, 7, 0, 4⟩⟩
abbrev PDIE_STAT_CALIBRATED : BlockField := ⟨.pdie, ⟨0x100, 0, 0, 4⟩⟩
abbrev PDIE_LANES_FAILED : BlockField := ⟨.pdie, ⟨0x104, 31, 0, 4⟩⟩
abbrev PDIE_TEMP_TEMP_C : BlockField := ⟨.pdie, ⟨0x114, 7, 0, 4⟩⟩
abbrev CTX_BIND_TENANT : BlockField := ⟨.ctx, ⟨0x100, 15, 0, 4⟩⟩
abbrev CTX_BIND_SLICE : BlockField := ⟨.ctx, ⟨0x100, 23, 16, 4⟩⟩
abbrev CTX_CTL_RETIRE : BlockField := ⟨.ctx, ⟨0x104, 0, 0, 4⟩⟩
abbrev CTX_CTL_CTX_RESET : BlockField := ⟨.ctx, ⟨0x104, 1, 1, 4⟩⟩
abbrev CTX_STAT_STATE : BlockField := ⟨.ctx, ⟨0x108, 1, 0, 4⟩⟩
abbrev CTX_STAT_KEYED : BlockField := ⟨.ctx, ⟨0x108, 2, 2, 4⟩⟩
abbrev CTX_STAT_COOLING : BlockField := ⟨.ctx, ⟨0x108, 3, 3, 4⟩⟩
abbrev CTX_STAT_GEN : BlockField := ⟨.ctx, ⟨0x108, 15, 8, 4⟩⟩
abbrev CTX_DRAIN_COUNT : BlockField := ⟨.ctx, ⟨0x10C, 23, 0, 4⟩⟩
abbrev CTX_KEYID_KEY_ID : BlockField := ⟨.ctx, ⟨0x110, 31, 0, 4⟩⟩
abbrev CTX_QSTAT_DEPTH : BlockField := ⟨.ctx, ⟨0x140, 8, 0, 4⟩⟩
abbrev CTX_QSTAT_RUNNING : BlockField := ⟨.ctx, ⟨0x140, 17, 9, 4⟩⟩
abbrev CTX_QSTAT_PARKED : BlockField := ⟨.ctx, ⟨0x140, 26, 18, 4⟩⟩
abbrev CTX_QSEQ_LAST_SEQ : BlockField := ⟨.ctx, ⟨0x144, 31, 0, 4⟩⟩
abbrev CTX_QCTL_PRIO_MAX : BlockField := ⟨.ctx, ⟨0x148, 1, 0, 4⟩⟩
abbrev CTX_QCTL_PAUSE : BlockField := ⟨.ctx, ⟨0x148, 2, 2, 4⟩⟩
abbrev CTX_QOS_TC : BlockField := ⟨.ctx, ⟨0x150, 3, 0, 4⟩⟩
abbrev CTX_ENERGY_LO_UWH : BlockField := ⟨.ctx, ⟨0x160, 31, 0, 4⟩⟩
abbrev CTX_ENERGY_HI_UWH : BlockField := ⟨.ctx, ⟨0x164, 31, 0, 4⟩⟩
abbrev CTX_VCFG_EVENT : BlockField := ⟨.ctx, ⟨0x170, 7, 0, 4⟩⟩
abbrev CTX_VCFG_BLOCK : BlockField := ⟨.ctx, ⟨0x170, 15, 8, 4⟩⟩
abbrev CTX_VCFG_CLASS : BlockField := ⟨.ctx, ⟨0x170, 22, 16, 4⟩⟩
abbrev CTX_VCFG_EN : BlockField := ⟨.ctx, ⟨0x170, 23, 23, 4⟩⟩
abbrev CTX_VCFG_OVF : BlockField := ⟨.ctx, ⟨0x170, 24, 24, 4⟩⟩
abbrev CTX_STEP_SCHED : BlockField := ⟨.ctx, ⟨0x180, 5, 0, 4⟩⟩
abbrev CTX_STEP_SET : BlockField := ⟨.ctx, ⟨0x180, 6, 6, 4⟩⟩
abbrev CTX_STEP_STEP : BlockField := ⟨.ctx, ⟨0x180, 18, 7, 4⟩⟩
abbrev CTX_PREF_LO_ADDR : BlockField := ⟨.ctx, ⟨0x184, 31, 0, 4⟩⟩
abbrev CTX_PREF_HI_ADDR : BlockField := ⟨.ctx, ⟨0x188, 15, 0, 4⟩⟩
abbrev CTX_PREF_CMD_SCHED : BlockField := ⟨.ctx, ⟨0x18C, 5, 0, 4⟩⟩
abbrev CTX_PREF_CMD_OP : BlockField := ⟨.ctx, ⟨0x18C, 7, 6, 4⟩⟩
abbrev CTX_PREF_CMD_GO : BlockField := ⟨.ctx, ⟨0x18C, 8, 8, 4⟩⟩
abbrev CTX_PREF_CMD_RESULT : BlockField := ⟨.ctx, ⟨0x18C, 31, 16, 4⟩⟩
abbrev CTX_VCNT_LO_COUNT : BlockField := ⟨.ctx, ⟨0x190, 31, 0, 8⟩⟩
abbrev CTX_VCNT_HI_COUNT : BlockField := ⟨.ctx, ⟨0x194, 15, 0, 8⟩⟩
abbrev CTX_PREF_HEAD_SCHED : BlockField := ⟨.ctx, ⟨0x1B0, 5, 0, 4⟩⟩
abbrev CTX_PREF_HEAD_HEAD : BlockField := ⟨.ctx, ⟨0x1B0, 31, 16, 4⟩⟩
abbrev CTX_OWNER_DIGEST : BlockField := ⟨.ctx, ⟨0x1C0, 31, 0, 4⟩⟩
abbrev WIN_QOS_PORT_PORT : BlockField := ⟨.win, ⟨0x000, 7, 0, 4⟩⟩
abbrev WIN_CAM_CORE_CORE : BlockField := ⟨.win, ⟨0x004, 6, 0, 4⟩⟩
abbrev WIN_STAT_CODE : BlockField := ⟨.win, ⟨0x008, 15, 0, 4⟩⟩
abbrev WIN_STAT_WINDOW : BlockField := ⟨.win, ⟨0x008, 19, 16, 4⟩⟩
abbrev WIN_STAT_ABANDONED : BlockField := ⟨.win, ⟨0x008, 20, 20, 4⟩⟩

end Sys2Proof.Machine
end

