-- ==== Sys2Proof/Machine/Ops.lean ====
section
/-! DEFINITION. The shared operations: tables, registers and their fields, PG_ERR and event records, event counting,
egress queues, and lines of pool memory. -/

namespace Sys2Proof.Machine

/-- What a meaning answers. -/
abbrev Out := Host.Outcome State Fault Refusal

/-! ### Tables -/

/-- The value under a key. -/
def Tbl.get? {α : Type} : Tbl α → Nat → Option α
  | [], _ => none
  | (k, v) :: t, x => if k = x then some v else Tbl.get? t x

/-- The value under a key, or a default. -/
def Tbl.get {α : Type} (t : Tbl α) (x : Nat) (d : α) : α := (Tbl.get? t x).getD d

/-- Sets the value under a key, keys kept rising. -/
def Tbl.put {α : Type} : Tbl α → Nat → α → Tbl α
  | [], x, v => [(x, v)]
  | (k, w) :: t, x, v =>
    if x < k then (x, v) :: (k, w) :: t else if x = k then (x, v) :: t else (k, w) :: Tbl.put t x v

/-- Removes a key. -/
def Tbl.del {α : Type} (t : Tbl α) (x : Nat) : Tbl α := t.filter (fun e => e.1 != x)

/-- Sets a value where the table lists only values other than the default `d`: the canonical form. -/
def Tbl.putD {α : Type} [DecidableEq α] (t : Tbl α) (x : Nat) (d v : α) : Tbl α :=
  if v = d then Tbl.del t x else Tbl.put t x v

/-- Changes the value under a key, from `d` where it lists none. -/
def Tbl.mod {α : Type} (t : Tbl α) (x : Nat) (d : α) (f : α → α) : Tbl α := Tbl.put t x (f (Tbl.get t x d))

/-- The keys. -/
def Tbl.keys {α : Type} (t : Tbl α) : List Nat := t.map (·.1)

/-- Keys rise strictly. -/
def Tbl.sorted {α : Type} : Tbl α → Bool
  | [] => true
  | [_] => true
  | a :: b :: t => decide (a.1 < b.1) && Tbl.sorted (b :: t)

/-- Sets a flag in a list of marked numbers, rising and without repeats. -/
def setAdd : List Nat → Nat → List Nat
  | [], x => [x]
  | k :: t, x => if x < k then x :: k :: t else if x = k then k :: t else k :: setAdd t x

/-- Clears a flag in a list of marked numbers. -/
def setDel (l : List Nat) (x : Nat) : List Nat := l.filter (fun y => y != x)

/-- Sets or clears a flag. -/
def setPut (l : List Nat) (x : Nat) (b : Bool) : List Nat := if b then setAdd l x else setDel l x

/-- The numbers of a list in rising order, by insertion. -/
def sortBy {α : Type} (lt : α → α → Bool) : List α → List α
  | [] => []
  | x :: t => ins (sortBy lt t) x
where
  /-- Inserts before the first element that x does not follow. -/
  ins : List α → α → List α
    | [], x => [x]
    | y :: t, x => if lt y x then y :: ins t x else x :: y :: t

/-! ### Bits -/

/-- Replaces bits [hi:lo] of a number. -/
def insBits (n hi lo v : Nat) : Nat :=
  (n >>> (hi + 1)) <<< (hi + 1) + (v % 2 ^ (hi + 1 - lo)) <<< lo + n % 2 ^ lo

/-- Byte i of a number. -/
def byteOf (n i : Nat) : Byte := BitVec.ofNat 8 (n >>> (8 * i))

/-- The n low bytes of a number, least significant first (spec 00 R2). -/
def bytesOf (n : Nat) (v : Nat) : List Byte := (List.range n).map (byteOf v)

/-- The number little-endian bytes hold (spec 00 R2). -/
def ofBytes : List Byte → Nat
  | [] => 0
  | b :: t => b.toNat + 256 * ofBytes t

/-- The line a list of bytes holds. -/
def lineOf (l : List Byte) : Line := BitVec.ofNat 512 (ofBytes l)

/-- The bytes of a line. -/
def lineBytes (d : Line) : List Byte := bytesOf 64 d.toNat

/-- The four slots of a line. -/
def lineSlots (d : Line) : List Slot := (List.range 4).map (fun i => BitVec.ofNat 128 (d.toNat >>> (128 * i)))

/-- The number slots hold, slot 0 lowest. -/
def ofSlots : List Slot → Nat
  | [] => 0
  | b :: t => b.toNat + 2 ^ 128 * ofSlots t

/-- The runs of set bits of a byte mask: first byte and length, in order. -/
def maskRuns (mask : BitVec 64) : List (Nat × Nat) :=
  (List.range 64).foldl
    (fun (l : List (Nat × Nat)) i =>
      if mask.getLsbD i then
        match l.getLast? with
        | some (a, n) => if a + n = i then l.dropLast ++ [(a, n + 1)] else l ++ [(i, 1)]
        | none => [(i, 1)]
      else l) []

/-! ### Registers -/

/-- The value a register holds. -/
def State.reg (s : State) (a : Nat) : Nat := (Tbl.get s.regs a (BitVec.ofNat 32 (regReset a))).toNat

/-- Sets a register. -/
def State.setReg (s : State) (a v : Nat) : State :=
  { s with regs := Tbl.putD s.regs a (BitVec.ofNat 32 (regReset a)) (BitVec.ofNat 32 v) }

/-- Address of copy k of a field's register on a page. -/
def FieldRef.at (f : FieldRef) (g : Page) (k : Nat := 0) : Nat := pageBase g.blk g.inst + f.off + k * f.stride

/-- A header field of a page. -/
def State.hrd (s : State) (g : Page) (f : FieldRef) : Nat := bits (s.reg (f.at g)) f.hi f.lo

/-- Sets a header field of a page. -/
def State.hset (s : State) (g : Page) (f : FieldRef) (v : Nat) : State :=
  s.setReg (f.at g) (insBits (s.reg (f.at g)) f.hi f.lo v)

/-- A field of block instance i, copy k. -/
def State.rd (s : State) (f : BlockField) (i : Nat := 0) (k : Nat := 0) : Nat :=
  bits (s.reg (f.ref.at ⟨f.blk, i⟩ k)) f.ref.hi f.ref.lo

/-- Sets a field of block instance i, copy k. -/
def State.set (s : State) (f : BlockField) (v : Nat) (i : Nat := 0) (k : Nat := 0) : State :=
  s.setReg (f.ref.at ⟨f.blk, i⟩ k) (insBits (s.reg (f.ref.at ⟨f.blk, i⟩ k)) f.ref.hi f.ref.lo v)

/-- A one-bit field as a Bool. -/
def State.flag (s : State) (f : BlockField) (i : Nat := 0) : Bool := s.rd f i == 1

/-- PG_STAT.ENABLED of a page. -/
def State.enabled (s : State) (b : Block) (i : Nat := 0) : Bool := s.hrd ⟨b, i⟩ PG_STAT_ENABLED == 1

/-- A page holds new work: PG_CTL.QUIESCE = 1, or a disable or soft reset quiesces it first (spec 20 R419, 01 R20, 02 R466). -/
def State.quiescing (s : State) (b : Block) (i : Nat := 0) : Bool :=
  s.hrd ⟨b, i⟩ PG_CTL_QUIESCE == 1 || s.closing.contains ⟨b, i⟩

/-- Adds to a saturating field. -/
def State.addSat (s : State) (f : BlockField) (n : Nat := 1) (i : Nat := 0) : State :=
  s.set f (min (s.rd f i + n) (2 ^ (f.ref.hi + 1 - f.ref.lo) - 1)) i

/-- PG_STAT.ERR (spec 20 R418). -/
def State.pgErr (s : State) (g : Page) : Nat := s.reg (PG_ERR_ERR.at g)

/-- Sets a PG_ERR bit; a bit newly set whose PG_ERR_EN bit is 1 posts one event record (spec 20 R424). -/
def State.err (s : State) (g : Page) (b : Nat) : State :=
  let old := s.pgErr g
  if bit old b then s
  else
    let s := s.setReg (PG_ERR_ERR.at g) (old ||| 2 ^ b)
    if bit (s.reg (PG_ERR_EN_EN.at g)) b then
      { s with mgmt := { s.mgmt with events := s.mgmt.events ++ [(blockCode g.blk, g.inst, b, s.ts.toNat)] } }
    else s

/-- A fresh free value, and the state that has used it. -/
def State.fresh (s : State) : Nat × State := (Config.freeValue s.free, { s with free := s.free + 1 })

/-- Records an output. -/
def State.emit (s : State) (o : Output) : State := { s with out := o :: s.out }

/-! ### Event counting (spec 19) -/

/-- An occurrence of an event with its attributes (spec 19 R406, R412). Master kinds: 1 PBR ID, 2 FEID, 3 context. -/
structure Occ where
  blk    : Block
  code   : Nat
  inst   : Nat := 0
  n      : Nat := 1
  master : Option (Nat × Nat) := none
  addr   : Option Nat := none
  cls    : Option Nat := none
  ctx    : Option Nat := none
  tenant : Bool := false
deriving DecidableEq, Repr

/-- Reset contents of registers 0x108 to 0x120 of a counter (spec 19). -/
def pmonCfgReset : List Word := [0, 0xFFFF, 0, 0, 0, 0, 0]

/-- Whether an occurrence passes the filters a counter enables (spec 19 R406). -/
def pmonFilters (words : List Word) (o : Occ) : Bool :=
  let w (i : Nat) : Nat := ((words[i]?).getD 0).toNat
  let cfg := w 0
  let tenantCaused := o.tenant || o.ctx.isSome
  let priv := match bits cfg 2 1 with
    | 0 => true | 1 => tenantCaused | 2 => !tenantCaused | _ => false
  let mk := bits cfg 4 3
  let mval := bits (w 2) 15 0
  let mmask := bits (w 2) 31 16
  let mas := mk == 0 || (match o.master with
    | some (k, v) => k == mk && (v ^^^ mval) &&& mmask == 0
    | none => false)
  let base := w 3 + 2 ^ 32 * w 4
  let limit := w 5 + 2 ^ 32 * w 6
  let adr := !bit cfg 5 || (match o.addr with
    | some a => base ≤ a / 64 && a / 64 ≤ limit
    | none => false)
  let cm := bits cfg 12 6
  let cls := cm == 0 || (match o.cls with
    | some k => bit cm k
    | none => false)
  priv && mas && adr && cls

/-- Whether a counter selects an event (spec 19 R405). -/
def pmonSelects (words : List Word) (o : Occ) : Bool :=
  let w (i : Nat) : Nat := ((words[i]?).getD 0).toNat
  bits (w 0) 31 24 == blockCode o.blk && bits (w 0) 23 16 == o.code &&
    (globalPages.contains o.blk || bits (w 1) 15 0 == 0xFFFF || bits (w 1) 15 0 == o.inst)

/-- Whether an occurrence passes the event selection and filters of a counter (spec 19 R405, R406). -/
def pmonPasses (c : List Word) (o : Occ) : Bool := pmonSelects c o && pmonFilters c o

/-- Adds to a 48-bit counter: its new value and whether it carried (spec 19 R403). -/
def addCount (v n : Nat) : Nat × Bool := ((v + n) % 2 ^ 48, 2 ^ 48 ≤ v + n)

/-- Sets PMON_OVF bit i, and PMON_CTL.FREEZE under OVF_FREEZE (spec 19 R403, R407). -/
def State.pmonOvf (s : State) (i : Nat) : State :=
  let a := 0x13180 + 4 * (i / 32)
  let s := s.setReg a (s.reg a ||| 2 ^ (i % 32))
  if s.flag PMON_CTL_OVF_FREEZE then s.set PMON_CTL_FREEZE 1 else s

/-- Adds an occurrence to physical counter i where it passes (spec 19 R403, R406). -/
def State.countOne (o : Occ) (s : State) (c : Nat × List Word) : State :=
  if bit ((c.2[0]?).getD 0).toNat 0 && pmonPasses c.2 o then
    let r := addCount (Tbl.get s.pmon.cnt c.1 0) o.n
    let s := { s with pmon := { s.pmon with cnt := Tbl.putD s.pmon.cnt c.1 0 r.1 } }
    if r.2 then s.pmonOvf c.1 else s
  else s

/-- Whether virtual counter k of a context counts an occurrence (spec 19 R411). -/
def vcntPasses (cfg : Nat) (o : Occ) : Bool :=
  bit cfg 23 && bits cfg 15 8 == blockCode o.blk && bits cfg 7 0 == o.code &&
    (bits cfg 22 16 == 0 || (match o.cls with | some k => bit (bits cfg 22 16) k | none => false))

/-- Adds an occurrence to virtual counter k of its context (spec 19 R411). -/
def State.vcount (o : Occ) (x : Nat) (s : State) (k : Nat) : State :=
  let a := 0x1000000 + x * 0x1000 + 0x170 + 4 * k
  if vcntPasses (s.reg a) o then
    let r := addCount (Tbl.get s.pmon.vcnt (4 * x + k) 0) o.n
    let s := { s with pmon := { s.pmon with vcnt := Tbl.putD s.pmon.vcnt (4 * x + k) 0 r.1 } }
    if r.2 then s.setReg a (s.reg a ||| 2 ^ 24) else s
  else s

/-- Counts an occurrence: the model's own tally of every event, the physical counters while PMON is enabled and not
frozen, and the virtual counters of its context (spec 19 R403, R411). -/
def State.count (s : State) (o : Occ) : State :=
  let key := blockCode o.blk * 2 ^ 24 + o.code * 2 ^ 16 + (if globalPages.contains o.blk then 0 else o.inst)
  let s := { s with pmon := { s.pmon with events := Tbl.mod s.pmon.events key 0 (· + o.n) } }
  let s := if s.enabled .pmon && !s.flag PMON_CTL_FREEZE then s.pmon.cfg.foldl (State.countOne o) s else s
  match o.ctx with
  | none => s
  | some x => (List.range 4).foldl (State.vcount o x) s

/-- How often an event has been counted (the model's own tally). -/
def State.tally (s : State) (b : Block) (code : Nat) (inst : Nat := 0) : Nat :=
  Tbl.get s.pmon.events (blockCode b * 2 ^ 24 + code * 2 ^ 16 + (if globalPages.contains b then 0 else inst)) 0

/-! ### Pool memory: bytes and lines (spec 00 R2, 03 R59, 04 R93) -/

/-- The byte at an address; memory nothing has written reads 0 (DESIGN CHOICE, assumption log 2). -/
def Memory.read (m : List Host.Cell) (a : Nat) : Byte := Tbl.get m a 0

/-- Writes a byte. -/
def Memory.write (m : List Host.Cell) (a : Nat) (b : Byte) : List Host.Cell := Tbl.putD m a 0 b

/-- The canonical form: addresses strictly rising, no entry equal to what an unlisted address reads as. -/
def Memory.wf (m : List Host.Cell) : Bool := Tbl.sorted m && m.all (fun c => c.2 != 0)

/-- The line at a 64-byte aligned address. -/
def Memory.readLine (m : List Host.Cell) (a : Nat) : Line := lineOf ((List.range 64).map (fun i => Memory.read m (a + i)))

/-- Writes the bytes of a line whose mask bit is set. -/
def Memory.writeLine (m : List Host.Cell) (a : Nat) (mask : BitVec 64) (d : Line) : List Host.Cell :=
  (List.range 64).foldl
    (fun m i => if mask.getLsbD i then Memory.write m (a + i) (byteOf d.toNat i) else m) m

/-- Writes a run of bytes. -/
def Memory.writeBytes (m : List Host.Cell) (a : Nat) : List Byte → List Host.Cell
  | [] => m
  | b :: t => Memory.writeBytes (Memory.write m a b) (a + 1) t

/-- The address of the line an address lies in. -/
def lineAddr (a : Nat) : Nat := a / 64 * 64

/-- The mask that covers a whole line. -/
def fullMask : BitVec 64 := BitVec.allOnes 64

/-! ### Ports -/

/-- The link state of a logical port. -/
def State.port (s : State) (p : Nat) : PortSt := Tbl.get s.ports p {}

/-- Changes the link state of a logical port. -/
def State.modPort (s : State) (p : Nat) (f : PortSt → PortSt) : State := { s with ports := Tbl.mod s.ports p {} f }

/-- Port roles (spec 02 R27). -/
inductive Role where
  | leaf | tray | trunk | mgmt
deriving DecidableEq, Repr

/-- The role of a port (spec 02 R27). -/
def State.role (s : State) (p : Nat) : Role :=
  match s.rd PORT_CFG_ROLE p with
  | 0 => .leaf
  | 1 => .tray
  | 2 => .trunk
  | _ => .mgmt

/-- PORT_LSTAT.UP = 1. -/
def State.up (s : State) (p : Nat) : Bool := s.rd PORT_LSTAT_UP p == 1

/-- The link is up, in L0, L0p or L1, or retrains: a request that meets L1 waits for the exit, and a retrain loses nothing
(spec 02 R43, 16 R369). -/
def State.linked (s : State) (p : Nat) : Bool := s.up p || s.rd PORT_LSTAT_PM p == 2 || (s.port p).retraining

/-- The link runs YD. -/
def State.ydUp (s : State) (p : Nat) : Bool := s.linked p && s.rd PORT_LSTAT_MODE p == 1

/-- The logical port numbers. -/
def allPorts : List Nat := List.range 256

/-! ### Egress queues (spec 13) -/

/-- Port record A after DEV_RESET (spec 13, Port records and tenant nodes). -/
def qosAReset : Nat :=
  0xFFFFFEDCBA987654 + 0x101010101010101010101010 * 2 ^ 64 + 15 * 2 ^ 164
    + (200 + 256 * 2 ^ 24) * 2 ^ 296 + 0x2E50 * 2 ^ 336

/-- A tenant node after DEV_RESET: WEIGHT 16, node 0 VALID. -/
def qosNodeReset (n : Nat) : Nat := 16 * 2 ^ 32 + (if n = 0 then 1 else 0)

/-- Key of port record A, port record B and a tenant node in State.qos. -/
def qosAKey (p : Nat) : Nat := 2 * p
def qosBKey (p : Nat) : Nat := 2 * p + 1
def qosNodeKey (p n : Nat) : Nat := 512 + 4096 * p + n

/-- Reset contents of an entry of State.qos. -/
def qosReset (k : Nat) : Nat :=
  if k < 512 then (if k % 2 = 0 then qosAReset else 0) else qosNodeReset ((k - 512) % 4096)

/-- An entry as written. -/
def State.qosWritten (s : State) (k : Nat) : Nat := Tbl.get s.qos k (qosReset k)

/-- An entry in force: the reset contents while QOS is disabled (spec 13 R315). -/
def State.qosInForce (s : State) (k : Nat) : Nat := if s.enabled .qos then s.qosWritten k else qosReset k

/-- Tenant nodes a port's tables list, node 0 always among them. -/
def State.qosNodes (s : State) (p : Nat) : List Nat :=
  if s.enabled .qos then
    setAdd ((s.qos.keys.filter (fun k => qosNodeKey p 0 ≤ k && k < qosNodeKey (p + 1) 0)).map (· - qosNodeKey p 0)) 0
  else [0]

/-- The node that serves a tenant's messages: the lowest VALID node of that tenant, else node 0 (spec 13 R309). -/
def State.qosNodeOf (s : State) (p : Nat) (tenant : Option Nat) : Nat :=
  match tenant with
  | none => 0
  | some t =>
    ((s.qosNodes p).find? (fun n =>
      n != 0 && bit (s.qosInForce (qosNodeKey p n)) 0 && bits (s.qosInForce (qosNodeKey p n)) 31 16 == t)).getD 0

/-- CXL_TC of a port's record (spec 13 R306). -/
def State.cxlTc (s : State) (p : Nat) : Nat := bits (s.qosInForce (qosAKey p)) 163 160

/-- Puts a message into one of the strict queues Q0 to Q3 of a port (spec 13 R305). -/
def State.sendQ (s : State) (p q : Nat) (m : Msg) : State :=
  s.modPort p (fun x => { x with egress := x.egress ++ [{ q := q, msg := m }] })

/-- Traffic kinds of the tenant tree (spec 13 R309). -/
abbrev kindRead : Nat := 0
abbrev kindWrite : Nat := 1
abbrev kindWriteback : Nat := 2
abbrev kindStage : Nat := 3
abbrev kindMigrate : Nat := 4
abbrev kindRebuild : Nat := 5
abbrev kindReplica : Nat := 6
abbrev kindForward : Nat := 7

/-- The place of a message on the weighted side of a port: queue TCMAP[tc] on LEAF and MGMT ports, else the tenant's node and the class
SC_MAP gives the kind (spec 13 R306, R309). -/
def State.placeW (s : State) (p tc : Nat) (tenant : Option Nat) (kind : Nat) (m : Msg) : Queued :=
  let a := s.qosInForce (qosAKey p)
  match s.role p with
  | .leaf | .mgmt => { q := bits a (4 * tc + 3) (4 * tc), msg := m }
  | .tray | .trunk => { q := 16, node := s.qosNodeOf p tenant, sc := bits a (337 + 2 * kind) (336 + 2 * kind), msg := m }

/-- Puts a message on the weighted side of a port. -/
def State.sendW (s : State) (p tc : Nat) (tenant : Option Nat) (kind : Nat) (m : Msg) : State :=
  let e := s.placeW p tc tenant kind m
  s.modPort p (fun x => { x with egress := x.egress ++ [e] })

end Sys2Proof.Machine
end

