-- ==== Sys2Proof/Machine/Compress.lean ====
section
/-! DEFINITION. The Aisko block format: the expander and the compressor (spec 07 R162 to R168, R178). A block is its
256 bytes; a coded block its size-map entry and its stream. -/

namespace Sys2Proof.Machine

/-- Bits of an element of a data type code in the block format (spec 07 R162; 08). -/
def aiskoWidth (ty : Nat) : Nat :=
  match ty with
  | 0x0 => 32 | 0x1 => 16 | 0x2 => 16 | 0x3 => 8 | 0x4 => 8 | 0x5 => 8 | 0x6 => 6 | 0x7 => 4
  | 0x8 => 8 | 0xA => 32 | 0xB => 32 | 0xC => 64
  | _ => 8

/-- Exponent bits of the types EXP codes. -/
def aiskoExpBits (ty : Nat) : Nat :=
  match ty with
  | 0x1 => 8 | 0x2 => 5 | 0x3 => 4 | _ => 5

/-- Whether the format lists a TYPE for an ENC (spec 07 R162). -/
def aiskoListed (enc ty : Nat) : Bool :=
  match enc with
  | 1 => [1, 2, 3, 4].contains ty
  | 2 => [8, 0xA, 0xB, 0xC].contains ty
  | 3 => [0, 1, 2, 3, 4, 8, 0xA, 0xB, 0xC].contains ty
  | 4 => [5, 6, 7].contains ty
  | _ => false

/-- MX blocks of a 256 B block (spec 07, MXP). -/
def mxpMax (ty : Nat) : Nat :=
  match ty with
  | 5 => 7 | 6 => 10 | _ => 15

/-- k bits of a stream from bit position b: none where they run past the `limit` bits read. -/
def takeBits (v limit b k : Nat) : Option Nat := if b + k ≤ limit then some (bits v (b + k - 1 + (if k = 0 then 1 else 0)) b % 2 ^ k) else none

/-- Puts k-bit fields one after another, LSB first, padded to a byte (spec 07 R163). -/
def packBits (k : Nat) (l : List Nat) : List Byte :=
  bytesOf ((k * l.length + 7) / 8) (l.foldr (fun v acc => v % 2 ^ k + 2 ^ k * acc) 0)

/-- The w-bit elements of a block. -/
def elementsOf (w : Nat) (block : Nat) : List Nat := (List.range (2048 / w)).map (fun i => (block >>> (w * i)) % 2 ^ w)

/-- What an expansion delivers: the 256 bytes as a number, and the size cases it met. -/
structure Expanded where
  block : Nat
  overrun  : Bool := false
  underrun : Bool := false
deriving DecidableEq, Repr

/-- Elements in index order until the first that cannot be produced. -/
def takeWhileSome : List (Option Nat) → List Nat
  | [] => []
  | none :: _ => []
  | some x :: t => x :: takeWhileSome t

/-- The number the w-bit elements of a list hold. -/
def ofElements (w : Nat) (l : List Nat) : Nat := l.foldr (fun v acc => v % 2 ^ w + 2 ^ w * acc) 0

/-- Delivers `n` described elements of which `got` were produced (spec 07 R178). -/
def deliverElements (w n : Nat) (got : List Nat) : Expanded :=
  { block := ofElements w got % 2 ^ 2048, overrun := 2048 < n * w,
    underrun := decide (n * w < 2048) || decide (got.length < min n (2048 / w)) }

/-- How many of the first i codes satisfy a test. -/
def countBefore (p : Nat → Bool) (l : List (Option Nat)) (i : Nat) : Nat :=
  ((l.take i).filter (fun c => match c with | some c => p c | none => false)).length

/-- The EXP decoder (spec 07 R165). -/
def expandExp (ty v limit : Nat) : Expanded :=
  let w := aiskoWidth ty
  let ew := aiskoExpBits ty
  let n := 2048 / w
  let g := n / 16
  let ctl := bits v 15 8
  let e := ctl % 128
  let one := bit ctl 7
  let cw := if one then 1 else 2
  let codeAt := 8 * (2 + g)
  let codes := (List.range n).map (fun i => takeBits v limit (codeAt + cw * i) cw)
  let isZero (c : Nat) : Bool := !one && c == 2
  let isEsc (c : Nat) : Bool := if one then c == 1 else c == 3
  let planeAt := codeAt + n * cw
  let ns := countBefore (fun c => !isZero c) codes n
  let escAt := planeAt + 8 * ((ns * (w - ew) + 7) / 8)
  let elem (i : Nat) : Option Nat :=
    match codes[i]? with
    | some (some c) =>
      if isZero c then some 0
      else
        let sm := takeBits v limit (planeAt + (w - ew) * countBefore (fun c => !isZero c) codes i) (w - ew)
        let base := takeBits v limit (8 * (2 + i / 16)) ew
        let expo : Option Nat :=
          if isEsc c then
            let k := countBefore isEsc codes i
            if k < e then takeBits v limit (escAt + 8 * k) ew else none
          else if c = 0 then base
          else base.map (fun b => (b + 2 ^ ew - 1) % 2 ^ ew)
        match sm, expo with
        | some m, some x =>
          let mb := w - 1 - ew
          some (m % 2 ^ mb + x * 2 ^ mb + (m / 2 ^ mb) * 2 ^ (w - 1))
        | _, _ => none
    | _ => none
  deliverElements w n (takeWhileSome ((List.range n).map elem))

/-- The BD decoder (spec 07 R166). -/
def expandBd (ty v limit : Nat) : Expanded :=
  let w := aiskoWidth ty
  let d := bits v 15 8
  let n := if bits v 23 16 = 0 then 256 else bits v 23 16
  let base := bits v (24 + w - 1) 24
  let elem (i : Nat) : Option Nat := (takeBits v limit (24 + w + d * i) d).map (fun x => (base + x) % 2 ^ w)
  deliverElements w n (takeWhileSome ((List.range (min n (2048 / w))).map elem))

/-- The SPARSE decoder (spec 07 R167). -/
def expandSparse (ty v limit : Nat) : Expanded :=
  let w := aiskoWidth ty
  let n := 2048 / w
  let mask := (List.range n).map (fun i => takeBits v limit (8 + i) 1)
  let elem (i : Nat) : Option Nat :=
    match mask[i]? with
    | some (some 0) => some 0
    | some (some _) => takeBits v limit (8 + n + w * countBefore (fun c => c == 1) mask i) w
    | _ => none
  deliverElements w n (takeWhileSome ((List.range n).map elem))

/-- The MXP decoder (spec 07 R168): the MX packing with zero padding; nothing follows the first element that cannot be
produced (DEDUCED, assumption log 9). -/
def expandMxp (ty v limit : Nat) : Expanded :=
  let w := aiskoWidth ty
  let k := bits v 15 8
  let kmax := mxpMax ty
  let bw := 8 + 32 * w
  let mask := (List.range (32 * min k kmax)).map (fun i => takeBits v limit (16 + 8 * k + i) 1)
  let elem (i : Nat) : Option Nat :=
    match takeBits v limit (16 + 8 * (i / 32)) 8, mask[i]? with
    | some _, some (some 0) => some 0
    | some _, some (some _) => takeBits v limit (16 + 8 * k + 32 * k + w * countBefore (fun c => c == 1) mask i) w
    | _, _ => none
  let got := takeWhileSome ((List.range (32 * min k kmax)).map elem)
  let blocks := (got.length + 31) / 32
  let block := (List.range blocks).foldl
    (fun acc b =>
      let els := (got.drop (32 * b)).take 32
      acc + (bits v (16 + 8 * b + 7) (16 + 8 * b) + 2 ^ 8 * ofElements w els) * 2 ^ (bw * b)) 0
  { block := block % 2 ^ 2048, overrun := kmax < k, underrun := decide (k < kmax) || decide (got.length < 32 * min k kmax) }

/-- Expands a block from its size-map entry and its stored lines as a number (spec 07 R157, R162, R178). -/
def aiskoExpand (entry v : Nat) : Expanded :=
  if entry = 0 then { block := 0 }
  else if 4 ≤ entry then { block := v % 2 ^ 2048 }
  else
    let enc := v % 16
    let ty := bits v 7 4
    let limit := 512 * entry
    if aiskoListed enc ty then
      match enc with
      | 1 => expandExp ty v limit
      | 2 => expandBd ty v limit
      | 3 => expandSparse ty v limit
      | _ => expandMxp ty v limit
    else { block := 0, underrun := true }

/-! ### The compressor (spec 07 R163 to R168) -/

/-- An exponent field. -/
def expoOf (ty x : Nat) : Nat := (x >>> (aiskoWidth ty - 1 - aiskoExpBits ty)) % 2 ^ aiskoExpBits ty

/-- EXP coding of a block: none where its escapes exceed the limit. -/
def compressExp (ty : Nat) (one : Bool) (block : Nat) : Option (List Byte) :=
  let w := aiskoWidth ty
  let ew := aiskoExpBits ty
  let vals := elementsOf w block
  let n := vals.length
  let zero (x : Nat) : Bool := !one && x == 0
  let bases := (List.range (n / 16)).map (fun g =>
    ((((vals.drop (16 * g)).take 16).filter (fun x => !zero x)).map (expoOf ty)).foldl max 0)
  let code (p : Nat × Nat) : Nat :=
    let x := p.1
    let b := p.2
    if zero x then 2
    else if x == 2 ^ (w - 1) then (if one then 1 else 3)
    else if expoOf ty x == b then 0
    else if !one && expoOf ty x == (b + 2 ^ ew - 1) % 2 ^ ew then 1
    else (if one then 1 else 3)
  let based := (List.range n).map (fun i => ((vals[i]?).getD 0, (bases[i / 16]?).getD 0))
  let codes := based.map code
  let coded := vals.zip codes
  let esc := (coded.filter (fun c => c.2 == (if one then 1 else 3))).map (fun c => expoOf ty c.1)
  let mb := w - 1 - ew
  let sm := (vals.filter (fun x => !zero x)).map (fun x => x % 2 ^ mb + (x / 2 ^ (w - 1)) * 2 ^ mb)
  if n / 16 + 16 < esc.length then none
  else some ([BitVec.ofNat 8 (1 + 16 * ty), BitVec.ofNat 8 (esc.length + (if one then 128 else 0))]
    ++ bases.map (BitVec.ofNat 8) ++ packBits (if one then 1 else 2) codes ++ packBits (w - ew) sm
    ++ esc.map (BitVec.ofNat 8))

/-- A w-bit element as a signed number. -/
def signedOf (w x : Nat) : Int := if 2 ^ (w - 1) ≤ x then (x : Int) - 2 ^ w else x

/-- The smallest width that holds a number. -/
def widthOf (x : Nat) : Nat := if x = 0 then 0 else Nat.log2 x + 1

/-- BD coding of a block. -/
def compressBd (ty : Nat) (block : Nat) : List Byte :=
  let w := aiskoWidth ty
  let vals := elementsOf w block
  let signed := ty == 8 || ty == 0xA
  let lt (a b : Nat) : Bool := if signed then signedOf w a < signedOf w b else a < b
  let base := vals.foldl (fun m x => if lt x m then x else m) ((vals[0]?).getD 0)
  let deltas := vals.map (fun x => (x + 2 ^ w - base) % 2 ^ w)
  let d := widthOf (deltas.foldl max 0)
  [BitVec.ofNat 8 (2 + 16 * ty), BitVec.ofNat 8 d, BitVec.ofNat 8 vals.length]
    ++ bytesOf (w / 8) base ++ packBits d deltas

/-- SPARSE coding of a block. -/
def compressSparse (ty : Nat) (block : Nat) : List Byte :=
  let w := aiskoWidth ty
  let vals := elementsOf w block
  [BitVec.ofNat 8 (3 + 16 * ty)] ++ packBits 1 (vals.map (fun x => if x = 0 then 0 else 1))
    ++ packBits w (vals.filter (fun x => x != 0))

/-- MXP coding of a block: none where its padding is not zero. -/
def compressMxp (ty : Nat) (block : Nat) : Option (List Byte) :=
  let w := aiskoWidth ty
  let k := mxpMax ty
  let bw := 8 + 32 * w
  if block / 2 ^ (bw * k) ≠ 0 then none
  else
    let blk (b : Nat) : Nat := (block >>> (bw * b)) % 2 ^ bw
    let els := (List.range k).foldl
      (fun acc b => acc ++ (List.range 32).map (fun i => (blk b >>> (8 + w * i)) % 2 ^ w)) []
    some ([BitVec.ofNat 8 (4 + 16 * ty), BitVec.ofNat 8 k] ++ (List.range k).map (fun b => BitVec.ofNat 8 (blk b))
      ++ packBits 1 (els.map (fun x => if x = 0 then 0 else 1)) ++ packBits w (els.filter (fun x => x != 0)))

/-- Encodings a compressor may use: CMPR_CTL.ENC_EXP, ENC_BD, ENC_SPARSE, ENC_MXP in bits 0 to 3 (spec 07 R164). -/
structure EncSet where
  exp    : Bool
  bd     : Bool
  sparse : Bool
  mxp    : Option Nat
deriving DecidableEq, Repr

/-- Candidate streams in the order of R164's table. -/
def aiskoCandidates (e : EncSet) (block : Nat) : List (List Byte) :=
  (if e.sparse then [8, 1, 0, 0xC].map (fun ty => compressSparse ty block) else [])
  ++ (if e.bd then [8, 0xA, 0xB, 0xC].map (fun ty => compressBd ty block) else [])
  ++ (match e.mxp with | some ty => (compressMxp ty block).toList | none => [])
  ++ (if e.exp then (compressExp 1 false block).toList ++ (compressExp 2 false block).toList
        ++ (compressExp 4 false block).toList ++ (compressExp 3 true block).toList else [])

/-- Lines of a stream (spec 07 R163). -/
def streamLines (l : List Byte) : Nat := (l.length + 63) / 64

/-- Codes a block: its size-map entry and the bytes stored, whole lines (spec 07 R163, R164). -/
def aiskoCompress (e : EncSet) (block : Nat) : Nat × List Byte :=
  if block % 2 ^ 2048 = 0 then (0, [])
  else
    let best := (aiskoCandidates e block).foldl
      (fun (b : Option (List Byte)) c =>
        if 192 < c.length then b
        else match b with
          | none => some c
          | some x => if streamLines c < streamLines x then some c else some x) none
    match best with
    | none => (4, bytesOf 256 block)
    | some c => (streamLines c, c ++ List.replicate (64 * streamLines c - c.length) 0)

end Sys2Proof.Machine
end

