-- ==== Sys2Proof/Machine/Numerics.lean ====
section
/-! DEFINITION. Exact numbers, the data types, rounding, conversions, the engine and the vector unit (spec 08 R182 to
R193). A floating-point value is handled as an exact dyadic number and rounded once. -/

namespace Sys2Proof.Machine

/-- An exact value: NaN, an infinity, or m · 2^e; `neg` is the sign of a zero. -/
inductive Ex where
  | nan
  | inf (neg : Bool)
  | fin (m : Int) (e : Int) (neg : Bool)
deriving DecidableEq, Repr

/-- A floating-point layout: exponent bits, mantissa bits, bias, whether it has infinities, and its largest finite
pattern (spec 08 R188). -/
structure Fmt where
  ew   : Nat
  mb   : Nat
  bias : Nat
  inf  : Bool
  top  : Nat
  nan  : Nat
deriving DecidableEq, Repr

def fp32 : Fmt := { ew := 8, mb := 23, bias := 127, inf := true, top := 0x7F7FFFFF, nan := 0x7FC00000 }
def bf16 : Fmt := { ew := 8, mb := 7, bias := 127, inf := true, top := 0x7F7F, nan := 0x7FC0 }
def fp16 : Fmt := { ew := 5, mb := 10, bias := 15, inf := true, top := 0x7BFF, nan := 0x7E00 }
def e4m3 : Fmt := { ew := 4, mb := 3, bias := 7, inf := false, top := 0x7E, nan := 0x7F }
def e5m2 : Fmt := { ew := 5, mb := 2, bias := 15, inf := true, top := 0x7B, nan := 0x7E }
def e3m2 : Fmt := { ew := 3, mb := 2, bias := 3, inf := false, top := 0x1F, nan := 0x1F }
def e2m1 : Fmt := { ew := 2, mb := 1, bias := 1, inf := false, top := 0x7, nan := 0x7 }

/-- The layout of a data type code's elements; none for the integer types. -/
def fmtOf (ty : Nat) : Option Fmt :=
  match ty with
  | 0x0 => some fp32 | 0x1 => some bf16 | 0x2 => some fp16 | 0x3 => some e4m3 | 0x4 => some e5m2
  | 0x5 => some e4m3 | 0x6 => some e3m2 | 0x7 => some e2m1
  | _ => none

/-- Bits of an element in memory. -/
def typeBits (ty : Nat) : Nat :=
  match ty with
  | 0x0 => 32 | 0x1 => 16 | 0x2 => 16 | 0x3 => 8 | 0x4 => 8 | 0x5 => 8 | 0x6 => 6 | 0x7 => 4
  | 0x8 => 8 | 0x9 => 4 | 0xA => 32 | 0xB => 32 | _ => 64

/-- MX types. -/
def isMx (ty : Nat) : Bool := ty == 5 || ty == 6 || ty == 7
/-- Integer types. -/
def isInt (ty : Nat) : Bool := 8 ≤ ty && ty ≤ 0xC
/-- Floating types that are not MX. -/
def isFloat (ty : Nat) : Bool := ty ≤ 4

/-- m · 2^k rounded to the nearest integer, ties to even (spec 08 R191). -/
def roundShift (m : Nat) (k : Int) : Nat :=
  match k with
  | .ofNat n => m <<< n
  | .negSucc n =>
    let d := 2 ^ (n + 1)
    let q := m / d
    let r := m % d
    if d < 2 * r || (2 * r == d && q % 2 == 1) then q + 1 else q

/-- Rounds a positive m · 2^e to a magnitude pattern (spec 08 R183, R192: one rounding, subnormals kept; overflow gives
infinity, or the largest finite value where the type has none or `sat` asks for it). -/
def roundMag (f : Fmt) (sat : Bool) (m : Nat) (e : Int) : Nat :=
  let top : Int := (Nat.log2 m : Int) + e
  let emin : Int := 1 - f.bias
  let ex := max top emin
  let r := roundShift m (e - (ex - f.mb))
  let pat := if top < emin then r else ((ex - emin).toNat + 1) * 2 ^ f.mb + r - 2 ^ f.mb
  if pat ≤ f.top then pat else if f.inf && !sat then (2 ^ f.ew - 1) * 2 ^ f.mb else f.top

/-- Rounds an exact value to a type. -/
def roundTo (f : Fmt) (sat : Bool) (x : Ex) : Nat :=
  let sign (n : Bool) : Nat := if n then 2 ^ (f.ew + f.mb) else 0
  match x with
  | .nan => f.nan
  | .inf n => sign n + (if f.inf && !sat then (2 ^ f.ew - 1) * 2 ^ f.mb else f.top)
  | .fin m e n => if m = 0 then sign n else sign (decide (m < 0)) + roundMag f sat m.natAbs e

/-- The exact value of a pattern (spec 08 R188). -/
def decodeFp (f : Fmt) (v : Nat) : Ex :=
  let mag := v % 2 ^ (f.ew + f.mb)
  let neg := bit v (f.ew + f.mb)
  let ex := mag / 2 ^ f.mb
  let mt := mag % 2 ^ f.mb
  let sgn (n : Nat) : Int := if neg then -(n : Int) else n
  if f.inf && ex == 2 ^ f.ew - 1 then (if mt = 0 then .inf neg else .nan)
  else if f.ew == 4 && mag == 0x7F then .nan
  else if ex = 0 then .fin (sgn mt) (1 - f.bias - f.mb) neg
  else .fin (sgn (mt + 2 ^ f.mb)) ((ex : Int) - f.bias - f.mb) neg

/-- The exact value of an element of a type; MX elements are taken with their scale byte. -/
def decodeElem (ty : Nat) (scale v : Nat) : Ex :=
  match fmtOf ty with
  | some f =>
    if isMx ty then
      if scale = 0xFF then .nan
      else match decodeFp f v with
        | .fin m e n => .fin m (e + scale - 127) n
        | x => x
    else decodeFp f v
  | none =>
    let w := typeBits ty
    if ty == 0xB || ty == 0xC then .fin (v % 2 ^ w : Nat) 0 false
    else .fin (signedOf w (v % 2 ^ w)) 0 false

/-! ### Arithmetic on exact values -/

/-- The sum of two finite values, aligned to the lower exponent. -/
def addFin (m1 e1 m2 e2 : Int) : Int × Int :=
  let e := min e1 e2
  (m1 * 2 ^ (e1 - e).toNat + m2 * 2 ^ (e2 - e).toNat, e)

/-- Exact addition; an exact zero is +0.0 unless both terms are −0.0 (spec 08 R183). -/
def Ex.add (a b : Ex) : Ex :=
  match a, b with
  | .nan, _ => .nan
  | _, .nan => .nan
  | .inf x, .inf y => if x == y then .inf x else .nan
  | .inf x, _ => .inf x
  | _, .inf y => .inf y
  | .fin m1 e1 n1, .fin m2 e2 n2 =>
    let r := addFin m1 e1 m2 e2
    if r.1 = 0 then .fin 0 0 (decide (m1 = 0) && decide (m2 = 0) && n1 && n2) else .fin r.1 r.2 (decide (r.1 < 0))

/-- Exact product. -/
def Ex.mul (a b : Ex) : Ex :=
  match a, b with
  | .nan, _ => .nan
  | _, .nan => .nan
  | .inf x, .inf y => .inf (x != y)
  | .inf x, .fin m _ n => if m = 0 then .nan else .inf (x != (if m = 0 then n else decide (m < 0)))
  | .fin m _ n, .inf y => if m = 0 then .nan else .inf (y != (if m = 0 then n else decide (m < 0)))
  | .fin m1 e1 n1, .fin m2 e2 n2 => .fin (m1 * m2) (e1 + e2) (n1 != n2)

/-- The sign changed. -/
def Ex.neg : Ex → Ex
  | .nan => .nan
  | .inf x => .inf (!x)
  | .fin m e n => .fin (-m) e (!n)

/-- Order of two values that are not NaN: −0.0 below +0.0 (spec 08 R186). -/
def Ex.lt (a b : Ex) : Bool :=
  match a, b with
  | .nan, _ => false
  | _, .nan => false
  | .inf x, .inf y => x && !y
  | .inf x, _ => x
  | _, .inf y => !y
  | .fin m1 e1 n1, .fin m2 e2 n2 =>
    let e := min e1 e2
    let x := m1 * 2 ^ (e1 - e).toNat
    let y := m2 * 2 ^ (e2 - e).toNat
    decide (x < y) || (decide (x = y) && decide (x = 0) && n1 && !n2)

/-! ### FP32 patterns: the vector unit (spec 08 R186, R187) -/

/-- The exact value of an FP32 pattern, and the pattern an exact value rounds to. -/
def f32 (v : Nat) : Ex := decodeFp fp32 v
def toF32 (x : Ex) : Nat := roundTo fp32 false x

def fAdd (a b : Nat) : Nat := toF32 ((f32 a).add (f32 b))
def fSub (a b : Nat) : Nat := toF32 ((f32 a).add (f32 b).neg)
def fMul (a b : Nat) : Nat := toF32 ((f32 a).mul (f32 b))
def fFma (a b c : Nat) : Nat := toF32 (((f32 a).mul (f32 b)).add (f32 c))

/-- NaN test of an FP32 pattern. -/
def isNan32 (v : Nat) : Bool := f32 v == .nan

/-- min and max return the operand that is not NaN. -/
def fMin (a b : Nat) : Nat :=
  if isNan32 a && isNan32 b then 0x7FC00000
  else if isNan32 a then b else if isNan32 b then a
  else if (f32 b).lt (f32 a) then b else a
def fMax (a b : Nat) : Nat :=
  if isNan32 a && isNan32 b then 0x7FC00000
  else if isNan32 a then b else if isNan32 b then a
  else if (f32 a).lt (f32 b) then b else a

def negInf32 : Nat := 0xFF800000
def posInf32 : Nat := 0x7F800000
def nan32 : Nat := 0x7FC00000

/-- The integer a finite exact value is, where it is one. -/
def exInt? (m e : Int) : Option Int :=
  if 0 ≤ e then some (m * 2 ^ e.toNat)
  else if m % 2 ^ (-e).toNat = 0 then some (m / 2 ^ (-e).toNat) else none

/-- The pattern of q · 2^e rounded towards zero, and whether anything was dropped. -/
def truncPat (q : Nat) (e : Int) : Nat × Bool :=
  let top : Int := (Nat.log2 q : Int) + e
  let ex := max top (-126)
  let k := e - (ex - 23)
  let r := match k with
    | .ofNat n => q <<< n
    | .negSucc n => q / 2 ^ (n + 1)
  let dropped := match k with
    | .ofNat _ => false
    | .negSucc n => q % 2 ^ (n + 1) != 0
  (if top < -126 then r else ((ex + 126).toNat + 1) * 2 ^ 23 + r - 2 ^ 23, dropped)

/-- A pattern at most two units in the last place of a value that lies strictly between `pat` and the next pattern, by a value the
spec does not fix; above a binade's end the patterns lie twice as far apart, below its start half as far. -/
def nearTwo (free pat : Nat) : Nat :=
  if pat < 2 ^ 23 then pat + free % 4 - 1
  else if pat % 2 ^ 23 = 2 ^ 23 - 1 then min (pat - 1 + free % 3) posInf32
  else if pat % 2 ^ 23 = 0 then pat - 2 + free % 5
  else pat - 1 + free % 4

/-- Integer square root by bits, highest first. -/
def isqrt (fuel n r : Nat) : Nat :=
  match fuel with
  | 0 => r
  | k + 1 => if (r + 2 ^ k) * (r + 2 ^ k) ≤ n then isqrt k n (r + 2 ^ k) else isqrt k n r

/-- 2^f for a fraction f of 64 bits, scaled by 2^100: the product of the square roots of 2 its bits select. -/
def pow2Frac : Nat → Nat → Nat → Nat → Nat
  | 0, _, acc, _ => acc
  | n + 1, root, acc, f =>
    if f % 2 ^ (n + 1) = 0 then acc
    else
      let r := isqrt 101 (root <<< 100) 0
      pow2Frac n r (if bit f n then acc * r / 2 ^ 100 else acc) f

/-- exp2: the fixed results of R187, else a value within the stated error that the spec does not fix. -/
def fExp2 (v : Nat) : Nat :=
  match f32 v with
  | .nan => nan32
  | .inf n => if n then 0 else posInf32
  | .fin m e _ =>
    match exInt? m e with
    | some n =>
      if n < -149 then 0 else if 127 < n then posInf32 else toF32 (.fin 1 n false)
    | none =>
      if (Ex.fin 128 0 false).lt (.fin m e false) then posInf32
      else if (Ex.fin m e false).lt (.fin (-149) 0 false) then 0
      else
        let d := (-e).toNat
        let n := m.fdiv (2 ^ d)
        let f := (m.fmod (2 ^ d)).toNat * 2 ^ 64 / 2 ^ d
        nearTwo (Config.exp2 v) (truncPat (pow2Frac 64 (2 <<< 100) (1 <<< 100) f) (n - 100)).1

/-- The n of an exact 2^n. -/
def pow2? (m e : Int) : Option Int :=
  if 0 < m && m.natAbs == 2 ^ Nat.log2 m.natAbs then some (e + Nat.log2 m.natAbs) else none

/-- The first n bits of log2 of y / 2^128, for y / 2^128 in [1, 2), by repeated squaring. -/
def log2Bits : Nat → Nat → Nat → Nat
  | 0, _, acc => acc
  | n + 1, y, acc =>
    let z := y * y / 2 ^ 128
    if 2 ^ 129 ≤ z then log2Bits n (z / 2) (2 * acc + 1) else log2Bits n z (2 * acc)

/-- log2: the fixed results of R187, else a value within the stated error that the spec does not fix. -/
def fLog2 (v : Nat) : Nat :=
  match f32 v with
  | .nan => nan32
  | .inf n => if n then nan32 else posInf32
  | .fin m e _ =>
    if m = 0 then negInf32
    else if m < 0 then nan32
    else match pow2? m e with
      | some n => toF32 (.fin n 0 false)
      | none =>
        let k := Nat.log2 m.natAbs
        let l : Int := (e + k) * 2 ^ 64 + log2Bits 64 (m.natAbs <<< (128 - k)) 0
        if 0 ≤ l then nearTwo (Config.log2 v) (truncPat l.toNat (-64)).1
        else 0x80000000 + nearTwo (Config.log2 v) (truncPat (-l - 1).toNat (-64)).1

/-- A pattern at most one unit in the last place from the quotient num / den · 2^e, by a value the spec does not fix. -/
def nearOne (free : Nat) (num den : Nat) (e : Int) : Nat :=
  let t := truncPat ((num <<< 80) / den) (e - 80)
  if 0x7F800000 ≤ t.1 then posInf32
  else if (num <<< 80) % den == 0 && !t.2 then t.1 - 1 + free % 3
  else t.1 + free % 2

/-- reciprocal (spec 08 R186, R187). -/
def fRecip (v : Nat) : Nat :=
  match f32 v with
  | .nan => nan32
  | .inf n => if n then 0x80000000 else 0
  | .fin m e n =>
    if m = 0 then (if n then negInf32 else posInf32)
    else (if m < 0 then 0x80000000 else 0) + nearOne (Config.reciprocal v) 1 m.natAbs (-e)

/-- rsqrt (spec 08 R186, R187). -/
def fRsqrt (v : Nat) : Nat :=
  match f32 v with
  | .nan => nan32
  | .inf n => if n then nan32 else 0
  | .fin m e n =>
    if m = 0 then (if n then negInf32 else posInf32)
    else if m < 0 then nan32
    else
      let odd := e % 2 != 0
      let m2 := if odd then m.natAbs * 2 else m.natAbs
      let e2 := if odd then (e - 1) / 2 else e / 2
      let root := isqrt 100 ((1 <<< 160) / m2) 0
      nearOne (Config.rsqrt v) root 1 (-e2 - 80)

/-! ### Conversions (spec 08 R192) -/

/-- The range of an integer type. -/
def intRange (ty : Nat) : Int × Int :=
  match ty with
  | 0x8 => (-128, 127) | 0x9 => (-8, 7) | 0xA => (-2 ^ 31, 2 ^ 31 - 1) | 0xB => (0, 2 ^ 32 - 1) | _ => (0, 2 ^ 64 - 1)

/-- Rounds an exact value to an integer and saturates it to a type; NaN gives 0. -/
def toInt (ty : Nat) (x : Ex) : Nat :=
  let r := intRange ty
  let w := typeBits ty
  let sat (i : Int) : Nat := ((max r.1 (min r.2 i)) % 2 ^ w).toNat
  match x with
  | .nan => 0
  | .inf n => sat (if n then r.1 else r.2)
  | .fin m e _ =>
    let k := roundShift m.natAbs (min e 128)
    sat (if m < 0 then -(k : Int) else k)

/-- Rounds an exact value to a type that is not MX: one rounding; E4M3 saturates (spec 08 R192). -/
def toType (ty : Nat) (x : Ex) : Nat :=
  match fmtOf ty with
  | some f => roundTo f false x
  | none => toInt ty x

/-- emax of the element type of an MX type (spec 08 R193). -/
def mxEmax (ty : Nat) : Int := match ty with | 5 => 8 | 6 => 4 | _ => 2

/-- Quantises 32 FP32 patterns into a scale byte and 32 elements (spec 08 R193). -/
def quantise (ty : Nat) (vs : List Nat) : Nat × List Nat :=
  let f := (fmtOf ty).getD e4m3
  let xs := vs.map f32
  let special := xs.any (fun x => match x with | .fin _ _ _ => false | _ => true)
  let amax := xs.foldl
    (fun (a : Nat) x => match x with | .fin m e _ => max a (m.natAbs <<< (e + 149).toNat) | _ => a) 0
  if special then (0xFF, vs.map (fun _ => 0))
  else if amax = 0 then (0, vs.map (fun _ => 0))
  else
    let e := max (-127) (min 127 ((Nat.log2 amax : Int) - 149 - mxEmax ty))
    let el (x : Ex) : Nat :=
      match x with
      | .fin m k n =>
        let r := roundTo f true (.fin m (k - e) n)
        if r % 2 ^ (f.ew + f.mb) = 0 then 0 else r
      | _ => 0
    ((e + 127).toNat, xs.map el)

/-! ### The engine (spec 08 R182 to R185) -/

/-- The rate of an operand combination as its K, none where the engine accepts no such pair (spec 08 R182). -/
def engineK (a b : Nat) : Option Nat :=
  let lo := min a b
  let hi := max a b
  if lo == 0 then (if hi ≤ 4 then some 1 else none)
  else if lo == 1 && hi == 2 then some 1
  else if (lo == 1 || lo == 2) && (hi == lo || hi == 3 || hi == 4) then some 4
  else if (lo == 3 || lo == 4) && (hi == 3 || hi == 4) then some 8
  else if lo == 7 && hi == 7 then some 16
  else if (lo == 5 || lo == 6) && (hi == 5 || hi == 6 || hi == 7) then some 8
  else if (lo == 1 || lo == 2) && isMx hi then some 4
  else if lo == 8 && (hi == 8 || hi == 9) then some 8
  else if lo == 9 && hi == 9 then some 16
  else none

/-- One engine step: the products of a chunk and the accumulator summed exactly and rounded once to FP32 (spec 08 R183).
An exact zero sum is +0.0 unless every term is −0.0. -/
def engineStep (c : Nat) (chunk : List (Ex × Ex)) : Nat :=
  toF32 (chunk.foldl (fun (s : Ex) (p : Ex × Ex) => s.add (p.1.mul p.2)) (f32 c))

/-- Chunks of k, in ascending order. -/
def chunks {α : Type} (fuel k : Nat) (l : List α) : List (List α) :=
  match fuel, l with
  | 0, _ => []
  | _, [] => []
  | n + 1, l => l.take k :: chunks n k (l.drop k)

/-- A floating-point dot product from an initial FP32 value, in ascending chunks (spec 08 R185). -/
def dotFloat (k : Nat) (c : Nat) (l : List (Ex × Ex)) : Nat := (chunks l.length k l).foldl engineStep c

/-- An integer dot product modulo 2^32 (spec 08 R184). -/
def dotInt (c : Int) (l : List (Int × Int)) : Nat := ((l.foldl (fun (s : Int) (p : Int × Int) => s + p.1 * p.2) c) % 2 ^ 32).toNat

end Sys2Proof.Machine
end

