-- ==== Sys2Proof/Machine/Operands.lean ====
section
/-! DEFINITION. Operand forms: elements and rows of every data type in memory (spec 08 R188 to R190), conversions of rows
(10 R238), and the step functions descriptors and collectives share (10 R242 to R247; 11). A byte carries whether it comes
from, or depends on, a poisoned line (10 R236). -/

namespace Sys2Proof.Machine

/-- A byte with its dependency on a poisoned line. -/
abbrev PByte := Byte × Bool

/-- A number with its dependency on a poisoned line. -/
abbrev PNat := Nat × Bool

/-- The number bytes hold, and whether any of them is poisoned. -/
def pNat (l : List PByte) : PNat := (ofBytes' (l.map (·.1)), l.any (·.2))
where
  /-- The number little-endian bytes hold (spec 00 R2). -/
  ofBytes' : List Byte → Nat
    | [] => 0
    | b :: t => b.toNat + 256 * ofBytes' t

/-- The n bytes of a number, all with one dependency. -/
def pBytes (n : Nat) (v : PNat) : List PByte :=
  (List.range n).map (fun i => (BitVec.ofNat 8 (v.1 >>> (8 * i)), v.2))

/-! ### Placement of elements -/

/-- MX blocks of a 256 B block, and the element bytes of one (spec 08 R189). -/
def mxK (ty : Nat) : Nat := match ty with | 5 => 7 | 6 => 10 | _ => 15
def mxS (ty : Nat) : Nat := 32 * typeBits ty / 8

/-- Byte offset of MX block m of a row: its scale byte, its elements after it. -/
def mxOff (ty m : Nat) : Nat := m / mxK ty * 256 + m % mxK ty * (1 + mxS ty)

/-- Bytes a row of n elements takes (spec 08 R189, R190). -/
def rowBytes (ty n : Nat) : Nat :=
  if isMx ty then (n / 32 + mxK ty - 1) / mxK ty * 256 else (n * typeBits ty + 7) / 8

/-- Elements of a row of so many bytes (spec 10 R238). -/
def rowElems (ty bytes : Nat) : Nat := if isMx ty then mxK ty * 32 * bytes / 256 else bytes * 8 / typeBits ty

/-- Alignment of a typed array in bytes (spec 10 R231, 08 R189). -/
def typeAlign (ty : Nat) : Nat := if isMx ty then 256 else max 1 (typeBits ty / 8)

/-- Listed type codes (spec 08 R188). -/
def typeListed (ty : Nat) : Bool := ty ≤ 0xC

/-- Whether a row may have n elements of a type (spec 08 R189, R190). -/
def countOk (ty n : Nat) : Bool := if isMx ty then n % 32 == 0 else if ty == 9 then n % 2 == 0 else true

/-- w bits of a row from a bit offset. -/
def bitsFrom (row : List PByte) (o w : Nat) : PNat :=
  let r := pNat ((row.drop (o / 8)).take ((o % 8 + w + 7) / 8))
  ((r.1 >>> (o % 8)) % 2 ^ w, r.2)

/-- An element: its bits, its MX scale byte, its dependency. -/
structure Elem where
  raw   : Nat
  scale : Nat := 127
  dep   : Bool := false
deriving DecidableEq, Repr

/-- Element i of a row. -/
def elemAt (ty : Nat) (row : List PByte) (i : Nat) : Elem :=
  let w := typeBits ty
  if isMx ty then
    let o := mxOff ty (i / 32)
    let sc := bitsFrom row (8 * o) 8
    let v := bitsFrom row (8 * (o + 1) + i % 32 * w) w
    { raw := v.1, scale := sc.1, dep := sc.2 || v.2 }
  else
    let v := bitsFrom row (i * w) w
    { raw := v.1, dep := v.2 }

/-- The exact value of an element (spec 08 R188). -/
def Elem.ex (ty : Nat) (e : Elem) : Ex := decodeElem ty e.scale e.raw

/-- The elements of a row. -/
def rowElemsOf (ty n : Nat) (row : List PByte) : List Elem := (List.range n).map (elemAt ty row)

/-- An element as an FP32 pattern (spec 08 R192). -/
def Elem.f32 (ty : Nat) (e : Elem) : PNat := (toF32 (e.ex ty), e.dep)

/-- The bytes of a row of non-MX elements. -/
def packRow (ty : Nat) : List PNat → List PByte
  | [] => []
  | x :: t =>
    if ty == 9 then
      match t with
      | [] => [(BitVec.ofNat 8 (x.1 % 16), x.2)]
      | y :: u => (BitVec.ofNat 8 (x.1 % 16 + y.1 % 16 * 16), x.2 || y.2) :: packRow ty u
    else pBytes (typeBits ty / 8) x ++ packRow ty t

/-- One MX block of 32 FP32 patterns (spec 08 R193): scale byte, elements LSB first. Each byte depends on the whole block. -/
def packMx (ty : Nat) (vs : List PNat) : List PByte :=
  let q := quantise ty (vs.map (·.1))
  let w := typeBits ty
  let dep := vs.any (·.2)
  let num := q.2.foldr (fun v acc => v % 2 ^ w + 2 ^ w * acc) 0
  (BitVec.ofNat 8 q.1, dep) :: pBytes (mxS ty) (num, dep)

/-- The 256 B blocks of an MX row: padding and tail are zero (spec 08 R189). -/
def packMxRow (fuel ty : Nat) (vs : List PNat) : List PByte :=
  match fuel, vs with
  | 0, _ => []
  | _, [] => []
  | n + 1, vs =>
    let here := vs.take (32 * mxK ty)
    let bs := ((chunks here.length 32 here).map (packMx ty)).flatten
    bs ++ List.replicate (256 - bs.length) ((0 : Byte), false) ++ packMxRow n ty (vs.drop (32 * mxK ty))

/-- Writes a row of FP32 patterns as a type: one rounding, or quantisation (spec 08 R192, R193). -/
def storeRow (ty : Nat) (vs : List PNat) : List PByte :=
  if isMx ty then packMxRow (vs.length + 1) ty vs
  else packRow ty (vs.map (fun (v : PNat) => (toType ty (f32 v.1), v.2)))

/-- A row of n elements copied as it is: an MX row's padding bytes and the unused tail of its last block are written as zero (spec
08 R189). -/
def cleanRow (ty n : Nat) (row : List PByte) : List PByte :=
  if isMx ty then
    (row.zipIdx).map (fun (b : PByte × Nat) =>
      let k := b.2 % 256 / (1 + mxS ty)
      if k < mxK ty && b.2 / 256 * mxK ty + k < n / 32 then b.1 else ((0 : Byte), false))
  else row

/-- Converts a row to another type, from the exact values (spec 08 R192; 10 R238 CONV 1). -/
def convertRow (src dst n : Nat) (row : List PByte) : List PByte :=
  let es := rowElemsOf src n row
  if isMx dst then storeRow dst (es.map (fun (e : Elem) => e.f32 src))
  else packRow dst (es.map (fun (e : Elem) => (toType dst (e.ex src), e.dep)))

/-- GATHER CONV 2: dequantises a row with its scale (spec 10 R238). -/
def dequantRow (src dst n : Nat) (row : List PByte) (scale : PNat) : List PByte :=
  packRow dst ((rowElemsOf src n row).map (fun (e : Elem) =>
    (toType dst (f32 (fMul (toF32 (e.ex src)) scale.1)), e.dep || scale.2)))

/-- TMAX of an output type of GATHER CONV 3, as FP32. -/
def tmax32 (ty : Nat) : Nat := toF32 (.fin (match ty with | 8 => 127 | 9 => 7 | _ => 448) 0 false)

/-- GATHER CONV 3: quantises a row; answers the row and its scale s (spec 10 R238). -/
def quantRow (src dst n : Nat) (row : List PByte) : List PByte × PNat :=
  let es := rowElemsOf src n row
  let dep := es.any (fun (e : Elem) => e.dep)
  let vs := es.map (fun (e : Elem) => toF32 (e.ex src))
  let amax := vs.foldl (fun a v => fMax a (v % 2 ^ 31)) 0
  if amax = 0 then (packRow dst (vs.map (fun _ => (0, dep))), (0, dep))
  else
    let s := fMul amax (fRecip (tmax32 dst))
    let r := fRecip s
    (packRow dst (vs.map (fun v => (toType dst (f32 (fMul v r)), dep))), (s, dep))

/-! ### Attention and merges (spec 10 R243, R244) -/

/-- A partial: o, m, l as FP32 patterns. -/
structure Partial where
  o : List Nat
  m : Nat
  l : Nat
deriving DecidableEq, Repr

/-- exp2 weights and sums of one block on a row's running state: new state before the value sum, the weights, and the
factor that rescales (spec 10 R243). -/
def attnBlock (m l : Nat) (s : List Nat) : Nat × Nat × Nat × List Nat :=
  let mb := s.foldl fMax m
  let dead := mb = negInf32
  let c := if dead then 0x3F800000 else fExp2 (fSub m mb)
  let p := s.map (fun x => if dead then (if isNan32 x then nan32 else 0) else fExp2 (fSub x mb))
  (mb, p.foldl fAdd (fMul l c), c, p)

/-- One row of ATTN_PARTIAL over one block: `k` the engine's K of the value product, `pty` the probability type, `v` the
value rows as exact values. -/
def attnStep (k pty : Nat) (st : Partial) (s : List Nat) (v : List (List Ex)) : Partial :=
  let r := attnBlock st.m st.l s
  let ps := r.2.2.2.map (fun p => decodeElem pty 127 (toType pty (f32 p)))
  let acc := (List.range st.o.length).map (fun x =>
    dotFloat k (fMul ((st.o[x]?).getD 0) r.2.2.1) (ps.zip (v.map (fun (row : List Ex) => (row[x]?).getD .nan))))
  { o := acc, m := r.1, l := r.2.1 }

/-- The start of a row, and its end: o = acc × reciprocal(l), +0.0 when l = 0. -/
def attnStart (d : Nat) : Partial := { o := List.replicate d 0, m := negInf32, l := 0 }
def attnEnd (st : Partial) : Partial :=
  let z := st.l % 2 ^ 31 = 0
  { st with o := st.o.map (fun x => if z then 0 else fMul x (fRecip st.l)) }

/-- Combines partials (spec 10 R244). -/
def mergePartials (d : Nat) (ps : List Partial) : Partial :=
  let ps := ps.filter (fun (p : Partial) => p.l != 0)
  let mm := ps.foldl (fun a (p : Partial) => fMax a p.m) negInf32
  let as := ps.map (fun (p : Partial) => fMul (fExp2 (fSub p.m mm)) p.l)
  let ll := as.foldl fAdd 0
  let acc := (List.range d).map (fun x =>
    (as.zip ps).foldl (fun a (q : Nat × Partial) => fFma q.1 ((q.2.o[x]?).getD 0) a) 0)
  { o := acc.map (fun x => if ll % 2 ^ 31 = 0 then 0 else fMul x (fRecip ll)), m := mm, l := ll }

/-- Words of a partial record: o, m, l. -/
def Partial.words (p : Partial) : List Nat := p.o ++ [p.m, p.l]

/-- The partial D + 2 words hold. -/
def partialOf (d : Nat) (ws : List Nat) : Partial :=
  { o := ws.take d, m := (ws[d]?).getD 0, l := (ws[d + 1]?).getD 0 }

/-! ### Reduction steps (spec 10 R245; 11) -/

/-- One step of a reduction on FP32 patterns: 0 SUM, 1 MAX, 2 MIN. -/
def redFloat (op a b : Nat) : Nat := match op with | 0 => fAdd a b | 1 => fMax a b | _ => fMin a b

/-- One step of a reduction on INT32 patterns. -/
def redInt (op a b : Nat) : Nat :=
  match op with
  | 0 => (a + b) % 2 ^ 32
  | 1 => if signedOf 32 a < signedOf 32 b then b else a
  | _ => if signedOf 32 b < signedOf 32 a then b else a

/-! ### Ranking (spec 10 R242, R246) -/

/-- Whether score a comes before score b; neither is NaN. Zeros of either sign are equal. -/
def scoreBetter (smallest : Bool) (a b : Nat) : Bool :=
  let z (v : Nat) : Nat := if v % 2 ^ 31 = 0 then 0 else v
  if smallest then (f32 (z a)).lt (f32 (z b)) else (f32 (z b)).lt (f32 (z a))

/-- Merge sort by a strict order; equal elements keep their order. -/
def mergeBy {α : Type} (lt : α → α → Bool) : Nat → List α → List α → List α
  | 0, a, b => a ++ b
  | _, [], b => b
  | _, a, [] => a
  | n + 1, x :: a, y :: b => if lt y x then y :: mergeBy lt n (x :: a) b else x :: mergeBy lt n a (y :: b)

/-- Sorts by a strict order. -/
def rankBy {α : Type} (lt : α → α → Bool) : Nat → List α → List α
  | 0, l => l
  | _, [] => []
  | _, [x] => [x]
  | n + 1, l =>
    let h := l.length / 2
    mergeBy lt l.length (rankBy lt n (l.take h)) (rankBy lt n (l.drop h))

/-- The total order of R242 on (index, score, position). -/
def topkBefore (smallest : Bool) (a b : Nat × Nat × Nat) : Bool :=
  if scoreBetter smallest a.2.1 b.2.1 then true
  else if scoreBetter smallest b.2.1 a.2.1 then false
  else if a.1 != b.1 then a.1 < b.1 else a.2.2 < b.2.2

end Sys2Proof.Machine
end

