-- ==== Sys2Proof/Machine/Flags.lean ====
section
/-! DEFINITION. Completion statuses, completion flags and reason codes (spec 09 R227, R228; 20 R427). -/

namespace Sys2Proof.Machine

/-! ### Completion statuses (spec 09 R227) -/
abbrev stOk : Byte := 0x00
abbrev stConflict : Byte := 0x10
abbrev stDenied : Byte := 0x11
abbrev stPoisoned : Byte := 0x12
abbrev stAborted : Byte := 0x13
abbrev stTimeout : Byte := 0x14
abbrev stCoreLost : Byte := 0x15
abbrev stBlockSize : Byte := 0x16
abbrev stContextGone : Byte := 0x17
abbrev stBusyRetry : Byte := 0x18
abbrev stBadDescriptor : Byte := 0x19
abbrev stHandoffFailed : Byte := 0x1A

/-! ### Completion flags (spec 09 R228), as bit values -/
abbrev flReplayed : Nat := 1
abbrev flFallback : Nat := 2
abbrev flOverrun : Nat := 4
abbrev flUnderrun : Nat := 8
abbrev flFalseHit : Nat := 16
abbrev flTruncated : Nat := 32
abbrev flTainted : Nat := 64

/-! ### Reason codes (spec 20 R427) -/
abbrev rcOk : Nat := 0x0000
abbrev rcFieldRange : Nat := 0x0001
abbrev rcAlign : Nat := 0x0002
abbrev rcOverlap : Nat := 0x0003
abbrev rcDependency : Nat := 0x0004
abbrev rcExhausted : Nat := 0x0005
abbrev rcProfile : Nat := 0x0006
abbrev rcEpochBusy : Nat := 0x0007
abbrev rcRole : Nat := 0x0008
abbrev rcLocked : Nat := 0x0009
abbrev rcCloak : Nat := 0x000A
abbrev rcMoving : Nat := 0x000B

end Sys2Proof.Machine
end

