-- ==== Sys2Proof/Machine/Maps.lean ====
section
/-! DEFINITION. Lookups in the composition map and its route table, judged by epoch (spec 03, 21). -/

namespace Sys2Proof.Machine

/-! ### Entries -/

/-- An extent entry of a bank (spec 03). -/
def Bank.extent (b : Bank) (x : Nat) : Nat := Tbl.get b.extents x 0
def exValid (e : Nat) : Bool := bit e 0
def exCloaked (e : Nat) : Bool := bit e 1
def exCmpr (e : Nat) : Bool := bit e 2
def exRedund (e : Nat) : Nat := bits e 5 4
def exOwner (e : Nat) : Nat := bits e 15 8
def exPlace (e : Nat) : Nat := bits e 27 16
def exPolicy (e : Nat) : Nat := bits e 31 28
def exOffset (e : Nat) : Nat := bits e 47 32
def exGen (e : Nat) : Nat := bits e 55 48
def exHoCmd (e : Nat) : Nat := bits e 57 56
def exHoPeer (e : Nat) : Nat := bits e 75 64
def exHoXfer (e : Nat) : Nat := bits e 111 80

/-- A slice entry of a bank. -/
def Bank.slice (b : Bank) (i : Nat) : Nat := Tbl.get b.slices i 0
def slValid (e : Nat) : Bool := bit e 0
def slTenant (e : Nat) : Nat := bits e 31 16
def slCores (e : Nat) : Nat := bits e 191 64
def slPcs (e : Nat) : Nat := bits e 255 192

/-- A port-binding entry of a bank. -/
def Bank.bind (b : Bank) (p : Nat) : Nat := Tbl.get b.binds p 0
def bdValid (e : Nat) : Bool := bit e 0
def bdPbr (e : Nat) : Nat := bits e 15 4
def bdFeid (e : Nat) : Nat := bits e 31 16
def bdTenant (e : Nat) : Nat := bits e 47 32
def bdCtxBase (e : Nat) : Nat := bits e 59 48
def bdCtxCount (e : Nat) : Nat := bits e 76 64
def bdSlices (e : Nat) : Nat := bits e 511 256

/-- Port i of a placement entry. -/
def Bank.placePort (b : Bank) (pl i : Nat) : Nat := bits (Tbl.get b.places pl 0) (8 * i + 7) (8 * i)

/-- Route actions (spec 21, Route-table entry). -/
inductive Action where
  | deny | pool | peer | trig | coll | mgmt
deriving DecidableEq, Repr

/-- The ACTION of a route entry; reserved codes never pass a commit. -/
def rtAction (e : Nat) : Action :=
  match bits e 3 1 with
  | 1 => .pool
  | 2 => .peer
  | 3 => .trig
  | 4 => .coll
  | 5 => .mgmt
  | _ => .deny
def rtPrio (e : Nat) : Nat := bits e 11 4
def rtDst (e : Nat) : Nat := bits e 28 21
def rtBase (e : Nat) : Nat := bits e 127 64
def rtLimit (e : Nat) : Nat := bits e 191 128
def rtOffset (e : Nat) : Nat := bits e 255 192

/-- Whether a route entry matches a request of a port (spec 21 R438). -/
def rtMatches (e p a : Nat) : Bool :=
  bit e 0 && rtBase e ≤ a && a ≤ rtLimit e && (!bit e 12 || bits e 20 13 == p)

/-- The winning entry: the highest priority class, then the lowest index (spec 03 R58). -/
def Bank.route (b : Bank) (p a : Nat) : Option Nat :=
  (b.routes.foldl
    (fun (best : Option Nat) (x : Nat × Nat) =>
      if rtMatches x.2 p a then
        match best with
        | none => some x.2
        | some w => if rtPrio w < rtPrio x.2 then some x.2 else some w
      else best) none)

/-! ### Epochs -/

/-- The current epoch. -/
def State.epoch (s : State) : Nat := s.rd MAP_EPOCH_CURRENT

/-- A draining epoch is live. -/
def State.draining (s : State) : Bool := s.flag MAP_STAT_DRAINING

/-- The bank an epoch names: current, or draining while one is live (spec 03 R56, R63). -/
def State.bank (s : State) (e : Nat) : Bank :=
  if e = s.epoch then s.map.cur else (s.map.draining).getD s.map.cur

/-- The epoch a held request is judged under: its tag, or the current one where its tag's bank is gone (spec 03 R63, R64). -/
def State.liveEpoch (s : State) (e : Nat) : Nat := if s.draining && e == s.rd MAP_EPOCH_DRAINING then e else s.epoch

/-- A request as a block holds it. -/
def held (e : Nat) (c : Instr) : Held := { epoch := e, cmd := c }

/-- The extent entry of a pool address under an epoch. -/
def State.extentAt (s : State) (e a : Nat) : Nat := (s.bank e).extent (a / 2 ^ 30)

/-- TENANT of the owner slice of an extent entry. -/
def Bank.tenantOf (b : Bank) (x : Nat) : Nat := slTenant (b.slice (exOwner x))

/-- Whether a port may access an extent entry (spec 03 R57). -/
def Bank.portMay (b : Bank) (p x : Nat) : Bool :=
  let d := b.bind p
  bdValid d && exValid x && bit (bdSlices d) (exOwner x) && b.tenantOf x == bdTenant d

/-- Whether a context of a tenant may access an extent entry (spec 03 R57). -/
def Bank.ctxMay (b : Bank) (tenant x : Nat) : Bool := exValid x && b.tenantOf x == tenant

/-- The port whose binding holds a FEID, lowest first (spec 01 R15). -/
def State.portOfFeid (s : State) (feid : Feid) : Option Nat :=
  if feid = 0 then none
  else (s.map.cur.binds.find? (fun e => bdValid e.2 && bdFeid e.2 == feid.toNat)).map (·.1)

/-- The port whose binding holds a PBR ID (spec 01 R15). -/
def State.portOfPbr (s : State) (pbr : Nat) : Option Nat :=
  (s.map.cur.binds.find? (fun e => bdValid e.2 && bdPbr e.2 == pbr)).map (·.1)

/-- Whether the bindings of two ports let a message pass between them (spec 01 R15; DEDUCED: both VALID, of one tenant; 21 R438). -/
def State.mayPass (s : State) (p e : Nat) : Bool :=
  let a := s.map.cur.bind p
  let b := s.map.cur.bind e
  bdValid a && bdValid b && bdTenant a == bdTenant b

/-- The FEID a binding gives a port. -/
def State.feidOfPort (s : State) (p : Nat) : Feid := BitVec.ofNat 16 (bdFeid (s.map.cur.bind p))

/-- The device's own FEID and device ID. -/
def State.ownFeid (s : State) : Feid := BitVec.ofNat 16 (s.rd DEV_ID_FEID)
def State.ownDev (s : State) : DevId := BitVec.ofNat 12 (s.rd DEV_ID_DEVICE_ID)

/-- Marks an extent TAINTED or clears the mark; TAINTED is not banked (spec 03 R66). -/
def State.taint (s : State) (x : Nat) (b : Bool) : State :=
  { s with map := { s.map with tainted := setPut s.map.tainted x b } }

/-- Whether an extent is tainted. -/
def State.isTainted (s : State) (x : Nat) : Bool := s.map.tainted.contains x

/-- The hand-over record of an extent. -/
def State.ho (s : State) (x : Nat) : Option Handover := Tbl.get? s.map.ho x

/-- Sets or clears the hand-over record of an extent. -/
def State.setHo (s : State) (x : Nat) (h : Option Handover) : State :=
  { s with map := { s.map with ho := match h with | none => Tbl.del s.map.ho x | some h => Tbl.put s.map.ho x h } }

/-- Requests held across all held extents and hand-over queues (spec 03 R70). -/
def State.heldCount (s : State) : Nat :=
  s.map.held.length + s.map.ho.foldl (fun n h => n + h.2.queue.length) 0

/-! ### Answers -/

/-- Sends a YD message towards a FEID through the port whose binding holds it, on the weighted side with the given
traffic class; a FEID no binding holds drops it. -/
def State.sendYd (s : State) (dst : Feid) (tc : BitVec 4) (kind : Nat) (tenant : Option Nat) (m : Msg) : State :=
  match s.portOfFeid dst with
  | none => s
  | some p => s.sendW p tc.toNat tenant kind m

/-- Sends a YD message towards a FEID in one of the strict queues. -/
def State.sendYdQ (s : State) (dst : Feid) (q : Nat) (m : Msg) : State :=
  match s.portOfFeid dst with
  | none => s
  | some p => s.sendQ p q m

/-- The header of a message the device sends of its own. -/
def State.ownHdr (s : State) (dst : Feid) (tag : BitVec 16) (arg : Nat) : Hdr :=
  { dst := dst, src := s.ownFeid, tag := tag, arg := BitVec.ofNat 64 arg }

/-- The header of the device's answer to a request. -/
def replyHdr (s : State) (h : Hdr) (arg : Nat) (poison : Bool := false) : Hdr :=
  { poison, tc := h.tc, dst := h.src, src := s.ownFeid, tag := h.tag, arg := BitVec.ofNat 64 arg }

/-- Answers a YD request with RSP on the port it entered by (spec 02 R39; 13 R306: the request's TC). -/
def State.rsp (s : State) (p : Nat) (h : Hdr) (st : Byte) : State :=
  s.sendW p h.tc.toNat (some (bdTenant (s.map.cur.bind p))) kindForward (.yd 0x06 (replyHdr s h st.toNat) [])

/-- Answers a YD request with RSP_DATA on the port it entered by. -/
def State.rspData (s : State) (p : Nat) (h : Hdr) (st : Byte) (d : Line) (poison : Bool) : State :=
  s.sendW p h.tc.toNat (some (bdTenant (s.map.cur.bind p))) kindForward
    (.yd 0x05 (replyHdr s h st.toNat poison) (lineSlots d))

/-- Counts ACCESS_DENIED of a port's request with its master and address (spec 03 R67, 19 R412). -/
def State.countDenied (s : State) (p : Nat) (addr : Option Nat) : State :=
  let b := s.map.cur.bind p
  let m := if s.ydUp p then (2, bdFeid b) else (1, bdPbr b)
  s.count { blk := .port, code := 0x09, inst := p, master := some m, addr := addr, tenant := bdValid b }

end Sys2Proof.Machine
end

