-- ==== Sys2Proof/Machine/Pool.lean ====
section
/-! DEFINITION. Pool memory as the home sees it: keys, tiers, poison, coded blocks (spec 04 R93, 06, 07, 14 R320 to R322). -/

namespace Sys2Proof.Machine

/-! ### Keys (spec 14) -/

/-- Context states (spec 14 R316). -/
abbrev ctxFree : Nat := 0
abbrev ctxReady : Nat := 1
abbrev ctxRetiring : Nat := 2

/-- CTX_STAT.STATE of a context. -/
def State.ctxState (s : State) (x : Nat) : Nat := s.rd CTX_STAT_STATE x

/-- CTX_BIND.TENANT of a context. -/
def State.ctxTenant (s : State) (x : Nat) : Nat := s.rd CTX_BIND_TENANT x

/-- The loaded slots of a tenant in a state. -/
def State.slotsOf (s : State) (tenant st : Nat) : List Nat :=
  (s.sec.slots.keys).filter (fun x => s.ctxTenant x == tenant && s.ctxState x == st)

/-- The tenant's home slot: the lowest READY slot, else the RETIRING one (spec 14 R321). -/
def State.homeSlot (s : State) (tenant : Nat) : Option Nat :=
  match s.slotsOf tenant ctxReady with
  | x :: _ => some x
  | [] => (s.slotsOf tenant ctxRetiring).head?

/-- A tenant without a READY slot is keyless for new operations (spec 14 R322). -/
def State.keyless (s : State) (tenant : Nat) : Bool := (s.slotsOf tenant ctxReady).isEmpty

/-- The key pair of a tenant's home slot, 0 where it has none. -/
def State.keyOf (s : State) (tenant : Nat) : Nat :=
  match s.homeSlot tenant with
  | none => 0
  | some x => match Tbl.get? s.sec.slots x with | some k => k.pair.toNat | none => 0

/-- Whether a tenant forbids compression (spec 14 R324). -/
def State.noCmpr (s : State) (tenant : Nat) : Bool :=
  match s.homeSlot tenant with
  | none => false
  | some x => match Tbl.get? s.sec.slots x with | some k => k.noCmpr | none => false

/-! ### Tiers (spec 06) -/

/-- Tier page of an address. -/
def pageNo (a : Nat) : Nat := a / 65536

/-- A field of the tier policy an extent entry selects. -/
def State.pol (s : State) (f : BlockField) (x : Nat) : Nat := s.rd f 0 (exPolicy x)

/-- PAGED extents (spec 06 R129). -/
def State.paged (s : State) (x : Nat) : Bool := s.pol TIER_POL_A_PAGED x == 1

/-- The page entry of a PAGED extent's page. -/
def State.pageEnt (s : State) (p : Nat) : PageEnt := Tbl.get s.tier.ents p {}

/-- TIER of a page entry (spec 06 R136). -/
def tierCode : PageTier → Nat
  | .zero => 0
  | .t2 => 1
  | .t3 => 2
  | .t4 => 3

/-- A page entry's 8 bytes in the page table (spec 06 R136). -/
def ptEntry (e : PageEnt) : Nat := tierCode e.tier + (e.frame % 2 ^ 36) * 2 ^ 8 + ((e.len - 1) % 16) * 2 ^ 44

/-- Tray address of a page's entry in the page table (spec 06 R136). -/
def State.ptAddr (s : State) (p : Nat) : Nat := s.rd TIER_PT_OFFSET_GIB * 2 ^ 30 + p / 16384 * 131072 + 8 * (p % 16384)

/-- The page-table line a page's entry lies in. -/
def State.ptLine (s : State) (p : Nat) : Line :=
  BitVec.ofNat 512 ((List.range 8).foldl (fun n i => n + ptEntry (s.pageEnt (p / 8 * 8 + i)) * 2 ^ (64 * i)) 0)

/-- A line access of the device's own tables to a tray port, where the port is up: it belongs to no transaction. -/
def State.tableWrite (s : State) (port addr : Nat) (d : Line) : State :=
  if s.linked port then
    let id := s.tier.nextTray
    let op : TrayOp := { id := id, txn := 0, line := 0, port := port, write := true }
    ({ s with tier := { s.tier with nextTray := id + 1, trayOps := s.tier.trayOps ++ [op] } }).sendW port 0 none kindWrite
      (.trayWr id addr [d] [false])
  else s

/-- Sets a page entry, in the page table as well (spec 06 R136). -/
def State.setPageEnt (s : State) (p : Nat) (e : PageEnt) : State :=
  let s := { s with tier := { s.tier with ents := Tbl.putD s.tier.ents p {} e } }
  s.tableWrite (s.rd TIER_PT_PORT) (s.ptAddr p / 64 * 64) (s.ptLine p)

/-- Where a line resolves (spec 06 R128). -/
inductive Tier where
  | t1 | zero | t2 | t3 | t4
deriving DecidableEq, Repr

/-- The tier of an address under an extent entry. -/
def State.tierOf (s : State) (x a : Nat) : Tier :=
  if (Tbl.get? s.tier.t1 (pageNo a)).isSome then .t1
  else if s.paged x then
    match (s.pageEnt (pageNo a)).tier with
    | .zero => .zero
    | .t2 => .t2
    | .t3 => .t3
    | .t4 => .t4
  else .t2

/-- 4 KiB unit of an address within its tier page. -/
def unitOf (a : Nat) : Nat := a / 4096 % 16

/-- Whether an address lies in a dirty T1 unit. -/
def State.isDirty (s : State) (a : Nat) : Bool :=
  match Tbl.get? s.tier.t1 (pageNo a) with
  | some p => bit p.dirty (unitOf a)
  | none => false

/-- Dirty units in T1 (TIER_DIRTY). -/
def State.dirtyUnits (s : State) : Nat :=
  s.tier.t1.foldl (fun n p => n + ((List.range 16).filter (fun u => bit p.2.dirty u)).length) 0

/-- The HBM stack of a page: (page ÷ STACK_RUN) mod 8, over the surviving stacks after a loss (spec 06 R130, R153). -/
def State.stackOf (s : State) (x p : Nat) : Nat :=
  let run := s.pol TIER_POL_B_STACK_RUN x
  let live := (List.range 8).filter (fun i => !s.tier.lostStacks.contains i)
  (live[(p / run) % live.length]?).getD 0

/-- Marks an access to a page for the least-recently-accessed order (spec 06 R131, R138). -/
def State.touch (s : State) (a : Nat) : State :=
  { s with tier := { s.tier with clock := s.tier.clock + 1, seen := Tbl.put s.tier.seen (pageNo a) (s.tier.clock + 1) } }

/-- Sets the dirty mark of an address's unit; a unit written during its own write-back is written back again later (spec 06
R133). -/
def State.markDirty (s : State) (a : Nat) : State :=
  match Tbl.get? s.tier.t1 (pageNo a) with
  | none => s
  | some p =>
    let q := { p with dirty := p.dirty ||| 2 ^ unitOf a }
    { s with tier := { s.tier with
      t1 := Tbl.put s.tier.t1 (pageNo a) q
      wbs := s.tier.wbs.filter (fun (w : Nat × Bool) => w.2 || w.1 != a / 4096)
      wbAgain := if s.tier.wbs.contains (a / 4096, true) then setAdd s.tier.wbAgain (a / 4096) else s.tier.wbAgain } }

/-- Whether a tier page holds part of the sampling ring while sampling is enabled: it is pinned in T1 (spec 19 R410). -/
def State.ringPinned (s : State) (p : Nat) : Bool :=
  let base := s.rd PMON_RING_LO_BASE + 2 ^ 32 * s.rd PMON_RING_HI_BASE
  s.enabled .pmon && s.flag PMON_SMP_CTL_EN && base / 65536 ≤ p && p ≤ (base + 64 * 2 ^ s.rd PMON_RING_SIZE_LOG2 - 1) / 65536

/-- Whether a schedule stages a page: it is pinned from its issue (spec 06 R145). -/
def State.staged (s : State) (p : Nat) : Bool := s.tier.scheds.any (fun (c : Nat × Sched) => c.2.staging.any (fun q => q.2 == p))

/-- Pages no schedule pins, least recently accessed first. -/
def State.evictable (s : State) : List Nat :=
  (sortBy (fun a b => Tbl.get s.tier.seen a 0 ≤ Tbl.get s.tier.seen b 0)
    ((s.tier.t1.filter (fun p => p.2.pins.isEmpty && !s.staged p.1 && !s.ringPinned p.1)).map (·.1)))

/-- Tier pages the near tier holds: TIER_NEAR.GIB, less one eighth for each lost stack (spec 06 R130, R153). -/
def State.nearPages (s : State) : Nat := s.rd TIER_NEAR_GIB * 16384 * (8 - s.tier.lostStacks.length) / 8

/-- 4 KiB units the near tier's pages take, with the second copies of dirty units of MIRROR and CODED extents (spec 06 R134). -/
def State.nearUnits (s : State) : Nat :=
  s.tier.t1.foldl (fun n (p : Nat × T1Page) =>
    n + 16 + (if exRedund (s.map.cur.extent (p.1 / 16384)) = 0 then 0
      else ((List.range 16).filter (fun u => bit p.2.dirty u)).length)) 0

/-- Whether the near tier has room for one more page. -/
def State.nearRoom (s : State) : Bool := s.nearUnits + 16 ≤ 16 * s.nearPages

/-! ### Stored lines -/

/-- The block number of an address. -/
def blockNo (a : Nat) : Nat := a / 256

/-- The key pair and GEN an extent's lines are encrypted under by its tenant now (spec 07 R171). -/
def State.tagOf (s : State) (b : Bank) (x : Nat) : Nat × Nat := (s.keyOf (b.tenantOf x), exGen x)

/-- Whether a line of a store decrypts under a tag (spec 07 R172, R173). -/
def Store.readable (st : Store) (foreign : Bool) (tag : Nat × Nat) (a : Nat) : Bool :=
  match Tbl.get? st.tags (a / 64) with
  | some g => g == tag
  | none => !foreign

/-- The bytes of a line as they decrypt: the line, or values the spec does not give (spec 07 R172). -/
def Store.plain (st : Store) (foreign : Bool) (tag : Nat × Nat) (a : Nat) : Line :=
  let d := Memory.readLine st.bytes a
  if st.readable foreign tag a then d
  else lineOf ((List.range 64).map (fun i => Config.unreadable (byteOf d.toNat i) (a + i) tag))

/-- The size-map entry of a block (spec 07 R157). -/
def Store.entry (st : Store) (blk : Nat) : Nat := Tbl.get st.smap blk 4

/-- A line as the home delivers it: data, poison, and the size cases its block's expansion met (spec 07 R178, R465). -/
structure View where
  data   : Line
  poison : Bool
  overrun   : Bool := false
  underrun  : Bool := false
deriving DecidableEq, Repr

/-- The view of a line: a ZERO block reads as zeros whatever its lines hold (spec 07 R157). A coded block of an extent that no longer decrypts is expanded from what its lines decrypt to. -/
def State.viewOf (s : State) (st : Store) (x : Nat) (tag : Nat × Nat) (a : Nat) : View :=
  let foreign := s.pool.foreign.contains (a / 2 ^ 30)
  let p := st.poison.contains (a / 64)
  let b := a / 256 * 256
  let e := st.entry (blockNo a)
  let bad := (List.range 4).any (fun i => !st.readable foreign tag (b + 64 * i))
  if exCmpr x && e == 0 then { data := 0, poison := false }
  else if exCmpr x && e < 4 && bad then
    let stored := (List.range 4).foldl (fun n i => n + (st.plain foreign tag (b + 64 * i)).toNat * 2 ^ (512 * i)) 0
    let r := aiskoExpand e stored
    { data := BitVec.ofNat 512 (r.block >>> (8 * (a - b))), poison := p, overrun := r.overrun, underrun := r.underrun }
  else { data := if p && exCmpr x && e < 4 then 0 else st.plain foreign tag a, poison := p }

/-- Encodings the home's compressor may use (spec 07 R164: never MXP). -/
def State.homeEnc (s : State) : EncSet :=
  { exp := s.flag CMPR_CTL_ENC_EXP, bd := s.flag CMPR_CTL_ENC_BD, sparse := s.flag CMPR_CTL_ENC_SPARSE, mxp := none }

/-- Writes a line of a store under a tag: bytes, poison mark, tag. -/
def Store.putLine (st : Store) (a : Nat) (d : Line) (poison : Bool) (tag : Nat × Nat) : Store :=
  { st with
    bytes := Memory.writeLine st.bytes a fullMask d
    poison := setPut st.poison (a / 64) poison
    tags := Tbl.put st.tags (a / 64) tag }

/-- The four lines of a block as a number. -/
def Store.blockValue (st : Store) (a : Nat) : Nat :=
  (List.range 4).foldl (fun n i => n + (Memory.readLine st.bytes (a / 256 * 256 + 64 * i)).toNat * 2 ^ (512 * i)) 0

/-- Recodes a block after a write: RAW while a line carries poison, or where `raw` asks for it (spec 07 R164, R176, R465). -/
def Store.recode (st : Store) (enc : EncSet) (raw : Bool) (a : Nat) : Store :=
  let b := a / 256
  let poisoned := (List.range 4).any (fun i => st.poison.contains (4 * b + i))
  let e := if poisoned || raw then 4 else (aiskoCompress enc (st.blockValue a)).1
  { st with smap := Tbl.putD st.smap b 4 e }

/-- Copies the lines of a 4 KiB unit or any run of lines from one store to another, with their entries. -/
def Store.copyRun (src dst : Store) (a lines : Nat) : Store :=
  (List.range lines).foldl
    (fun st i =>
      let c := a + 64 * i
      let st := { st with
        bytes := Memory.writeLine st.bytes c fullMask (Memory.readLine src.bytes c)
        poison := setPut st.poison (c / 64) (src.poison.contains (c / 64))
        tags := match Tbl.get? src.tags (c / 64) with
          | some g => Tbl.put st.tags (c / 64) g
          | none => Tbl.del st.tags (c / 64) }
      { st with smap := Tbl.putD st.smap (c / 256) 4 (src.entry (c / 256)) }) dst

/-- Marks a line poisoned; a coded block is then stored RAW (spec 07 R465). -/
def Store.poisonLine (st : Store) (a : Nat) : Store :=
  { st with poison := setAdd st.poison (a / 64), smap := Tbl.putD st.smap (blockNo a) 4 4 }

/-- Loses a stored line to an uncorrectable error: a line a coded block is stored in costs all four pool lines of the
block, which then read as zeros, a line it does not use costs none (spec 07 R156, R465). -/
def Store.loseLine (st : Store) (cmpr : Bool) (a : Nat) : Store :=
  let e := st.entry (blockNo a)
  if cmpr && e < 4 then
    if a / 64 % 4 < e then
      (List.range 4).foldl
        (fun st i =>
          let c := a / 256 * 256 + 64 * i
          { st with bytes := Memory.writeLine st.bytes c fullMask 0 }.poisonLine c) st
    else st
  else st.poisonLine a

/-- Poisons a line in both stores. -/
def State.poisonLine (s : State) (a : Nat) : State :=
  { s with pool := { s.pool with cur := s.pool.cur.poisonLine a, tray := s.pool.tray.poisonLine a } }

/-- Drops everything stored for an extent: bytes, poison, tags, entries (a PAGED extent made ZERO, spec 06 R137). -/
def Store.dropExtent (st : Store) (x : Nat) : Store :=
  { bytes := st.bytes.filter (fun c => c.1 / 2 ^ 30 != x)
    poison := st.poison.filter (fun l => l / 2 ^ 24 != x)
    tags := st.tags.filter (fun t => t.1 / 2 ^ 24 != x)
    smap := st.smap.filter (fun b => b.1 / 2 ^ 22 != x) }

/-- Applies HBM_INJ to a line written to its T1 stack (spec 21 R440). -/
def State.hbmWrite (s : State) (a : Nat) : State :=
  match Tbl.get? s.tier.t1 (pageNo a) with
  | none => s
  | some p =>
    let k := p.stack
    let s := (s.set HBM_PWR_IN_SR 0 k).count { blk := .hbm, code := 0x03, inst := k, cls := some 1 }
    if s.flag HBM_INJ_UE k then
      let s := (s.set HBM_INJ_UE 0 k).set HBM_INJ_CE 0 k
      { s with pool := { s.pool with ue := Tbl.put s.pool.ue (a / 64) true } }
    else if s.flag HBM_INJ_CE k then
      let s := s.set HBM_INJ_CE 0 k
      { s with pool := { s.pool with ue := Tbl.put s.pool.ue (a / 64) false } }
    else { s with pool := { s.pool with ue := Tbl.del s.pool.ue (a / 64) } }

/-- Drops a clean page from T1, with the errors its lines hold. -/
def State.dropT1 (s : State) (p : Nat) : State :=
  { s with
    tier := { s.tier with t1 := Tbl.del s.tier.t1 p }
    pool := { s.pool with ue := s.pool.ue.filter (fun u => u.1 / 1024 != p) } }

/-- Whether the HBM copy of a line, a clean T1 copy or a replica, has an uncorrectable error: the read is then served from T2 (spec
07 R174). -/
def State.t1Stale (s : State) (a : Nat) : Bool := Tbl.get? s.pool.ue (a / 64) == some true && !s.isDirty a

/-- A read of a line of a stack meets a stored error, which ends with it: a correctable or an uncorrectable one is counted and
latched (spec 07 R174). -/
def State.hbmMeets (s : State) (k a : Nat) (ue : Bool) : State :=
  let s := { s with pool := { s.pool with ue := Tbl.del s.pool.ue (a / 64) } }
  if ue then
    let r := s.fresh
    let s := (r.2.count { blk := .hbm, code := 0x02, inst := k, addr := some a }).addSat HBM_ECC_UE 1 k
    ((s.set HBM_UE_LINE_LINE r.1 k).set HBM_UE_LINE_VALID 1 k).err ⟨.hbm, k⟩ 16
  else (s.count { blk := .hbm, code := 0x01, inst := k, addr := some a }).addSat HBM_ECC_CE 1 k

/-- The stack a page's local replica lies in: the spec gives no rule for it. -/
def State.replStack (s : State) : Nat × State := (s.fresh.1 % 8, s.fresh.2)

/-- Writes a page's local replica to its stack, with HBM_INJ's error in its first line (spec 04 R95, 21 R440). -/
def State.replWrite (s : State) (page : Nat) : State :=
  let k := s.replStack.1
  let s := s.replStack.2
  let ue := s.pool.ue.filter (fun u => u.1 / 64 != page || (Tbl.get? s.tier.t1 (page / 16)).isSome)
  let put (b : Bool) : State := { s with pool := { s.pool with ue := Tbl.put ue (64 * page) b } }
  if s.flag HBM_INJ_UE k then ((put true).set HBM_INJ_UE 0 k).set HBM_INJ_CE 0 k
  else if s.flag HBM_INJ_CE k then (put false).set HBM_INJ_CE 0 k
  else { s with pool := { s.pool with ue := ue } }

/-- Reads a line of a local replica: an uncorrectable error drops the replica (spec 07 R174). -/
def State.replRead (s : State) (a : Nat) : State :=
  match Tbl.get? s.pool.ue (a / 64) with
  | none => s
  | some ue =>
    let s := s.replStack.2.hbmMeets s.replStack.1 a ue
    if ue then { s with home := { s.home with repl := { s.home.repl with local_ := setDel s.home.repl.local_ (a / 4096) } } } else s

/-- Reads a line from its T1 stack (spec 07 R174): a one-symbol error is corrected and written back; a two-symbol error
drops a clean page, whose line T2 then serves, and poisons a line of a dirty unit. -/
def State.hbmRead (s : State) (x a : Nat) : State :=
  match Tbl.get? s.tier.t1 (pageNo a) with
  | none => s
  | some p =>
    let k := p.stack
    let s := (s.set HBM_PWR_IN_SR 0 k).count { blk := .hbm, code := 0x03, inst := k, cls := some 0 }
    match Tbl.get? s.pool.ue (a / 64) with
    | none => s
    | some false => s.hbmMeets k a false
    | some true =>
      let s := s.hbmMeets k a true
      if p.dirty = 0 then s.dropT1 (pageNo a)
      else if bit p.dirty (unitOf a) then
        { s with pool := { s.pool with cur := s.pool.cur.loseLine (exCmpr x) a } }
      else s

/-- Reads a line from where HBM holds a copy of it: T1, or a local replica (spec 07 R174). -/
def State.nearRead (s : State) (x a : Nat) : State :=
  if (Tbl.get? s.tier.t1 (pageNo a)).isSome then s.hbmRead x a
  else if s.home.repl.local_.contains (a / 4096) then s.replRead a
  else s

/-- The line the home delivers for an access under a bank. -/
def State.readPool (s : State) (b : Bank) (a : Nat) : View :=
  let x := b.extent (a / 2 ^ 30)
  s.viewOf s.pool.cur x (s.tagOf b x) a

/-- Counts HOME_EXPAND_SIZE and latches CMPR_SIZEERR for a size case the home met (spec 07 R179). -/
def State.sizeCase (s : State) (a : Nat) (v : View) : State :=
  if v.overrun || v.underrun then
    let s := (s.count { blk := .home, code := 0x0A, addr := some a }).err ⟨.home, 0⟩ 18
    if s.flag CMPR_SIZEERR_VALID then s.set CMPR_SIZEERR_MORE 1
    else
      let b := a / 256 * 256
      let s := (s.set CMPR_SIZEERR_VALID 1).err ⟨.cmpr, 0⟩ 16
      let s := (s.set CMPR_SIZEERR_OVERRUN (b2n v.overrun)).set CMPR_SIZEERR_UNDERRUN (b2n v.underrun)
      (s.set CMPR_SIZEERR_ADDR_LO_BLOCK_ADDR (b % 2 ^ 32)).set CMPR_SIZEERR_ADDR_HI_BLOCK_ADDR (b / 2 ^ 32)
  else s

/-- Writes a line: merged under its mask into what the home reads, block and all, where a core does not write the block whole
(spec 07 R169), poisoned where it was poisoned and the
write does not cover it, or where the write carries poison (spec 04 R93, 07 R465); to T1 where the page is there, marking
its unit dirty, else to the trays as well (spec 06 R133). -/
def State.writePool (s : State) (b : Bank) (a : Nat) (d : Line) (mask : BitVec 64) (poison : Bool)
    (enc : EncSet) (raw : Bool := false) (whole : Bool := false) : State :=
  let x := b.extent (a / 2 ^ 30)
  let tag := s.tagOf b x
  let v := s.viewOf s.pool.cur x tag a
  let s := if whole || mask = fullMask && !exCmpr x then s else s.sizeCase a v
  let old := v.data.toNat
  let new := lineOf ((List.range 64).map (fun i => if mask.getLsbD i then byteOf d.toNat i else byteOf old i))
  let pz := poison || (v.poison && mask != fullMask)
  let others (st : Store) : Store :=
    if exCmpr x then
      (List.range 4).foldl
        (fun out i =>
          let c := a / 256 * 256 + 64 * i
          if c = a then out else let w := s.viewOf st x tag c; out.putLine c w.data w.poison tag) st
    else st
  let cur := (others s.pool.cur).putLine a new pz tag
  let cur := if exCmpr x then cur.recode enc raw a else cur
  if (Tbl.get? s.tier.t1 (pageNo a)).isSome then
    ({ s with pool := { s.pool with cur := cur } }.markDirty a).hbmWrite a
  else
    { s with pool := { s.pool with cur := cur, tray := cur.copyRun s.pool.tray (a / 256 * 256) 4 } }

end Sys2Proof.Machine
end

