-- ==== Sys2Proof/Machine/Frames.lean ====
section
/-! DEFINITION. Placement of lines in trays: ports, failed heads, frames of the frame store, packing (spec 06 R136 to
R141, R148 to R151). -/

namespace Sys2Proof.Machine

/-! ### Frames -/

/-- The used frame-store areas, in order: index, port, first frame, frame count (spec 06 R136). -/
def State.areas (s : State) : List (Nat × Nat × Nat × Nat) :=
  ((List.range 16).foldl
    (fun (acc : List (Nat × Nat × Nat × Nat) × Nat) a =>
      let n := if s.rd TIER_AREA_W0_PORT 0 a == 0xFF then 0 else s.rd TIER_AREA_W1_SIZE_GIB 0 a * 2 ^ 18
      if n = 0 then acc else (acc.1 ++ [(a, s.rd TIER_AREA_W0_PORT 0 a, acc.2, n)], acc.2 + n)) ([], 0)).1

/-- The area a frame lies in. -/
def State.areaOf (s : State) (f : Nat) : Option (Nat × Nat × Nat × Nat) :=
  s.areas.find? (fun a => a.2.2.1 ≤ f && f < a.2.2.1 + a.2.2.2)

/-- Runs of frame-store frames in use: by T2 and T3 pages. -/
def State.usedFrames (s : State) : List (Nat × Nat) :=
  s.tier.ents.filterMap (fun e =>
    match e.2.tier with
    | .t2 | .t3 => some (e.2.frame, e.2.len)
    | _ => none)

/-- A free run of n frames, aligned, inside one area: the lowest (the order of hand-out is not visible). -/
def State.freeRun (s : State) (n align : Nat) : Option Nat :=
  let up (f : Nat) : Nat := (f + align - 1) / align * align
  let cands := sortBy (fun a b => a < b)
    (s.areas.map (fun a => up a.2.2.1) ++ s.usedFrames.map (fun u => up (u.1 + u.2)))
  cands.find? (fun f =>
    s.usedFrames.all (fun u => f + n ≤ u.1 || u.1 + u.2 ≤ f) &&
    match s.areaOf f with
    | none => false
    | some a => f + n ≤ a.2.2.1 + a.2.2.2)

/-- Runs of T4-window frames in use, and a free run there (spec 06 R139). -/
def State.freeT4 (s : State) (n : Nat) : Option Nat :=
  let used := s.tier.ents.filterMap (fun e => match e.2.tier with | .t4 => some (e.2.frame, e.2.len) | _ => none)
  let cands := sortBy (fun a b => a < b) (0 :: used.map (fun u => u.1 + u.2))
  cands.find? (fun f =>
    used.all (fun u => f + n ≤ u.1 || u.1 + u.2 ≤ f) && f + n ≤ s.rd TIER_T4_CFG_SIZE_GIB * 2 ^ 18)

/-- Frames a page's packed image needs: 128 B of entries, then the coded lines of its 256 blocks (spec 06 R138). -/
def State.packFrames (s : State) (x p : Nat) : Nat :=
  let lines := (List.range 256).foldl
    (fun n i => n + (if exCmpr x then min 4 (s.pool.cur.entry (256 * p + i)) else 4)) 0
  (128 + 64 * lines + 4095) / 4096

/-- Whether a page may be packed: T2, T3_EN, its tenant not keyless, no move of it running (spec 06 R138; 14 R322). -/
def State.packable (s : State) (p : Nat) : Bool :=
  let x := s.extentAt s.epoch (65536 * p)
  s.flag TIER_CTL_PACK_EN && exValid x && s.paged x && s.pol TIER_POL_A_T3_EN x == 1 &&
    (match (s.pageEnt p).tier with | .t2 => true | _ => false) &&
    (Tbl.get? s.tier.t1 p).isNone && (Tbl.get? s.tier.moves p).isNone &&
    !s.keyless (s.map.cur.tenantOf x) && s.packFrames x p ≤ 15

/-- Packs a page into a free run of frames, where one exists; counts T3_PACK (spec 06 R138). -/
def State.packPage (s : State) (p : Nat) : State :=
  let n := s.packFrames (s.extentAt s.epoch (65536 * p)) p
  match s.freeRun n 1 with
  | none => s
  | some f =>
    (s.setPageEnt p { tier := .t3, frame := f, len := n }).count { blk := .tier, code := 0x03, addr := some (65536 * p) }

/-- The packable pages, least recently accessed first. -/
def State.packables (s : State) : List Nat :=
  sortBy (fun a b => Tbl.get s.tier.seen a 0 ≤ Tbl.get s.tier.seen b 0) ((s.tier.ents.map (·.1)).filter s.packable)

/-- Whether a page can leave its frame at once: no peer holds a replica of it and no leaf owns a line of it, which its packing
would first have to call back (spec 06 R132, R138). -/
def State.restful (s : State) (p : Nat) : Bool :=
  !s.home.repl.peers.any (fun (r : Nat × List Nat) => r.1 / 16 == p) &&
    !s.home.dir.any (fun (e : Nat × DirEntry) => e.2.st != .s && e.1 / 1024 == p)

/-- Forgets the local replicas of a tier page (spec 06 R132). -/
def State.dropLocal (s : State) (p : Nat) : State :=
  { s with home := { s.home with repl := { s.home.repl with
    local_ := s.home.repl.local_.filter (fun q => q / 16 != p) } } }

/-- Packs pages in turn until one leaves a 64 KiB frame free (spec 06 R141). -/
def State.packFor : List Nat → State → State × Option Nat
  | [], s => (s, none)
  | p :: t, s =>
    let s' := (s.packPage p).dropLocal p
    match s'.freeRun 16 16 with
    | some f => (s', some f)
    | none => State.packFor t s

/-- Takes a free 64 KiB frame, packing the least recently accessed page that can be packed where none is free (spec 06 R141);
none, counted once for an access, where no page can be packed. -/
def State.takeFrame (s : State) (counted : Bool := false) : State × Option Nat :=
  match s.freeRun 16 16 with
  | some f => (s, some f)
  | none =>
    let r := State.packFor (s.packables.filter s.restful) s
    match r.2 with
    | some f => (r.1, some f)
    | none => (if counted then s else (s.count { blk := .tier, code := 0x05 }).err ⟨.tier, 0⟩ 17, none)

/-- Writes a line to memory as poisoned: a first write of a ZERO page takes a frame (spec 04 R92, R93; 06 R137). -/
def State.spoil (s : State) (a : Nat) : State :=
  let x := s.map.cur.extent (a / 2 ^ 30)
  let p := pageNo a
  let s := if exValid x && s.paged x && (s.pageEnt p).tier == .zero then
      let r := s.takeFrame
      match r.2 with
      | some f => r.1.setPageEnt p { tier := .t2, frame := f, len := 16 }
      | none => r.1
    else s
  s.poisonLine a

/-! ### Tray places -/

/-- Where a line lies in the trays. -/
inductive Place where
  | one (port addr : Nat)
  | mirror (place : Nat) (p0 p1 addr : Nat)
  | coded (place : Nat) (unit addr : Nat)
deriving DecidableEq, Repr

/-- The tray place of a pool address under a bank (spec 03, From leaf address to tray; 06 R136, R148, R149). -/
def State.placeOf (s : State) (b : Bank) (a : Nat) : Place :=
  let x := b.extent (a / 2 ^ 30)
  let off := a % 2 ^ 30
  if s.paged x then
    let f := (s.pageEnt (pageNo a)).frame
    match s.areaOf f with
    | none => .one 0xFF 0
    | some ar => .one ar.2.1 (s.rd TIER_AREA_W0_OFFSET_GIB 0 ar.1 * 2 ^ 30 + (f - ar.2.2.1) * 4096 + a % 65536)
  else
    let pl := exPlace x
    match exRedund x with
    | 0 => .one (b.placePort pl 0) (exOffset x * 2 ^ 30 + off)
    | 1 => .mirror pl (b.placePort pl 0) (b.placePort pl 1) (exOffset x * 2 ^ 30 + off)
    | _ =>
      let j := off / 32768
      let u := off % 32768 / 4096
      .coded pl ((u + j) % 10) (exOffset x * 2 ^ 27 + j * 4096 + a % 4096)

/-- Whether an extent's head or unit i is failed: its placement's port is marked, and the extent has not been rebuilt since
(spec 06 R148, R151, R152). -/
def State.headFailed (s : State) (x pl i : Nat) : Bool := s.tier.headBad.contains (pl, i) && !s.tier.healed.contains (x, i)

/-- Marks a placement's port failed, as an extent has found it. -/
def State.failHead (s : State) (x pl i : Nat) : State :=
  if s.headFailed x pl i then s
  else { s with tier := { s.tier with
    headBad := if s.tier.headBad.contains (pl, i) then s.tier.headBad else (pl, i) :: s.tier.headBad
    healed := s.tier.healed.filter (fun h => h != (x, i)) } }

/-- Readable units of a CODED extent's stripes: ports of the placement up and not failed (spec 06 R151). -/
def State.codedReadable (s : State) (b : Bank) (x pl : Nat) : List Nat :=
  (List.range 10).filter (fun i => !s.headFailed x pl i && s.linked (b.placePort pl i))

/-- A failed head of the size-map area, whose two trays fail over as those of a MIRROR extent (spec 07 R159). -/
abbrev smapPl : Nat := 4096

/-- The extent number under which the size-map area's heads fail: no extent's. -/
abbrev smapX : Nat := 262144

/-- A tray of the size-map area: its port, and the address of the line that holds the entry of an address's block (spec 07 R158,
R159). -/
def State.smapTray (s : State) (k a : Nat) : Nat × Nat :=
  let line := a / 2 ^ 30 * 2 ^ 21 + a % 2 ^ 30 / 32768 * 64
  if k = 0 then (s.rd CMPR_SMAP_A_PORT, s.rd CMPR_SMAP_A_OFFSET_GIB * 2 ^ 30 + line)
  else (s.rd CMPR_SMAP_B_PORT, s.rd CMPR_SMAP_B_OFFSET_GIB * 2 ^ 30 + line)

/-- Whether a tray of the size-map area can be used. -/
def State.smapUsable (s : State) (k : Nat) : Bool :=
  (s.smapTray k 0).1 != 0xFF && !s.headFailed smapX (smapPl + k) 0 && s.linked (s.smapTray k 0).1

/-- The line of the size-map area that holds the entry of an address's block: 128 entries (spec 07 R158, R159). -/
def Store.smapLine (st : Store) (a : Nat) : Line :=
  let b := a / 32768 * 128
  BitVec.ofNat 512 ((List.range 128).foldl (fun n i => n + st.entry (b + i) * 2 ^ (4 * i)) 0)

end Sys2Proof.Machine
end

