-- ==== Sys2Proof/Machine/Home.lean ====
section
/-! DEFINITION. The home: its directory, its transactions and what they answer (spec 04; 05 R103, R118, R121; 06 R137,
R140, R141, R148 to R151, R468). -/

namespace Sys2Proof.Machine

/-! ### Operations on memory (spec 05, Remote atomics) -/

/-- Operand width of a SIZE code in bits. -/
def atomicBits (size : Nat) : Nat :=
  match size with
  | 0 => 32
  | 1 => 64
  | 2 => 128
  | _ => 16

/-- Whether the table lists an OP with a SIZE. -/
def atomicListed (op size : Nat) : Bool := if op == 8 then size == 0 || size == 3 else op < 8 && size < 3

/-- The value an atomic leaves in memory. -/
def atomicApply (op size : Nat) (signed : Bool) (old operand swapv : Nat) : Nat :=
  let n := atomicBits size
  let less (a b : Nat) : Bool := if signed then signedOf n a < signedOf n b else a < b
  let a := old % 2 ^ n
  let b := operand % 2 ^ n
  match op with
  | 0 => (a + b) % 2 ^ n
  | 1 => if less b a then b else a
  | 2 => if less a b then b else a
  | 3 => a &&& b
  | 4 => a ||| b
  | 5 => a ^^^ b
  | 6 => b
  | 7 => if a = b then swapv % 2 ^ n else a
  | _ => if size = 3 then roundTo bf16 false ((decodeFp bf16 a).add (decodeFp bf16 b)) else fAdd a b

/-- One element of a SCATTER combine: op 1 ADD, 2 MAX (spec 10 R239). -/
def combineElem (ty op a b : Nat) : Nat :=
  if ty = 0xA then
    if op = 1 then (a + b) % 2 ^ 32 else if signedOf 32 a < signedOf 32 b then b else a
  else
    let f := (fmtOf ty).getD fp32
    if op = 1 then roundTo f false ((decodeFp f a).add (decodeFp f b))
    else roundTo f false (decodeFp fp32 (fMax (toF32 (decodeFp f a)) (toF32 (decodeFp f b))))

/-- Combines the elements of a line whose mask bytes are set. -/
def combineLine (ty op old : Nat) (d : Line) (mask : BitVec 64) : Line :=
  let n := typeBits ty / 8
  BitVec.ofNat 512 ((List.range (64 / n)).foldl
    (fun v i =>
      let a := bits old (8 * n * (i + 1) - 1) (8 * n * i)
      let b := bits d.toNat (8 * n * (i + 1) - 1) (8 * n * i)
      v + (if mask.getLsbD (n * i) then combineElem ty op a b else a) * 2 ^ (8 * n * i)) 0)

/-! ### Sealed extents (spec 05 R103) -/

/-- Whether a region's retained versions or its running PUBLISH list an extent. -/
def Region.lists (r : Region) (x : Nat) : Bool := r.versions.any (fun v => v.2.contains x) || r.newList.contains x

/-- The region an extent is sealed in. -/
def State.sealedIn (s : State) (x : Nat) : Option Nat := (s.pub.regions.find? (fun r => r.2.lists x)).map (·.1)

/-- Whether an extent is sealed. -/
def State.isSealed (s : State) (x : Nat) : Bool := (s.sealedIn x).isSome

/-! ### The reply cache (spec 05 R121) -/

/-- ARG of a PUB_RSP (spec 05 R106). -/
def pubRspArg (kind : Nat) (st : Byte) (region : Nat) (fromCache rgrant : Bool) : Nat :=
  kind + st.toNat * 2 ^ 8 + region * 2 ^ 16 + b2n fromCache * 2 ^ 48 + b2n rgrant * 2 ^ 49

/-- The entry of an identity. -/
def State.rcFind (s : State) (src : Feid) (incarn tag : BitVec 16) : Option RcEntry :=
  s.rc.find? (fun e => e.src == src && e.incarn == incarn && e.tag == tag)

/-- Removes the entry of an identity. -/
def State.rcDrop (s : State) (src : Feid) (incarn tag : BitVec 16) : State :=
  { s with rc := s.rc.filter (fun e => !(e.src == src && e.incarn == incarn && e.tag == tag)) }

/-- Sends an ATOM_RSP (spec 05 R120). -/
def State.atomRsp (s : State) (p : Nat) (h : Hdr) (cas : Bool) (r : Reply) (fromCache : Bool) : State :=
  s.sendW p h.tc.toNat (some (bdTenant (s.map.cur.bind p))) kindForward
    (.yd 0x09 (replyHdr s h (r.status.toNat + b2n fromCache * 2 ^ 8))
      (r.old :: (if cas then [BitVec.ofNat 128 (b2n r.succ)] else [])))

/-- Stores the result of an executed request and answers the duplicates that waited (spec 05 R121). -/
def State.rcFill (s : State) (src : Feid) (incarn tag : BitVec 16) (h : Hdr) (cas : Bool) (r : Reply) : State :=
  match s.rcFind src incarn tag with
  | none => s
  | some e =>
    let s := { s with rc := s.rc.map (fun x =>
      if x.src == src && x.incarn == incarn && x.tag == tag then { x with res := some r, dups := [] } else x) }
    e.dups.foldl (fun s p => s.atomRsp p.val h cas r true) s

/-! ### Answers -/

/-- CXL.mem grants of a completion: none, shared, ownership. -/
abbrev grNone : BitVec 2 := 0
abbrev grShared : BitVec 2 := 1
abbrev grOwn : BitVec 2 := 2

/-- Sends CXL.mem data, in the traffic class of the port's record (spec 13 R306). -/
def State.cxlData (s : State) (p : Nat) (m : Msg) : State :=
  s.sendW p (s.cxlTc p) (some (bdTenant (s.map.cur.bind p))) kindForward m

/-- Refuses a pool request with a status: its own status on YD; the denied form of R67 on CXL.mem; Unsupported Request on
a CXL.io request that expects a completion (PRESUMED, assumption log 12). -/
def State.refuse (s : State) (src : Src) (acc : Access) (st : Byte) : State :=
  match src, acc with
  | .yd p h, .atomic op _ _ _ _ _ _ => s.atomRsp p h (op == 7) { status := st } false
  | .yd p h, _ => s.rsp p h st
  | .cxlMem p tag, .readShared => (s.cxlData p (.memData tag 0 true)).sendQ p 1 (.memCmp tag grNone)
  | .cxlMem p tag, .readOwn noData =>
    (if noData then s else s.cxlData p (.memData tag 0 true)).sendQ p 1 (.memCmp tag grNone)
  | .cxlMem p tag, .readUnc _ len => (if len = 0 then s else s.cxlData p (.memData tag 0 true)).sendQ p 1 (.memCmp tag grNone)
  | .cxlMem p tag, _ => s.sendQ p 1 (.memCmp tag grNone)
  | .cxlIo p tag, .readUnc _ _ => s.cxlData p (.ioCpl tag 1 [] false)
  | .cxlIo p tag, .atomic _ _ _ _ _ _ _ => s.cxlData p (.ioCpl tag 1 [] false)
  | .cxlIo _ _, _ => s
  | .core _ _ _, _ => s
  | .internal, _ => s
  | .engine _, _ => s

/-- Answers a read. -/
def State.answerRead (s : State) (src : Src) (acc : Access) (d : Line) (poison : Bool) : State :=
  let st : Byte := if poison then stPoisoned else stOk
  match src, acc with
  | .yd p h, _ => s.rspData p h st d poison
  | .cxlMem p tag, .readOwn noData =>
    (if noData then s else s.cxlData p (.memData tag d poison)).sendQ p 1 (.memCmp tag grOwn)
  | .cxlMem p tag, .readUnc _ len => (if len = 0 then s else s.cxlData p (.memData tag d poison)).sendQ p 1 (.memCmp tag grNone)
  | .cxlMem p tag, _ => (s.cxlData p (.memData tag d poison)).sendQ p 1 (.memCmp tag grShared)
  | .cxlIo p tag, .readUnc off len => s.cxlData p (.ioCpl tag 0 (((lineBytes d).drop off).take len) poison)
  | .cxlIo p tag, _ => s.cxlData p (.ioCpl tag 0 (lineBytes d) poison)
  | .core _ _ _, _ => s
  | .internal, _ => s
  | .engine _, _ => s

/-- A fresh tag for a request of the device's own (the spec leaves a requester's choice of tags open). -/
def State.freshTag (s : State) : BitVec 16 × State :=
  (BitVec.ofNat 16 s.home.nextId, { s with home := { s.home with nextId := s.home.nextId + 1 } })

/-- Changes a procedure of a context. -/
def State.modProc (s : State) (x id : Nat) (f : Proc → Proc) : State :=
  { s with procs := { s.procs with
    procs := s.procs.procs.map (fun (q : Nat × List Proc) =>
      if q.1 == x then (q.1, q.2.map (fun (p : Proc) => if p.id == id then f p else p)) else q) } }

/-- Which of a procedure's writes an answer belongs to: a commit-log entry below these, its plain writes by the run that issued them,
its record, its counter. -/
abbrev kPlain : Nat := 1048576
abbrev kRecord : Nat := 2097152
abbrev kCounter : Nat := 4194304

/-- The event attributes of a context's event. -/
def ctxOcc (code x : Nat) : Occ :=
  { blk := .ctx, code := code, inst := x, master := some (3, x), ctx := some x }

/-- Whether the record of a procedure is issued. -/
def Proc.ended (p : Proc) : Bool := p.phase == .recorded || p.phase == .refused

/-- Whether a procedure's counter is to be incremented: CNT_EN, and CNT_MODE allows its status (spec 09 R225). -/
def Proc.counterDue (p : Proc) : Bool := bit p.trig 66 && !(bit p.trig 67 && p.status != stOk)

/-- Forgets a procedure whose record is issued, where a test holds of it. -/
def State.dropProc (s : State) (x id : Nat) (f : Proc → Bool) : State :=
  let all := Tbl.get s.procs.procs x []
  let gone := (all.find? (fun p => p.id == id)).any (fun p => p.ended && f p)
  let l := if gone then all.filter (fun p => p.id != id) else all
  { s with procs := { s.procs with procs := if l.isEmpty then Tbl.del s.procs.procs x else Tbl.put s.procs.procs x l } }

/-- The home has answered a write of a procedure: a log entry is done, with its old value and status (spec 08 R199); a plain
write counts down (spec 06 R468); a record or counter increment the home could not apply is counted, a lost record drops the increment (spec 09 R226). -/
def State.procAnswer (s : State) (x id k : Nat) (st : Byte) (old : Nat) : State :=
  if k = kRecord then
    if st = stOk then s.dropProc x id (fun p => !p.counterDue) else (s.count (ctxOcc 0x05 x)).dropProc x id (fun _ => true)
  else if k = kCounter then (if st = stOk then s else s.count (ctxOcc 0x06 x))
  else if kPlain ≤ k then
    s.modProc x id (fun p => { p with
      wrWait := p.wrWait - 1
      wrBad := if st = stOk || k != kPlain + p.replays then p.wrBad else if p.wrBad = 0 || st.toNat < p.wrBad.toNat then st else p.wrBad })
  else
    s.modProc x id (fun p => { p with
      log := (p.log.zipIdx).map (fun (e : LogEntry × Nat) =>
        if e.2 == k then { e.1 with done := true, status := st, old := bytesOf 16 old } else e.1) })

/-- Drops a sampling record (spec 19 R410, 21 R444). -/
def State.dropSample (s : State) : State :=
  ((s.addSat PMON_SMP_STAT_DROPPED).count { blk := .pmon, code := 0x02 }).err { blk := .pmon } 16

/-- Answers a write or atomic with its status and an atomic's old value. -/
def State.answerWrite (s : State) (src : Src) (acc : Access) (st : Byte) (old : Nat) (succ : Bool) : State :=
  match src, acc with
  | .yd p h, .atomic op _ _ _ _ _ rc =>
    let r : Reply := { status := st, old := BitVec.ofNat 128 old, succ := succ }
    let s := s.atomRsp p h (op == 7) r false
    match rc with
    | some (f, i, t) => s.rcFill f i t h (op == 7) r
    | none => s
  | .yd p h, _ => s.rsp p h st
  | .cxlMem p tag, _ => s.sendQ p 1 (.memCmp tag grNone)
  | .cxlIo p tag, .atomic _ size _ _ _ _ _ =>
    s.cxlData p (.ioCpl tag (if st = stDenied then 1 else 0) (bytesOf (atomicBits size.toNat / 8) old) (decide (st = stPoisoned)))
  | .cxlIo _ _, _ => s
  | .core x id k, _ => s.procAnswer x id k st old
  | .internal, .atomic op _ _ _ _ _ (some (f, i, t)) =>
    s.rcFill f i t { dst := 0, src := f, tag := t } (op == 7) { status := st, old := BitVec.ofNat 128 old, succ := succ }
  | .internal, _ => s
  | .engine k, _ => if k == 4 && st != stOk then s.dropSample else s

/-- A write or atomic discarded before it was ordered ends with a status; an atomic so discarded did not execute and leaves no
reply-cache entry (spec 03 R65, 05 R121, 14 R322). Duplicates that waited for it are answered as it is. -/
def State.discardWrite (s : State) (src : Src) (acc : Access) (st : Byte) : State :=
  match src, acc with
  | .yd p h, .atomic op _ _ _ _ _ (some (f, i, t)) =>
    let r : Reply := { status := st }
    let dups := match s.rcFind f i t with | some e => e.dups | none => []
    dups.foldl (fun s q => s.atomRsp q.val h (op == 7) r false) ((s.atomRsp p h (op == 7) r false).rcDrop f i t)
  | _, _ => s.answerWrite src acc st 0 false

/-! ### The directory (spec 04) -/

/-- The entry of a line, none for I. -/
def State.dirAt (s : State) (l : Nat) : Option DirEntry := Tbl.get? s.home.dir l

/-- Sets an entry; an entry without holders is I. -/
def State.setDir (s : State) (l : Nat) (e : Option DirEntry) : State :=
  let t := match e with
    | none => Tbl.del s.home.dir l
    | some d => if d.st = .s ∧ d.sharers = 0 then Tbl.del s.home.dir l else Tbl.put s.home.dir l d
  { s with home := { s.home with dir := t } }

/-- Vector bit of a logical port (spec 04 R80). -/
def sharerBit (p : Nat) : Nat := p % 128

/-- Logical ports a vector stands for: both halves of an x4 split (spec 04 R80). -/
def State.sharerPorts (s : State) (v : Nat) : List Nat :=
  (List.range 128).foldl
    (fun l n => if bit v n then l ++ (if s.rd PORT_CFG_WIDTH n == 2 then [n, n + 128] else [n]) else l) []

/-- The holders of an entry, by logical port. -/
def State.holders (s : State) (e : DirEntry) : List Nat :=
  match e.st with
  | .s => s.sharerPorts e.sharers
  | _ => [e.owner]

/-- Makes an entry of a line, in allocation order. -/
def State.allocDir (s : State) (l : Nat) (st : DirState) (owner sharers : Nat) : State :=
  let q := match s.dirAt l with | some e => e.seq | none => s.home.dirSeq
  let s := s.setDir l (some { st := st, owner := owner, sharers := sharers, seq := q })
  { s with home := { s.home with dirSeq := s.home.dirSeq + 1 } }

/-- The logical port that may share a vector bit with one (spec 04 R80). -/
def twin (p : Nat) : Nat := if p < 128 then p + 128 else p - 128

/-- Whether a snoop of a line to a port is outstanding. -/
def State.snoopsTo (s : State) (p l : Nat) : Bool := s.home.snoopsTo.contains (p, l)

/-- Removes a holder from an entry, its bit once the port it shares the bit with has answered too (spec 04 R80); an owner that keeps a clean copy stays as sharer. -/
def State.clearHolder (s : State) (l p : Nat) (keepShared : Bool) : State :=
  match s.dirAt l with
  | none => s
  | some e =>
    match e.st with
    | .s =>
      let b := 2 ^ sharerBit p
      if keepShared || s.snoopsTo (twin p) l then s
      else s.setDir l (some { e with sharers := if bit e.sharers (sharerBit p) then e.sharers - b else e.sharers })
    | _ =>
      if e.owner = p then
        s.setDir l (if keepShared then some { e with st := .s, sharers := 2 ^ sharerBit p, owner := 0 } else none)
      else s

/-! ### Transactions -/

/-- An access as a requester on a port of a role makes it: only a LEAF port's cached reads stay cached (spec 01 R14, 04 R78, R79). -/
def Access.forRole (r : Role) : Access → Access
  | .readShared => if r = .leaf then .readShared else .readUnc 0 64
  | .readOwn noData => if r = .leaf then .readOwn noData else .readUnc 0 (if noData then 0 else 64)
  | a => a

/-- Whether an access writes. -/
def Access.writes : Access → Bool
  | .write _ _ _ => true
  | .atomic _ _ _ _ _ _ _ => true
  | .combine _ _ _ _ _ => true
  | .wback _ _ _ => true
  | _ => false

/-- A write-back of an owner. -/
def Access.isWback : Access → Bool
  | .wback _ _ _ => true
  | _ => false

/-- Whether an access is a requester's own, not one a requester or the directory causes. -/
def Access.demand : Access → Bool
  | .wback _ _ _ => false
  | .pull => false
  | .evict => false
  | _ => true

/-- Whether an access allocates a directory entry. -/
def Access.caches : Access → Bool
  | .readShared => true
  | .readOwn _ => true
  | _ => false

/-- The requester's port. -/
def Src.port : Src → Option Nat
  | .yd p _ => some p
  | .cxlMem p _ => some p
  | .cxlIo p _ => some p
  | .core _ _ _ => none
  | .internal => none
  | .engine _ => none

/-- One requester: one logical port, one descriptor, or one unit of the device (spec 04 R88). -/
def Src.sameAs (a b : Src) : Bool :=
  match a, b with
  | .core x i _, .core y j _ => x == y && i == j
  | .engine j, .engine k => j == k
  | _, _ => a.port.isSome && a.port == b.port

/-- A transaction by its number. -/
def State.txn (s : State) (id : Nat) : Option Txn := s.home.txns.find? (fun t => t.id == id)

/-- Replaces a transaction. -/
def State.setTxn (s : State) (t : Txn) : State :=
  { s with home := { s.home with txns := s.home.txns.map (fun x => if x.id == t.id then t else x) } }

/-- Ends a transaction, with the tray accesses it still has. -/
def State.dropTxn (s : State) (id : Nat) : State :=
  { s with
    home := { s.home with txns := s.home.txns.filter (fun x => x.id != id) }
    tier := { s.tier with trayOps := s.tier.trayOps.filter (fun o => o.txn != id) } }

/-- A transaction that has started. -/
def Txn.running (t : Txn) : Bool := t.phase != .waiting

/-- The extent entry of a transaction's line under its epoch. -/
def State.txnExtent (s : State) (t : Txn) : Nat := (s.bank t.epoch).extent (t.line / 2 ^ 24)

/-- Whether two lines share an ordering point: the line, or the 256 B block of a CMPR extent (spec 04 R84, 07 R169). -/
def State.sameUnit (s : State) (t : Txn) (l : Nat) : Bool :=
  t.line == l || (exCmpr (s.txnExtent t) && t.line / 4 == l / 4)

/-- The entries of a line's set where the set is full: those it has, and those running reads will make (spec 04 R81, R82). -/
def State.fullSet (s : State) (l : Nat) : Option (List (Nat × DirEntry)) :=
  if s.home.dir.length + s.home.txns.length < 16 then none
  else
    let mine (k : Nat) : Bool := Config.dirSet k == Config.dirSet l
    let es := s.home.dir.filter (fun e => mine e.1)
    let due := s.home.txns.filter (fun t => t.running && t.acc.caches && (s.dirAt t.line).isNone && mine t.line)
    if es.length + due.length < 16 then none else some es

/-- The master and attributes of a transaction for event counting (spec 19 R406). -/
def State.txnOcc (s : State) (t : Txn) (blk : Block) (code : Nat) : Occ :=
  let cls := match t.acc with
    | .write _ _ _ => 1
    | .atomic _ _ _ _ _ _ _ => 2
    | .combine _ _ _ _ _ => 2
    | .evict => 3
    | .wback _ _ _ => 1
    | _ => 0
  let m := match t.src with
    | .yd _ h => some (2, h.src.toNat)
    | .cxlMem p _ => some (1, bdPbr (s.map.cur.bind p))
    | .cxlIo p _ => some (1, bdPbr (s.map.cur.bind p))
    | .core x _ _ => some (3, x)
    | .internal => none
    | .engine _ => none
  let x := match t.src with | .core x _ _ => some x | _ => none
  { blk := blk, code := code, addr := some (64 * t.line), cls := some cls, master := m, tenant := m.isSome, ctx := x }

/-! ### Tray accesses (spec 06 R148, R151, R468) -/

/-- Issues one tray access of a transaction. -/
def State.issueTray (s : State) (t : Txn) (b : Bank) (port head addr lines : Nat) (wr : Option (List Line × List Bool))
    (again : Bool := false) (area : Bool := false) : State :=
  let id := s.tier.nextTray
  let op : TrayOp :=
    { id := id, txn := t.id, line := t.line, port := port, head := head, write := wr.isSome, again := again, area := area }
  let s := { s with tier := { s.tier with nextTray := id + 1, trayOps := s.tier.trayOps ++ [op] } }
  let tenant := some (b.tenantOf (b.extent (t.line / 2 ^ 24)))
  match wr with
  | none => s.sendW port 0 tenant kindRead (.trayRd id addr lines)
  | some (ls, ps) => s.sendW port 0 tenant kindWrite (.trayWr id addr ls ps)

/-- The stored lines an access reads from a tray: the line, or the coded lines of its block (spec 07 R157). -/
def State.trayLines (s : State) (x l : Nat) : Nat × Nat :=
  if exCmpr x then (l / 4 * 4, min 4 (s.pool.tray.entry (l / 4))) else (l, 1)

/-- Looks up the size-map entry of a line's block for a T2 read: whether the size-map cache misses is free, a miss is counted
(spec 07 R161). -/
def State.smapLookup (s : State) (x line : Nat) : State × Bool :=
  if exCmpr x then
    let r := s.fresh
    (r.2.count { blk := .cmpr, code := 0x01, addr := some (64 * line), n := r.1 % 2 }, r.1 % 2 == 1)
  else (s, false)

/-- Reads the size-map area line of a block, from tray A or else from tray B (spec 07 R159, R161); answers whether one can serve
it. -/
def State.readArea (s : State) (t : Txn) : State × Bool :=
  let b := s.bank t.epoch
  let go (k : Nat) : State := s.issueTray t b (s.smapTray k 0).1 k (s.smapTray k (64 * t.line)).2 1 none false true
  if s.smapUsable 0 then (go 0, true) else if s.smapUsable 1 then (go 1, true) else (s, false)

/-- Whether head i of an extent can be used; a head that is needed and whose link is down has failed (spec 06 R148). -/
def State.tryHead (s : State) (x pl i port : Nat) (a : Nat) : State × Bool :=
  if s.headFailed x pl i then (s, false)
  else if s.linked port then (s, true)
  else (((s.failHead x pl i).count { blk := .tier, code := 0x06, addr := some a }).err ⟨.tier, 0⟩ 18, false)

/-- Issues the tray reads of the stored lines of a transaction; answers whether any head can serve it (spec 06 R148, R151, R468).
A read that had been degraded before counts no second time. -/
def State.readStored (s : State) (t : Txn) (ln : Nat × Nat) (again : Bool) : State × Bool :=
  let b := s.bank t.epoch
  let xi := t.line / 2 ^ 24
  match s.placeOf b (64 * ln.1) with
  | .one port addr => if s.linked port then (s.issueTray t b port 0 addr ln.2 none, true) else (s, false)
  | .mirror pl p0 p1 addr =>
    let r := s.tryHead xi pl 0 p0 (64 * t.line)
    if r.2 then (r.1.issueTray t b p0 0 addr ln.2 none again, true)
    else
      let r := r.1.tryHead xi pl 1 p1 (64 * t.line)
      if r.2 then (r.1.issueTray t b p1 1 addr ln.2 none again, true) else (r.1, false)
  | .coded pl u addr =>
    let ok := s.codedReadable b xi pl
    if ok.contains u then (s.issueTray t b (b.placePort pl u) u addr ln.2 none, true)
    else
      let s := if again then s
        else ((s.failHead xi pl u).count { blk := .tier, code := 0x07, addr := some (64 * t.line) }).err ⟨.tier, 0⟩ 19
      if ok.length < 8 then (s, false)
      else
        ((ok.take 8).foldl (fun s i => s.issueTray t b (b.placePort pl i) i (addr / 4096 * 4096) 64 none true) s, true)

/-- Issues the tray reads of a transaction: the coded lines of its block, or on a size-map miss the area line and all four lines
(spec 07 R157, R161). -/
def State.readTray (s : State) (t : Txn) (miss : Bool := false) (again : Bool := false) : State × Bool :=
  let x := (s.bank t.epoch).extent (t.line / 2 ^ 24)
  if miss then
    let r := s.readArea t
    if r.2 then
      let q := r.1.readStored t (t.line / 4 * 4, 4) again
      if q.2 then q else (s, false)
    else (s, false)
  else s.readStored t (s.trayLines x t.line) again

/-- Whether the size-map area can take the entry of a line's block (spec 06 R468; 07 R159). -/
def State.areaTakes (s : State) (x : Nat) : Bool := !exCmpr x || s.smapUsable 0 || s.smapUsable 1

/-- Writes the area line of a transaction's block to both trays of the size-map area (spec 07 R159). -/
def State.writeArea (s : State) (t : Txn) (d : Line) : State :=
  let b := s.bank t.epoch
  let go (s : State) (k : Nat) : State :=
    if s.smapUsable k then s.issueTray t b (s.smapTray k 0).1 k (s.smapTray k (64 * t.line)).2 1 (some ([d], [false])) false true
    else s
  [0, 1].foldl go s

/-- Whether a write goes to a head: it is not failed, or its extent is being rebuilt (spec 06 R148, R152). -/
def State.headTakes (s : State) (x pl i port : Nat) : Bool :=
  s.linked port && (!s.headFailed x pl i || s.tier.rebuild == some x)

/-- Issues the tray writes of a transaction, with the area line of a coded block; answers whether they can be taken (spec 06 R148,
R468; 07 R169). -/
def State.writeTray (s : State) (t : Txn) (ls : List Line) (ps : List Bool) (area : Line) : State × Bool :=
  let b := s.bank t.epoch
  let xi := t.line / 2 ^ 24
  let x := b.extent xi
  let ln := if exCmpr x then t.line / 4 * 4 else t.line
  let fin (s : State) : State := if exCmpr x then s.writeArea t area else s
  if !s.areaTakes x then (s, false)
  else if ls.isEmpty then (fin s, true)
  else
    match s.placeOf b (64 * ln) with
    | .one port addr =>
      if s.linked port then (fin (s.issueTray t b port 0 addr ls.length (some (ls, ps))), true) else (s, false)
    | .mirror pl p0 p1 addr =>
      let s := (s.tryHead xi pl 0 p0 (64 * t.line)).1
      let s := (s.tryHead xi pl 1 p1 (64 * t.line)).1
      let go0 := s.headTakes xi pl 0 p0
      let go1 := s.headTakes xi pl 1 p1
      let s := if go0 then s.issueTray t b p0 0 addr ls.length (some (ls, ps)) else s
      let s := if go1 then s.issueTray t b p1 1 addr ls.length (some (ls, ps)) else s
      if go0 || go1 then (fin s, true) else (s, false)
    | .coded _ _ _ => (s, false)

/-! ### Finishing -/

/-- The value and poison a read delivers from where the line lies now. -/
def State.deliverLine (s : State) (t : Txn) : State × View :=
  let b := s.bank t.epoch
  let a := 64 * t.line
  let x := b.extent (t.line / 2 ^ 24)
  let s := s.nearRead x a
  let v := s.readPool b a
  let s := if exCmpr x && 5 ≤ s.pool.cur.entry (blockNo a) then s.count { blk := .cmpr, code := 0x02, addr := some a } else s
  (s.sizeCase a v, v)

/-- The directory after a read (spec 04, Transactions). -/
def State.dirAfterRead (s : State) (t : Txn) : State :=
  match t.src, t.acc with
  | .cxlMem p _, .readShared =>
    match s.dirAt t.line with
    | none => s.allocDir t.line .s 0 (2 ^ sharerBit p)
    | some e =>
      match e.st with
      | .s => s.setDir t.line (some { e with sharers := e.sharers ||| 2 ^ sharerBit p })
      | _ => s
  | .cxlMem p _, .readOwn _ => s.allocDir t.line .m p 0
  | _, _ => s

/-- Key of a tagged request by its port and tag (spec 19 R408). -/
def reqKey (p : Nat) (tag : BitVec 16) : Nat := p * 65536 + tag.toNat

/-- The key a requester's request would be tagged under. -/
def Src.key : Src → Option Nat
  | .yd p h => some (reqKey p h.tag)
  | .cxlMem p tag => some (reqKey p tag)
  | .cxlIo p tag => some (reqKey p tag)
  | _ => none

/-- Notes what became of the speculative read of a tagged request: 1 used, 2 squashed (spec 19 R409; 01 R23). -/
def State.noteSpec (s : State) (src : Src) (v : Nat) : State :=
  match src.key with
  | none => s
  | some k =>
    if (Tbl.get? s.pmon.tagged k).isSome then
      { s with pmon := { s.pmon with specOf := Tbl.put s.pmon.specOf k (Tbl.get s.pmon.specOf k 0 ||| v) } }
    else s

/-- A speculative read is discarded (spec 04 R90). -/
def State.specDrop (s : State) (t : Txn) : State := (s.count (s.txnOcc t .home 0x03)).noteSpec t.src 2

/-- Ends a read with data: answers it and updates the directory. -/
def State.finishRead (s : State) (t : Txn) (d : Line) (poison : Bool) : State :=
  (((if t.spec then s.noteSpec t.src 1 else s).dirAfterRead t).answerRead t.src t.acc d poison).dropTxn t.id

/-- Ends a write or atomic with a status and nothing written. -/
def State.finishRefused (s : State) (t : Txn) (st : Byte) : State := (s.answerWrite t.src t.acc st 0 false).dropTxn t.id

/-- The encodings a transaction's writes may use: the home's, or its core's list for the descriptor (spec 07 R164, 10 R235). -/
def State.encOf (s : State) (t : Txn) : EncSet :=
  match t.enc with
  | none => s.homeEnc
  | some (off, mx, _) =>
    { exp := s.flag CMPR_CTL_ENC_EXP && !bit off 0
      bd := s.flag CMPR_CTL_ENC_BD && !bit off 1
      sparse := s.flag CMPR_CTL_ENC_SPARSE && !bit off 2
      mxp := if s.flag CMPR_CTL_ENC_MXP && !bit off 3 && mx != 0 then some mx else none }

/-- Whether a write needs what memory holds first: an atomic, or a write of part of a line or block, where a core does not write
the block whole (spec 07 R169). -/
def State.needsRead (s : State) (t : Txn) : Bool :=
  match t.acc with
  | .write _ mask _ => mask != fullMask || exCmpr (s.txnExtent t) && !t.whole
  | .wback _ mask _ => mask != fullMask || exCmpr (s.txnExtent t)
  | _ => true

/-- The near tier's check of a line that a write merges into or reads (spec 07 R174). -/
def State.checkLine (s : State) (t : Txn) : State := s.nearRead (s.txnExtent t) (64 * t.line)

/-- A write-back of a keyless tenant's line: the line, or its whole coded block, is poisoned (spec 14 R322). -/
def State.keyPoison (s : State) (cmpr : Bool) (l : Nat) : State :=
  let s := s.count { blk := .keys, code := 0x01, addr := some (64 * l) }
  if cmpr then (List.range 4).foldl (fun s i => s.spoil (64 * (l / 4 * 4 + i))) s else s.spoil (64 * l)

/-- Ends a write or atomic: memory, directory, answer (spec 04 R87, R93; 05 R118). The line's sharers are gone. -/
def State.finishWrite (s : State) (t : Txn) : State :=
  let b := s.bank t.epoch
  let a := 64 * t.line
  match t.acc with
  | .write d mask poison =>
    let s := if s.needsRead t then s.checkLine t else s
    let s := (s.writePool b a d mask poison (s.encOf t) (t.enc.any (·.2.2)) t.whole).setDir t.line none
    (s.answerWrite t.src t.acc stOk 0 false).dropTxn t.id
  | .wback d mask poison =>
    let s := if s.needsRead t then s.checkLine t else s
    let x := b.extent (t.line / 2 ^ 24)
    let s := if s.keyless (b.tenantOf x) then s.keyPoison (exCmpr x) t.line else s.writePool b a d mask poison s.homeEnc
    (s.answerWrite t.src t.acc stOk 0 false).dropTxn t.id
  | .atomic op size signed off operand swapv _ =>
    let s := s.checkLine t
    let v := s.readPool b a
    let n := atomicBits size.toNat / 8
    let old := (v.data.toNat >>> (8 * off)) % 2 ^ (8 * n)
    if v.poison then (s.setDir t.line none).finishRefused t stPoisoned
    else
      let new := atomicApply op.toNat size.toNat signed old operand.toNat swapv.toNat
      let mask : BitVec 64 := BitVec.ofNat 64 ((2 ^ n - 1) <<< off)
      let s := (s.writePool b a (BitVec.ofNat 512 (new <<< (8 * off))) mask false (s.encOf t) (t.enc.any (·.2.2))).setDir t.line none
      let s := s.count (s.txnOcc t .atom 0x01)
      (s.answerWrite t.src t.acc stOk old (decide (old = operand.toNat % 2 ^ (8 * n)))).dropTxn t.id
  | .combine ty op d mask mark =>
    let s := s.checkLine t
    let v := s.readPool b a
    if mark then
      ((s.writePool b a 0 fullMask true s.homeEnc).setDir t.line none).finishRefused t stPoisoned
    else if v.poison then (s.setDir t.line none).finishRefused t stPoisoned
    else
      let s := (s.writePool b a (combineLine ty op v.data.toNat d mask) fullMask false (s.encOf t) (t.enc.any (·.2.2))).setDir t.line none
      (s.answerWrite t.src t.acc stOk 0 false).dropTxn t.id
  | _ => s.dropTxn t.id

/-! ### Stages of a running transaction -/

/-- Starts the expansion of a T3 or T4 page where none runs (spec 06 R140). -/
def State.startExpand (s : State) (x p : Nat) : State :=
  match Tbl.get? s.tier.moves p with
  | some _ => s
  | none =>
    let k := if s.pol TIER_POL_A_PROMOTE_T3_TO_T1 x == 1 then MoveKind.expandT1 else MoveKind.expandT2
    let s := { s with tier := { s.tier with moves := Tbl.put s.tier.moves p (k, s.epoch) } }
    let e := s.pageEnt p
    match e.tier with
    | .t4 =>
      let tag : BitVec 16 := BitVec.ofNat 16 s.home.nextId
      let port := s.rd TIER_T4_CFG_PORT
      let base := s.rd TIER_T4_BASE_LO_BASE + 2 ^ 32 * s.rd TIER_T4_BASE_HI_BASE
      let s := { s with
        home := { s.home with nextId := s.home.nextId + 1 }
        tier := { s.tier with t4Reads := s.tier.t4Reads ++ [(p, tag)] } }
      s.sendW port (s.rd QOS_CTL_BG_TC) none kindMigrate (.ioMemRd tag (base + 4096 * e.frame) (4096 * e.len))
    | _ => s

/-- Starts the write-backs of a page's dirty units (spec 06 R133). -/
def State.wbPage (s : State) (p : Nat) : State :=
  match Tbl.get? s.tier.t1 p with
  | none => s
  | some q =>
    let us := ((List.range 16).filter (fun u => bit q.dirty u)).map (fun u => 16 * p + u)
    let new := us.filter (fun u => !s.tier.wbs.any (fun (w : Nat × Bool) => w.1 == u))
    { s with tier := { s.tier with wbs := s.tier.wbs ++ new.map (fun u => (u, false)) } }

/-- Whether the tray place of an address can take a line now (spec 06 R150, R468). -/
def State.placeTakes (s : State) (b : Bank) (a : Nat) : Bool :=
  let xi := a / 2 ^ 30
  s.areaTakes (b.extent xi) &&
    match s.placeOf b a with
    | .one port _ => s.linked port
    | .mirror pl p0 p1 _ => s.headTakes xi pl 0 p0 || s.headTakes xi pl 1 p1
    | .coded pl _ _ => 8 ≤ (s.codedReadable b xi pl).length

/-- Whether the tray place of an address can be read now (spec 06 R148, R151, R468). -/
def State.placeReads (s : State) (b : Bank) (a : Nat) : Bool :=
  let xi := a / 2 ^ 30
  s.areaTakes (b.extent xi) &&
    match s.placeOf b a with
    | .one port _ => s.linked port
    | .mirror pl p0 p1 _ => (!s.headFailed xi pl 0 && s.linked p0) || (!s.headFailed xi pl 1 && s.linked p1)
    | .coded pl _ _ => 8 ≤ (s.codedReadable b xi pl).length

/-- A page can leave T1 now: none of its units is dirty (spec 06 R133). -/
def T1Page.clean (p : T1Page) : Bool := p.dirty == 0

/-- Puts a page into T1 as a clean copy; where T1 is full, the least recently accessed unpinned page leaves it first, once a pass
has left it clean; a page whose tray is down stays (spec 06 R131, R133, R468). Answers whether the page is in. -/
def State.enterT1 : Nat → State → Nat → Nat → State × Bool
  | 0, s, _, _ => (s, false)
  | n + 1, s, x, p =>
    if s.nearRoom then
      ({ s with
        tier := { s.tier with t1 := Tbl.put s.tier.t1 p { stack := s.stackOf x p } }
        pool := { s.pool with ue := s.pool.ue.filter (fun u => u.1 / 1024 != p) } }, true)
    else
      let leaves (v : Nat) : Bool :=
        (Tbl.get s.tier.t1 v { stack := 0 }).clean || s.placeTakes s.map.cur (65536 * v)
      match s.evictable.find? leaves with
      | none => (s, false)
      | some v =>
        if (Tbl.get s.tier.t1 v { stack := 0 }).clean then
          State.enterT1 n ((s.dropT1 v).count { blk := .tier, code := 0x02, addr := some (65536 * v) }) x p
        else (s.wbPage v, false)

/-- Puts a page into T1. -/
def State.putT1 (s : State) (x p : Nat) : State × Bool := State.enterT1 (s.tier.t1.length + 1) s x p

/-- Reads the page-table line of a transaction's page; answers whether its port can (spec 06 R136, R468). -/
def State.readTable (s : State) (t : Txn) : State × Bool :=
  let port := s.rd TIER_PT_PORT
  if s.linked port then
    ((s.issueTray t (s.bank t.epoch) port 0 (s.ptAddr (pageNo (64 * t.line)) / 64 * 64) 1 none).setTxn { t with phase := .tray 2 }, true)
  else (s, false)

/-- Reads a transaction's line from a local replica or its tray place. -/
def State.readT2 (s : State) (t : Txn) : State :=
  if s.home.repl.local_.contains (t.line / 64) then (s.count (s.txnOcc t .repl 0x01)).setTxn { t with phase := .data }
  else
    let x := s.txnExtent t
    let m := s.smapLookup x t.line
    if (m.1.trayLines x t.line).2 = 0 && !m.2 then let r := m.1.deliverLine t; r.1.finishRead t r.2.data r.2.poison
    else
      let r := m.1.readTray t m.2
      if r.2 then r.1.setTxn { t with phase := .tray 0 } else r.1.finishRead t 0 true

/-- Issues the read of a transaction whose data comes from memory: T1, a replica, a tray, zero, or after an expansion; the page
entry is read first where it is not at hand. -/
def State.readStage (s : State) (t : Txn) : State :=
  let a := 64 * t.line
  let x := s.txnExtent t
  match s.tierOf x a with
  | .t1 => s.setTxn { t with phase := .data }
  | tier =>
    if !t.looked then let r := s.readTable t; if r.2 then r.1 else r.1.finishRead t 0 true
    else
      match tier with
      | .t3 | .t4 => (s.startExpand x (pageNo a)).setTxn { t with phase := .expand }
      | .zero => let r := s.deliverLine t; r.1.finishRead t r.2.data r.2.poison
      | _ => s.readT2 t

/-- The lines a write leaves in its tray place: its line, or the coded lines of its block, with their poison. -/
def State.linesAfter (s : State) (t : Txn) : List Line × List Bool × Line :=
  let s' := s.finishWrite t
  let x := s.txnExtent t
  if exCmpr x then
    let l := t.line / 4 * 4
    let n := min 4 (s'.pool.cur.entry (t.line / 4))
    ((List.range n).map (fun i => Memory.readLine s'.pool.cur.bytes (64 * (l + i))),
      (List.range n).map (fun i => s'.pool.cur.poison.contains (l + i)), s'.pool.tray.smapLine (64 * t.line))
  else ([Memory.readLine s'.pool.cur.bytes (64 * t.line)], [s'.pool.cur.poison.contains t.line], 0)

/-- A write that must reach the trays: what they hold first where it is needed, then the tray writes; a CODED page is
write-allocated in T1, its replicas dropped with the move (spec 06 R131, R132, R148, R150, R468). -/
def State.writeT2 (s : State) (t : Txn) : State :=
  let a := 64 * t.line
  let x := s.txnExtent t
  if exRedund x == 2 then
    let r := s.putT1 x (pageNo a)
    if r.2 then (r.1.dropLocal (pageNo a)).finishWrite t else r.1.setTxn { t with phase := .expand }
  else
    let m := if s.needsRead t && !t.rdDone then s.smapLookup x t.line else (s, false)
    if s.needsRead t && !t.rdDone && ((m.1.trayLines x t.line).2 != 0 || m.2) then
      let r := m.1.readTray t m.2
      if r.2 then r.1.setTxn { t with phase := .tray 0 } else r.1.finishRefused t stPoisoned
    else
      let w := s.linesAfter t
      let r := s.writeTray t w.1 w.2.1 w.2.2
      if r.2 then r.1.setTxn { t with phase := .tray 1, rdDone := true } else r.1.finishRefused t stPoisoned

/-- The first write of a ZERO page takes a frame; where none is free and no page can be packed, a CXL.mem write waits, any other
ends BUSY_RETRY (spec 06 R137, R141). -/
def State.withFrame (s : State) (t : Txn) (go : State → State) : State :=
  let r := s.takeFrame t.noFrame
  match r.2 with
  | some f => go (r.1.setPageEnt (pageNo (64 * t.line)) { tier := .t2, frame := f, len := 16 })
  | none =>
    match t.src with
    | .cxlMem _ _ => r.1.setTxn { t with phase := .expand, noFrame := true }
    | _ => r.1.finishRefused t stBusyRetry

/-- A write or atomic whose snoops and replicas are settled: T1 at once, T2 and fresh pages through the trays, T3 and T4 after an
expansion (spec 06 R131, R133, R137, R140, R141, R150). -/
def State.writeStage (s : State) (t : Txn) : State :=
  let a := 64 * t.line
  let x := s.txnExtent t
  match s.tierOf x a with
  | .t1 =>
    if s.paged x && (s.pageEnt (pageNo a)).tier == .zero then s.withFrame t (fun s => s.finishWrite t)
    else if s.needsRead t && s.t1Stale a then
      let s := s.checkLine t
      if (Tbl.get? s.tier.t1 (pageNo a)).isSome then s.finishWrite t else s.writeT2 t
    else s.finishWrite t
  | tier =>
    if !t.looked then let r := s.readTable t; if r.2 then r.1 else r.1.finishRefused t stPoisoned
    else
      match tier with
      | .zero => s.withFrame t (fun s => s.writeT2 { t with rdDone := true })
      | .t3 | .t4 => (s.startExpand x (pageNo a)).setTxn { t with phase := .expand }
      | _ => s.writeT2 t

/-- Whether a write-back of a transaction's line or block is still on its way to memory: what comes after it waits (spec 04
R84). -/
def State.behindWb (s : State) (t : Txn) : Bool :=
  !t.acc.isWback && s.home.txns.any (fun o => o.acc.isWback && o.id != t.id && o.running && s.sameUnit t o.line)

/-- The data stage of a transaction (spec 04 R86, R90). -/
def State.dataStage (s : State) (t : Txn) : State :=
  match t.acc, t.fwd with
  | .evict, _ => (s.setDir t.line none).dropTxn t.id
  | .pull, _ => s.dropTxn t.id
  | acc, some (d, p) =>
    if acc.writes then s.writeStage t
    else
      let s := if t.spec then s.specDrop t else s
      s.finishRead { t with spec := false } d p
  | acc, none =>
    if s.behindWb t then s.setTxn { t with phase := .expand }
    else if acc.writes then s.writeStage t
    else if t.spec && !t.specBad then
      if t.specDone then let r := s.deliverLine t; r.1.finishRead t r.2.data r.2.poison
      else s.setTxn { t with phase := if s.tier.trayOps.any (fun o => o.txn == t.id) then .tray 0 else .data }
    else
      let s := if t.spec then s.specDrop t else s
      let s := { s with tier := { s.tier with trayOps := s.tier.trayOps.filter (fun o => o.txn != t.id) } }
      s.readStage { t with spec := false, specDone := false }

/-- REPL_REQ or REPL_INV of a page (spec 05 R106): PAGE in ARG [107:72], under a tag of the device's own, which the answer
echoes. -/
def replMsg (s : State) (dst : Feid) (kind page : Nat) (tag : BitVec 16) : Msg :=
  .yd 0x0C (s.ownHdr dst tag (kind + page * 2 ^ 8)) [0]

/-- Sends REPL_INV of a page to a peer and waits for its acknowledgement (spec 04 R98). -/
def State.sendReplInv (page : Nat) (s : State) (f : Nat) : State :=
  let r := s.freshTag
  let s := { r.2 with home := { r.2.home with repl := { r.2.home.repl with
    invWait := Tbl.put r.2.home.repl.invWait page (Tbl.get r.2.home.repl.invWait page [] ++ [(f, r.1)]) } } }
  (s.count { blk := .repl, code := 0x02, addr := some (4096 * page) }).sendYdQ (BitVec.ofNat 16 f) 1
    (replMsg s (BitVec.ofNat 16 f) 0x11 page r.1)

/-- Invalidates the replicas of a page before a write: the local one at once, each peer by REPL_INV (spec 04 R98). -/
def State.invReplicas (s : State) (page : Nat) : State :=
  let r := s.home.repl
  let peers := Tbl.get r.peers page []
  let waiting := Tbl.get r.invWait page []
  let new := peers.filter (fun f => !waiting.any (fun w => w.1 == f))
  let s := { s with home := { s.home with repl := { r with
    local_ := setDel r.local_ page
    fills := r.fills.map (fun f => if f.1 == page then (f.1, true) else f)
    cands := if peers.isEmpty && !r.local_.contains page then r.cands else setDel r.cands page } } }
  new.foldl (State.sendReplInv page) s

/-- After the snoops: a write waits for the replicas of its page, everything else goes to its data (spec 04 R87, R98). -/
def State.afterSnoop (s : State) (t : Txn) : State :=
  let page := t.line / 64
  if t.acc.writes then
    let s := s.invReplicas page
    if (Tbl.get s.home.repl.invWait page []).isEmpty then s.dataStage t else s.setTxn { t with phase := .replica }
  else s.dataStage t

/-- Sends a snoop to a port for a line, unless one is outstanding (spec 04 R87). -/
def State.snoop (s : State) (inv : Bool) (l p : Nat) : State :=
  if s.home.snoopsTo.contains (p, l) then s
  else
    let s := { s with home := { s.home with snoopsTo := s.home.snoopsTo ++ [(p, l)] } }
    s.sendQ p 1 (.biSnp inv (64 * l))

/-- The snoops a transaction needs: whether they invalidate, and the ports (spec 04, Transactions). -/
def State.snoopPlan (s : State) (t : Txn) : Bool × List Nat :=
  match s.dirAt t.line with
  | none => (true, [])
  | some e =>
    let hs := s.holders e
    let self := match t.src with | .cxlMem p _ => some p | _ => none
    let others := hs.filter (fun p => some p != self)
    match t.acc with
    | .readShared | .readUnc _ _ => if e.st = .s then (false, []) else (false, others)
    | _ => (true, others)

/-- Changes the replica state. -/
def State.mapRepl (s : State) (f : ReplSt → ReplSt) : State := { s with home := { s.home with repl := f s.home.repl } }

/-- A read of a page in the replica window (spec 04 R95). -/
def ReplSt.sawRead (r : ReplSt) (page : Nat) : ReplSt := { r with reads := Tbl.mod r.reads page 0 (· + 1) }

/-- A write in the window; it cancels a fill of the page (spec 04 R95, R97). -/
def ReplSt.sawWrite (r : ReplSt) (page : Nat) : ReplSt :=
  { r with
    writes := Tbl.mod r.writes page 0 (· + 1)
    fills := r.fills.map (fun (f : Nat × Bool) => if f.1 == page then (f.1, true) else f) }

/-- Counts a read of a tier page in the promotion window and ends its packing (spec 06 R131, R138, R139). -/
def State.touchPage (s : State) (isRead ends : Bool) (p : Nat) : State :=
  { s with tier := { s.tier with
    winReads := if isRead then Tbl.mod s.tier.winReads p 0 (· + 1) else s.tier.winReads
    moves := if ends then s.tier.moves.filter (fun (m : Nat × MoveKind × Nat) =>
      !(m.1 == p && (m.2.1 == MoveKind.pack || m.2.1 == MoveKind.toT4))) else s.tier.moves } }

/-- A write ordered to a line spoils the speculative reads of it that wait (spec 04 R90 condition 3). -/
def State.squash (s : State) (t : Txn) : State :=
  { s with home := { s.home with txns := s.home.txns.map (fun (o : Txn) =>
    if o.id != t.id && o.spec && s.sameUnit t o.line then { o with specBad := true } else o) } }

/-- What an ordered access does beside its own effect: the replica and promotion windows see it, it ends the packing of its page
(but for an answer to the tier manager's own read), and a write spoils the speculative reads of its line (spec 04 R90, R95, R97;
06 R131, R138). -/
def State.noteAccess (s : State) (t : Txn) : State :=
  let page4 := t.line / 64
  let p := t.line / 1024
  let pulled := t.acc.isWback && s.home.txns.any (fun o => o.acc == .pull && o.line == t.line)
  let isRead := t.acc.demand && !t.acc.writes
  let s := s.mapRepl (fun rp => if isRead then rp.sawRead page4 else if t.acc.writes then rp.sawWrite page4 else rp)
  let s := (s.touchPage isRead (t.acc != .pull && !pulled) p).touch (64 * t.line)
  if t.acc.writes then s.squash t else s

/-- A write to a sealed extent on CXL.mem is denied in the form of R67, which counts ACCESS_DENIED (spec 05 R103). -/
def State.sealedDenied (s : State) (t : Txn) : State :=
  match t.src with
  | .cxlMem p _ => s.countDenied p (some (64 * t.line))
  | _ => s

/-- Starts a transaction: it is ordered now (spec 04 R84). Counts it, notes it, refuses writes to sealed extents, and snoops. -/
def State.startTxn (s : State) (t : Txn) : State :=
  let x := s.txnExtent t
  let s :=
    if t.acc.demand || t.acc == .evict then
      let r := s.fresh
      let miss : Occ := { (s.txnOcc t .home 0x04) with n := r.1 % 2 }
      (r.2.count (s.txnOcc t .home 0x01)).count miss
    else s
  let s := s.noteAccess t
  if t.acc.writes && !t.acc.isWback && s.isSealed (t.line / 2 ^ 24) && exValid x then (s.sealedDenied t).finishRefused t stDenied
  else
    let plan := s.snoopPlan t
    let isM : Bool := match s.dirAt t.line with | some e => e.st == .m && !plan.2.isEmpty | none => false
    let t := { t with snoops := plan.2, phase := .snoop, specBad := t.specBad || isM }
    let s := (plan.2.foldl (fun s p => s.snoop plan.1 t.line p) s).setTxn t
    if plan.2.isEmpty then s.afterSnoop t else s

/-- Whether a waiting transaction may start: none runs on its line or block, none of them came before it, and no earlier
store of its requester still waits (spec 04 R84, R88). An owner's write-back is the data of a snoop that a running one waits for
(R87). -/
def State.mayStart (s : State) (before : List Txn) (t : Txn) : Bool :=
  !t.running &&
  s.home.txns.all (fun o => o.id == t.id || !o.running || !(s.sameUnit t o.line) ||
    t.acc.isWback && o.line == t.line && o.phase == .snoop) &&
  before.all (fun o => o.running || (!(s.sameUnit t o.line) && !(o.acc.writes && !o.acc.isWback && o.src.sameAs t.src)))

/-- Whether a transaction needs a directory entry in a full set (spec 04 R82), or its line's entry still waits for one. -/
def State.lacksRoom (s : State) (t : Txn) : Bool :=
  (Tbl.get? s.home.adopt t.line).isSome || (t.acc.caches && (s.dirAt t.line).isNone && (s.fullSet t.line).isSome)

/-- The first transaction that may start. -/
def State.nextStart (s : State) : List Txn → List Txn → Option Txn
  | _, [] => none
  | before, t :: rest =>
    if s.mayStart before t && !s.lacksRoom t then some t else s.nextStart (before ++ [t]) rest

/-- Starts an eviction of a full set's least recently allocated entry, unless one runs in the set (spec 04 R82). -/
def State.startEvict (s : State) (l epoch : Nat) : State :=
  match s.fullSet l with
  | none => s
  | some [] => s
  | some (e :: es) =>
    if s.home.txns.any (fun t => t.acc == .evict && Config.dirSet t.line == Config.dirSet l) then s
    else
      let v := es.foldl (fun (m : Nat × DirEntry) f => if f.2.seq < m.2.seq then f else m) e
      let id := s.home.nextId
      let t : Txn := { id := id, line := v.1, src := .internal, acc := .evict, epoch := epoch }
      let s := { s with home := { s.home with nextId := id + 1, txns := t :: s.home.txns } }
      s.count { blk := .home, code := 0x05, addr := some (64 * v.1) }

/-- Starts every transaction that may start, in order (spec 04 R84). -/
def State.kick : Nat → State → State
  | 0, s => s
  | n + 1, s =>
    match s.nextStart [] (s.home.txns.take 16384) with
    | none => s
    | some t => State.kick n (s.startTxn t)

/-- Lets a handed-over line's entry into the directory where its set has room, else starts an eviction for it (spec 03 R73, 04
R82). -/
def State.adoptOne (s : State) (q : Nat × DirEntry) : State :=
  match s.fullSet q.1 with
  | some _ => s.startEvict q.1 s.epoch
  | none =>
    let s := s.allocDir q.1 q.2.st q.2.owner q.2.sharers
    { s with home := { s.home with adopt := Tbl.del s.home.adopt q.1 } }

/-- The evictions that reads and handed-over lines wait for: a read that needs an entry in a full set waits for one (spec 04 R82). -/
def State.makeRoom (s : State) : State :=
  let s := s.home.adopt.foldl State.adoptOne s
  (s.home.txns.filter (fun t => !t.running && s.lacksRoom t)).foldl (fun s t => s.startEvict t.line t.epoch) s

/-- Starts what may start: at most 16,384 transactions take part, the others wait at their source (spec 04 R85). -/
def State.kickAll (s : State) : State :=
  let s := State.kick (s.home.txns.length + 1) s
  if s.home.dir.length < 16 && s.home.adopt.isEmpty then s
  else let s := s.makeRoom; State.kick (s.home.txns.length + 1) s

/-- Whether a transaction's read may be issued speculatively (spec 04 R91). -/
def State.mayspec (s : State) (acc : Access) : Bool :=
  s.flag HOME_CTL_SPEC_EN && acc.demand && !acc.writes && (s.home.txns.filter (fun t => t.spec)).length < 2048

/-- Issues the speculative read of a transaction where its line lies in the near tier, a local replica or a tray (spec 04 R90);
answers whether it could. -/
def State.specRead (s : State) (t : Txn) : State × Bool :=
  let x := s.txnExtent t
  match s.tierOf x (64 * t.line) with
  | .t1 => (s, true)
  | .t2 =>
    if s.home.repl.local_.contains (t.line / 64) then (s, true)
    else if !t.looked then (s, false)
    else
      let m := s.smapLookup x t.line
      if (m.1.trayLines x t.line).2 = 0 && !m.2 then (m.1, true) else m.1.readTray t m.2
  | _ => (s, false)

/-- Queues a judged access as a transaction, with its speculative read (spec 04 R84, R90); whether the page entry of a PAGED
extent's page is in the device's cache is free (06 R136). -/
def State.addTxn (s : State) (src : Src) (acc : Access) (line epoch : Nat) (enc : Option (Nat × Nat × Bool) := none)
    (whole : Bool := false) : State :=
  let id := s.home.nextId
  let spec := src != .internal && s.mayspec acc
  let paged := s.paged ((s.bank epoch).extent (line / 2 ^ 24))
  let looked := !paged || s.fresh.1 % 2 == 0
  let t : Txn :=
    { id := id, line := line, src := src, acc := acc, epoch := epoch, spec := spec, enc := enc, whole := whole, looked := looked }
  let s := if paged then s.fresh.2 else s
  let s := { s with home := { s.home with nextId := id + 1, txns := s.home.txns ++ [t] } }
  let r := if spec then s.specRead t else (s, false)
  let s := if r.2 then r.1.count (r.1.txnOcc t .home 0x02) else r.1.setTxn { t with spec := false }
  s.kickAll

/-- Queues a read that takes a line out of its owner's cache for a unit that copies it, unless one runs (spec 04 R79, R99). -/
def State.pullLine (k : Nat) (s : State) (l : Nat) : State :=
  if s.home.txns.any (fun t => t.acc == .pull && t.line == l) then s
  else
    let id := s.home.nextId
    let t : Txn := { id := id, line := l, src := .engine k, acc := .pull, epoch := s.epoch }
    { s with home := { s.home with nextId := id + 1, txns := s.home.txns ++ [t] } }

/-- Reads a run of lines at the home as an uncached requester: what leaves own of it comes to memory (spec 04 R79, R99; 06 R132). -/
def State.pull (s : State) (k lo n : Nat) : State :=
  let ls := (s.home.dir.filter (fun (e : Nat × DirEntry) => e.2.st != .s && lo ≤ e.1 && e.1 < lo + n)).map (·.1)
  if ls.isEmpty then s else (ls.foldl (State.pullLine k) s).kickAll

/-- Whether lines of a run are still on their way from their owners to memory. -/
def State.pulling (s : State) (lo n : Nat) : Bool :=
  s.home.txns.any (fun t => (t.acc == .pull || t.acc.isWback) && lo ≤ t.line && t.line < lo + n)

/-- Takes an owner's write-back: the entry ends, or stays shared until the snoop the write-back answers has its answer; the read
that waits for it gets the merged line; the write itself goes ahead of all that waits (spec 04 R85 to R87, Transactions). -/
def State.takeBack (s : State) (p : Nat) (tag : BitVec 16) (epoch l : Nat) (d : Line) (mask : BitVec 64) (poison : Bool) : State :=
  let b := s.bank epoch
  let out := s.snoopsTo p l
  let lost := s.keyless (b.tenantOf (b.extent (l / 2 ^ 24)))
  let v := s.readPool b (64 * l)
  let merged := lineOf ((List.range 64).map (fun i => byteOf (if mask.getLsbD i then d.toNat else v.data.toNat) i))
  let data : Line × Bool := if lost then (0, true) else (merged, poison || v.poison && mask != fullMask)
  let s := s.setDir l (if out then (s.dirAt l).map (fun e => { e with st := .s, owner := 0, sharers := 2 ^ sharerBit p }) else none)
  let id := s.home.nextId
  let paged := s.paged (b.extent (l / 2 ^ 24))
  let looked := !paged || s.fresh.1 % 2 == 0
  let s := if paged then s.fresh.2 else s
  let t : Txn := { id := id, line := l, src := .cxlMem p tag, acc := .wback d mask poison, epoch := epoch, looked := looked }
  let give (o : Txn) : Txn :=
    if o.line == l && o.phase == .snoop && o.snoops.contains p && !o.acc.writes then { o with fwd := some data } else o
  let s := { s with home := { s.home with nextId := id + 1, txns := t :: s.home.txns.map give } }
  s.kickAll

/-! ### Answers of holders, trays and memory -/

/-- Goes on with a transaction whose snoop to a port has ended. -/
def State.snoopEnded (s : State) (l p : Nat) : State :=
  let s := { s with
    home := { s.home with snoopsTo := s.home.snoopsTo.filter (fun q => q != (p, l)) }
    map := { s.map with commitSnoops := s.map.commitSnoops.filter (fun q => q != (p, l)) } }
  match s.home.txns.find? (fun t => t.line == l && t.phase == .snoop && t.snoops.contains p) with
  | none => s
  | some t =>
    let t := { t with snoops := setDel t.snoops p }
    let s := s.setTxn t
    if t.snoops.isEmpty then s.afterSnoop t else s

/-- Latches a snoop timeout in HOME_SNPTO (spec 04 R92 step 4). -/
def State.latchSnoop (s : State) (p l : Nat) : State :=
  let s := s.set HOME_SNPTO_MORE (if s.flag HOME_SNPTO_VALID then 1 else s.rd HOME_SNPTO_MORE)
  let s := ((s.set HOME_SNPTO_PBR_ID (bdPbr (s.map.cur.bind p))).set HOME_SNPTO_PORT p).set HOME_SNPTO_VALID 1
  (s.set HOME_SNPTO_ADDR_LO_LINE_ADDR (64 * l % 2 ^ 32)).set HOME_SNPTO_ADDR_HI_LINE_ADDR (64 * l / 2 ^ 32 % 2 ^ 16)

/-- Ends a snoop without an answer (spec 04 R92 steps 1 to 3; R94): an owned line is poisoned, the holder cleared, the
waiting transaction goes on. -/
def State.snoopLost (s : State) (l p : Nat) : State :=
  let owned : Bool := match s.dirAt l with | some e => e.st != .s && e.owner == p | none => false
  let s := if owned then s.spoil (64 * l) else s
  let s := s.clearHolder l p false
  let s := if owned then
      { s with home := { s.home with txns := s.home.txns.map (fun t =>
        if t.line == l && t.spec then { t with specBad := true } else t) } }
    else s
  s.snoopEnded l p

/-- A holder has not answered within T_SNP, or its snoop ends as if it had not (spec 04 R92, R94; 03 R65). -/
def State.snoopExpired (s : State) (p l : Nat) : State :=
  let s := s.count { blk := .home, code := 0x07, master := some (1, bdPbr (s.map.cur.bind p)), addr := some (64 * l) }
  ((s.err ⟨.home, 0⟩ 16).latchSnoop p l).snoopLost l p

/-- A tray access of a transaction has ended well: the transaction goes on when it was its last. -/
def State.trayDone (s : State) (o : TrayOp) : State :=
  let s := { s with tier := { s.tier with trayOps := s.tier.trayOps.filter (fun p => p.id != o.id) } }
  match s.txn o.txn with
  | none => s
  | some t =>
    if s.tier.trayOps.any (fun p => p.txn == t.id) then
      (if o.write && !o.area then s.setTxn { t with specDone := true } else s)
    else
      match t.phase with
      | .tray 2 => if t.acc.writes then s.writeStage { t with looked := true } else s.readStage { t with looked := true }
      | .tray k =>
        if t.acc.writes then
          if k = 0 then s.writeStage { t with rdDone := true } else s.finishWrite t
        else let r := s.deliverLine t; r.1.finishRead t r.2.data r.2.poison
      | _ => s.setTxn { t with specDone := true }

/-- A tray access cannot be served by any head: reads end poisoned, writes are discarded (spec 06 R468); a speculative read is
discarded, and its request reads again (04 R90). -/
def State.trayLost (s : State) (txn : Nat) : State :=
  match s.txn txn with
  | none => s
  | some t =>
    let s := { s with tier := { s.tier with trayOps := s.tier.trayOps.filter (fun p => p.txn != t.id) } }
    match t.phase with
    | .tray _ => if t.acc.writes then s.finishRefused t stPoisoned else s.finishRead t 0 true
    | _ => s.setTxn { t with specDone := true, specBad := true }

/-- Goes on with a write after a head of it has failed: the other head's write stands for both (spec 06 R148). -/
def State.writeHeadLost (s : State) (t : Txn) : State :=
  if s.tier.trayOps.any (fun p => p.txn == t.id) then s
  else if t.specDone then s.finishWrite t
  else s.trayLost t.id

/-- A size-map area access has failed: that tray is failed, and the access goes to the other (spec 07 R159). -/
def State.areaFailed (s : State) (t : Txn) (o : TrayOp) : State :=
  let s := s.failHead smapX (smapPl + o.head) 0
  if o.write then
    if s.tier.trayOps.any (fun p => p.txn == t.id) then s
    else if s.smapUsable 0 || s.smapUsable 1 then s.finishWrite t
    else s.trayLost t.id
  else
    let r := s.readArea t
    if r.2 then r.1 else r.1.trayLost t.id

/-- A tray access has failed: a MIRROR head or CODED unit is marked failed and the access goes to what can serve it, else
it is lost (spec 06 R148, R151, R468). -/
def State.trayFailed (s : State) (o : TrayOp) : State :=
  let s := { s with tier := { s.tier with trayOps := s.tier.trayOps.filter (fun p => p.id != o.id) } }
  match s.txn o.txn with
  | none => s
  | some t =>
    let b := s.bank t.epoch
    let xi := t.line / 2 ^ 24
    if t.phase == .tray 2 then s.trayLost t.id
    else if o.area then s.areaFailed t o
    else
      match s.placeOf b (64 * t.line) with
      | .one _ _ => s.trayLost t.id
      | .mirror pl _ _ _ =>
        let s := ((s.failHead xi pl o.head).count { blk := .tier, code := 0x06, addr := some (64 * t.line) }).err ⟨.tier, 0⟩ 18
        if o.write then s.writeHeadLost t
        else
          let r := s.readTray t false true
          if r.2 then r.1 else r.1.trayLost t.id
      | .coded pl _ _ =>
        let s := s.failHead xi pl o.head
        let s := if o.again then s
          else (s.count { blk := .tier, code := 0x07, addr := some (64 * t.line) }).err ⟨.tier, 0⟩ 19
        let s := { s with tier := { s.tier with trayOps := s.tier.trayOps.filter (fun p => p.txn != t.id) } }
        let r := s.readTray t false true
        if r.2 then r.1 else r.1.trayLost t.id

/-- Goes on with accesses that waited for a page to be expanded, for room in T1 or the frame store, or behind a write-back (spec 04
R84; 06 R131, R140, R141); one whose page's expansion has been given up starts it again. -/
def State.resumePages (s : State) : State :=
  (s.home.txns.filter (fun t => t.phase == .expand)).foldl
    (fun s t =>
      match s.txn t.id with
      | none => s
      | some u =>
        let p := pageNo (64 * u.line)
        let moves := (Tbl.get? s.tier.moves p).isSome
        match s.tierOf (s.txnExtent u) (64 * u.line) with
        | .t3 | .t4 => if moves then s else s.dataStage u
        | _ => s.dataStage u) s

/-- Data of the near tier or a replica returns for a transaction (spec 04 R90); a line whose clean T1 copy has an uncorrectable
error is read again from T2 (07 R174). -/
def State.memDone (s : State) (id : Nat) : State :=
  match s.txn id with
  | none => s
  | some t =>
    let stale := s.t1Stale (64 * t.line)
    match t.phase with
    | .data =>
      if stale then (s.checkLine t).readT2 t else let r := s.deliverLine t; r.1.finishRead t r.2.data r.2.poison
    | .waiting | .snoop | .replica =>
      if t.spec && !(s.tier.trayOps.any (fun o => o.txn == t.id)) then
        if stale then (s.checkLine t).setTxn { t with specDone := true, specBad := true }
        else s.setTxn { t with specDone := true }
      else s
    | _ => s

end Sys2Proof.Machine
end

