-- ==== Sys2Proof/Machine/Pub.lean ====
section
/-! DEFINITION. Regions, publication, pins and region replicas (spec 05 R101 to R117), the reply cache's admission
(R121 to R123), and page replicas between homes (spec 04 R96, R98). -/

namespace Sys2Proof.Machine

/-! ### Fields of PUB_REQ and PUB_RSP (spec 05 R106) -/

def pubKind (h : Hdr) : Nat := bits h.arg.toNat 7 0
def pubRegion (h : Hdr) : Nat := bits h.arg.toNat 47 16
def pubIncarn (h : Hdr) : BitVec 16 := BitVec.ofNat 16 (bits h.arg.toNat 63 48)
def pubPage (h : Hdr) : Nat := bits h.arg.toNat 43 8
/-- Slot 1 of a message. -/
def slot1 (slots : List Slot) : Nat := ((slots[0]?).getD 0).toNat
def pubVer (slots : List Slot) : Nat := bits (slot1 slots) 31 0
def pubTenant (slots : List Slot) : Nat := bits (slot1 slots) 47 32
def pubCount (slots : List Slot) : Nat := bits (slot1 slots) 58 48
def pubAddr (slots : List Slot) : Nat := bits (slot1 slots) 127 64

/-- Inline extent-list entries of a PUBLISH: four 32-bit entries a slot. -/
def pubInline (slots : List Slot) : List Nat :=
  (List.range (pubCount slots)).map (fun i => bits (ofSlots slots.tail) (32 * i + 31) (32 * i))

/-- Whether DLEN matches kind and COUNT (spec 05 R106). -/
def pubShapeOk (kind : Nat) (slots : List Slot) : Bool :=
  let n := slots.length
  if kind == 1 then
    if pubCount slots ≤ 12 then n == 1 + (pubCount slots + 3) / 4 else n == 1
  else n == 1

/-- Writes TENANT of slot 1 (spec 05 R105). -/
def setPubTenant (tenant : Nat) : List Slot → List Slot
  | [] => []
  | x :: t => BitVec.ofNat 128 (insBits x.toNat 47 32 tenant) :: t

/-- Answers a PUB_REQ on the port it came by; kinds 0x10 to 0x12 in Q1 (spec 13 R305). -/
def State.pubRsp (s : State) (p : Nat) (h : Hdr) (st : Byte) (ver count : Nat) (fromCache rgrant : Bool) : State :=
  let kind := pubKind h
  let region := if kind == 0x10 || kind == 0x11 then 0 else pubRegion h
  let m : Msg := .yd 0x0D (replyHdr s h (pubRspArg kind st region fromCache rgrant))
    [BitVec.ofNat 128 (ver + count * 2 ^ 32)]
  if 0x10 ≤ kind then s.sendQ p 1 m else s.sendW p h.tc.toNat (some (bdTenant (s.map.cur.bind p))) kindForward m

/-! ### Incarnations and the reply cache (spec 05 R113, R121 to R123) -/

/-- Whether incarnation b is newer than a (spec 05 R113). -/
def newerThan (b a : BitVec 16) : Bool := 1 ≤ (b - a).toNat && (b - a).toNat ≤ 32767

/-- Frees the reply-cache entries of a FEID that an incarnation test selects. -/
def State.rcFree (s : State) (feid : Feid) (f : BitVec 16 → Bool) : State :=
  { s with rc := s.rc.filter (fun e => !(e.src == feid && f e.incarn)) }

/-- Releases one acknowledged tag (spec 05 R122). -/
def State.rcAck (s : State) (feid : Feid) (incarn tag : BitVec 16) : State := s.rcDrop feid incarn tag

/-- Whether a requester or the cache is at its limit (spec 05 R123). -/
def State.rcFull (s : State) (feid : Feid) : Bool :=
  65536 ≤ s.rc.length || s.rd ATOM_CTL_QUOTA ≤ (s.rc.filter (fun e => e.src == feid)).length

/-- Reserves an entry for a request admitted for execution. -/
def State.rcReserve (s : State) (feid : Feid) (incarn tag : BitVec 16) (print : Nat) : State :=
  { s with rc := s.rc ++ [{ src := feid, incarn := incarn, tag := tag, print_ := print }] }

/-- Adds a duplicate that waits for the original. -/
def State.rcWait (s : State) (feid : Feid) (incarn tag : BitVec 16) (p : PortId) : State :=
  { s with rc := s.rc.map (fun (e : RcEntry) =>
    if e.src == feid && e.incarn == incarn && e.tag == tag then { e with dups := e.dups ++ [p] } else e) }

/-- Stores the answer of a publication request and answers its duplicates; BUSY_RETRY leaves no entry (spec 05 R121). -/
def State.rcFillPub (s : State) (h : Hdr) (r : Reply) : State :=
  if r.status = stBusyRetry then
    match s.rcFind h.src (pubIncarn h) h.tag with
    | none => s
    | some e => e.dups.foldl (fun s q => s.pubRsp q.val h r.status r.ver.toNat r.count false r.grant)
        (s.rcDrop h.src (pubIncarn h) h.tag)
  else
    match s.rcFind h.src (pubIncarn h) h.tag with
    | none => s
    | some e =>
      let s := { s with rc := s.rc.map (fun (x : RcEntry) =>
        if x.src == h.src && x.incarn == pubIncarn h && x.tag == h.tag then { x with res := some r, dups := [] } else x) }
      e.dups.foldl (fun s q => s.pubRsp q.val h r.status r.ver.toNat r.count true r.grant) s

/-- Ends a judged publication request. -/
def State.pubEnd (s : State) (p : PortId) (h : Hdr) (st : Byte) (ver count : Nat) (rgrant : Bool := false) : State :=
  let r : Reply := { status := st, ver := BitVec.ofNat 32 ver, count := count, grant := rgrant }
  (s.pubRsp p.val h st ver count false rgrant).rcFillPub h r

/-! ### Regions -/

/-- A region of this device by its ID (spec 05 R101). -/
def State.region (s : State) (id : Nat) : Option Region :=
  if bits id 31 20 == s.rd DEV_ID_DEVICE_ID && bits id 19 16 == 0 then Tbl.get? s.pub.regions (id % 65536) else none

/-- Sets a region record. -/
def State.setRegion (s : State) (idx : Nat) (r : Region) : State :=
  { s with pub := { s.pub with regions := Tbl.put s.pub.regions idx r } }

/-- Whether some pin holds a version. -/
def State.pinned (s : State) (id ver : Nat) : Bool := s.pub.pins.any (fun p => p.region == id && p.ver == ver)

/-- Whether the release ring is full. -/
def State.ringFull (s : State) : Bool :=
  (s.rd PUB_RING_HEAD_HEAD + 1) % 2 ^ s.rd PUB_RING_SIZE_LOG2 == s.rd PUB_RING_TAIL_TAIL % 2 ^ s.rd PUB_RING_SIZE_LOG2

/-- Writes bytes to pool memory as an uncached requester of the device's own, line by line under byte enables (spec 04
R79). The bytes lie in one line. -/
def State.homeWrite (s : State) (a : Nat) (l : List Byte) (src : Src := .internal) : State :=
  let off := a % 64
  s.addTxn src
    (.write (BitVec.ofNat 512 (ofBytes l <<< (8 * off))) (BitVec.ofNat 64 ((2 ^ l.length - 1) <<< off)) false) (a / 64) s.epoch

/-- Writes a release record (spec 05 R114). -/
def State.releaseRecord (s : State) (id ver ext : Nat) : State :=
  let base := s.rd PUB_RING_LO_BASE + 2 ^ 32 * s.rd PUB_RING_HI_BASE
  let head := s.rd PUB_RING_HEAD_HEAD
  let s := s.set PUB_RING_HEAD_HEAD ((head + 1) % 2 ^ s.rd PUB_RING_SIZE_LOG2)
  s.homeWrite (base + 16 * head) (bytesOf 16 (id + ver * 2 ^ 32 + ext * 2 ^ 64))

/-- Sets PUB_STAT.RING_FULL; its rise sets PG_ERR.RING_FULL (spec 05 R114, 21 R444). -/
def State.setRingFull (s : State) (b : Bool) : State :=
  let s := if b && !s.flag PUB_STAT_RING_FULL then s.err ⟨.pub, 0⟩ 16 else s
  s.set PUB_STAT_RING_FULL (b2n b)

/-- The extents a retiring version releases, each once: those no other retained version and no running PUBLISH lists (spec 05
R114). -/
def Region.releases (r : Region) (ver : Nat) : List Nat :=
  let own := ((r.versions.filter (fun v => v.1 == ver)).map (·.2)).flatten
  let once := own.foldl (fun (l : List Nat) x => if l.contains x then l else l ++ [x]) []
  once.filter (fun x => !(r.versions.any (fun v => v.1 != ver && v.2.contains x) || r.newList.contains x))

/-- Retires one version: a release record for each extent it releases, then the version ends. While the ring is full it stays
retained, whole and sealed, with the records it has written (spec 05 R103, R114). -/
def State.retireExtents (idx id ver : Nat) : List Nat → State → State
  | [], s =>
    match Tbl.get? s.pub.regions idx with
    | none => s
    | some r => s.setRegion idx { r with
        versions := r.versions.filter (fun v => v.1 != ver)
        written := r.written.filter (fun w => w.1 != ver) }
  | x :: xs, s =>
    match Tbl.get? s.pub.regions idx with
    | none => s
    | some r =>
      if r.written.contains (ver, x) then State.retireExtents idx id ver xs s
      else if s.ringFull then s.setRingFull true
      else
        State.retireExtents idx id ver xs
          ((s.setRegion idx { r with written := (ver, x) :: r.written }).releaseRecord id ver x)

/-- The region ID of an index of this device. -/
def State.regionId (s : State) (idx : Nat) : Nat := s.rd DEV_ID_DEVICE_ID * 2 ^ 20 + idx

/-- Retires every version of a region that is neither current nor pinned; a closing region also its current one, and its
index becomes free with the last (spec 05 R114, R115). -/
def State.retireRegion (s : State) (idx : Nat) : State :=
  match Tbl.get? s.pub.regions idx with
  | none => s
  | some r =>
    let id := s.regionId idx
    let s := (r.versions.filter (fun v => (r.closing || v.1 != r.cur) && !s.pinned id v.1)).foldl
      (fun s v =>
        match Tbl.get? s.pub.regions idx with
        | none => s
        | some r => State.retireExtents idx id v.1 (r.releases v.1) s) s
    match Tbl.get? s.pub.regions idx with
    | none => s
    | some r =>
      if r.closing && r.versions.isEmpty && r.running.isNone && r.waiting.isEmpty then
        { s with pub := { s.pub with regions := Tbl.del s.pub.regions idx } }
      else s

/-- Retires what can retire in every region, after a pin or ring change. -/
def State.retireAll (s : State) : State :=
  let s := if s.ringFull then s else s.setRingFull false
  (s.pub.regions.map (·.1)).foldl State.retireRegion s

/-- CLOSE of the proxy pin of a region replica, whose last local pin has ended (spec 05 R116). -/
def State.closeProxy (s : State) (k : Nat) (rep : RegionReplica) : State :=
  let t := s.freshTag
  t.2.sendYd rep.home 0 kindForward none
    (.yd 0x0C (s.ownHdr rep.home t.1 (0x03 + k / 2 ^ 32 * 2 ^ 16 + s.rd LIVE_INCARN_INCARN * 2 ^ 48)) [BitVec.ofNat 128 rep.ver])

/-- Sets the local pins of a region replica; without one it ends, and its proxy pin with it (spec 05 R116). -/
def State.setLocalPins (s : State) (k : Nat) (rep : RegionReplica) (pins : List Pin) : State :=
  if pins.isEmpty then
    ({ s with pub := { s.pub with replicas := Tbl.del s.pub.replicas k } }).closeProxy k rep
  else { s with pub := { s.pub with replicas := Tbl.put s.pub.replicas k { rep with pins := pins } } }

/-- Releases the pins of a FEID that an incarnation test selects, here and in the region replicas held (spec 05 R113, R116). -/
def State.releasePins (s : State) (feid : Feid) (f : BitVec 16 → Bool) : State :=
  let keep (p : Pin) : Bool := !(p.feid == feid && f p.incarn)
  let s := (s.pub.replicas.filter (fun (q : Nat × RegionReplica) => !q.2.pins.all keep)).foldl
    (fun s q => s.setLocalPins q.1 q.2 (q.2.pins.filter keep)) s
  ({ s with pub := { s.pub with pins := s.pub.pins.filter keep } }).retireAll

/-- A FEID is seen with an incarnation: a newer one frees its older pins and reply-cache entries (spec 05 R113, R122). -/
def State.seeIncarn (s : State) (feid : Feid) (incarn : BitVec 16) : State :=
  match Tbl.get? s.live.incarns feid.toNat with
  | none => { s with live := { s.live with incarns := Tbl.put s.live.incarns feid.toNat incarn } }
  | some old =>
    if newerThan incarn old then
      let s := { s with live := { s.live with incarns := Tbl.put s.live.incarns feid.toNat incarn } }
      (s.rcFree feid (fun i => newerThan incarn i)).releasePins feid (fun i => newerThan incarn i)
    else s

/-- Whether a request carries an incarnation older than the newest seen (spec 05 R122). -/
def State.staleIncarn (s : State) (feid : Feid) (incarn : BitVec 16) : Bool :=
  match Tbl.get? s.live.incarns feid.toNat with
  | none => false
  | some n => newerThan n incarn

/-! ### PUBLISH (spec 05 R107 to R109) -/

/-- The version after a version (spec 05 R102). -/
def nextVer (v : Nat) : Nat := if v = 0xFFFFFFFF then 1 else v + 1

/-- Whether an entry's extent may join a version of a region (row 3 of R107). -/
def State.listable (s : State) (tenant idx e : Nat) : Bool :=
  let x := bits e 17 0
  let en := s.map.cur.extent x
  exValid en && s.map.cur.tenantOf en == tenant &&
    (match s.sealedIn x with | none => true | some i => i == idx)

/-- Step 2 of R108: lines of the listed extents held in E or M are downgraded by internal reads. -/
def State.downgrade (s : State) (exts : List Nat) : State :=
  (s.home.dir.filter (fun e => e.2.st != .s && exts.contains (e.1 / 2 ^ 24))).foldl
    (fun s e => s.addTxn .internal (.readUnc 0 0) e.1 s.epoch) s

/-- Whether a downgrade of R108 still runs. -/
def State.downgrading (s : State) (exts : List Nat) : Bool :=
  s.home.txns.any (fun t => t.src == .internal && t.acc == .readUnc 0 0 && exts.contains (t.line / 2 ^ 24))

/-- RGN_INV to a device (spec 05 R117). -/
def State.sendRgnInv (s : State) (id : Nat) (f : Feid) : State :=
  s.sendYdQ f 1 (.yd 0x0C (s.ownHdr f (0) (0x12 + id * 2 ^ 16 + s.rd LIVE_INCARN_INCARN * 2 ^ 48)) [0])

/-- Carries a running PUBLISH on: after the downgrades the region replicas are invalidated, after their answers the new
version becomes current and the requester is answered (spec 05 R108). -/
def State.pubProgress (s : State) (idx : Nat) : State :=
  match Tbl.get? s.pub.regions idx with
  | none => s
  | some r =>
    match r.running with
    | none => s
    | some (p, h, _) =>
      let id := s.regionId idx
      let s := if r.stage = 1 && !s.downgrading r.newList then
          r.replicas.foldl (fun s f => s.sendRgnInv id f)
            (s.setRegion idx { r with stage := 2, invWait := r.replicas, replicas := [] })
        else s
      match Tbl.get? s.pub.regions idx with
      | none => s
      | some r =>
        if r.stage = 2 && r.invWait.isEmpty then
          let v := nextVer r.cur
          let n := r.newList.length
          let s := s.setRegion idx
            { r with cur := v, versions := (v, r.newList) :: r.versions, newList := [], running := none, stage := 0 }
          let s := (s.pubEnd p h stOk v n).count { blk := .pub, code := 0x01, master := some (2, h.src.toNat) }
          s.retireRegion idx
        else s

/-- Rows 3, 5 and 6 of R107 once the list is known. A current version that the full release ring would keep retained counts as a
pinned one does (R102, R114). -/
def State.pubList (s : State) (idx : Nat) (r : Region) (p : PortId) (h : Hdr) (slots : List Slot) (es : List Nat) : State :=
  let id := s.regionId idx
  let stays := s.pinned id r.cur || s.ringFull && !(r.releases r.cur).isEmpty
  if !es.all (s.listable r.tenant idx) then
    ((s.setRegion idx { r with running := none }).pubEnd p h stDenied r.cur 0).retireRegion idx
  else if r.retain + 1 ≤ r.versions.length && stays then
    ((s.setRegion idx { r with running := none }).pubEnd p h stBusyRetry r.cur 0).retireRegion idx
  else
    let exts := es.map (fun e => bits e 17 0)
    let s := s.setRegion idx { r with running := some (p, h, slots), stage := 1, newList := exts }
    (s.downgrade exts).pubProgress idx

/-- Extents in a region's current list (spec 05 R106). -/
def Region.curCount (r : Region) : Nat := ((r.versions.find? (fun v => v.1 == r.cur)).map (·.2.length)).getD 0

/-- Makes a request wait for a region's running PUBLISH (spec 05 R109). -/
def State.pubWait (s : State) (e idx : Nat) (r : Region) (c : Instr) : State :=
  s.setRegion idx { r with waiting := r.waiting ++ [held e c] }

/-- Judges a PUBLISH (spec 05 R107); a list longer than 12 is read from the requester first. -/
def State.judgePublish (s : State) (e : Nat) (p : PortId) (h : Hdr) (slots : List Slot) : State :=
  let idx := pubRegion h % 65536
  match s.region (pubRegion h) with
  | none => s.pubEnd p h stDenied 0 0
  | some r =>
    if r.running.isSome then s.pubWait e idx r (.publish p h slots)
    else if r.closing || pubTenant slots != r.tenant then s.pubEnd p h stDenied 0 0
    else if pubVer slots != r.cur then
      (s.pubEnd p h stConflict r.cur r.curCount).count { blk := .pub, code := 0x02, master := some (2, h.src.toNat) }
    else if 1024 < pubCount slots then s.pubEnd p h stDenied 0 0
    else if 12 < pubCount slots then
      let s := s.setRegion idx { r with running := some (p, h, slots), stage := 0 }
      let s := { s with pub := { s.pub with listWait := s.pub.listWait ++ [(p, h, slots)] } }
      (List.range ((4 * pubCount slots + 63) / 64)).foldl
        (fun s i =>
          let t := s.freshTag
          t.2.sendYd h.src 0 kindReplica none (.yd 0x01 (s.ownHdr h.src t.1 (pubAddr slots + 64 * i)) [])) s
    else s.pubList idx r p h slots (pubInline slots)

/-! ### OPEN and CLOSE (spec 05 R111, R112) -/

/-- Writes an extent list to a requester's buffer with WR messages, the last line under byte enables (spec 05 R111). -/
def State.sendList (s : State) (p : Nat) (h : Hdr) (addr : Nat) (exts : List Nat) : State :=
  let l := exts.foldr (fun e acc => bytesOf 4 e ++ acc) []
  (List.range ((l.length + 63) / 64)).foldl
    (fun s i =>
      let part := (l.drop (64 * i)).take 64
      let hd : Hdr := { tc := h.tc, dst := h.src, src := s.ownFeid, tag := h.tag, arg := BitVec.ofNat 64 (addr + 64 * i) }
      let tenant := some (bdTenant (s.map.cur.bind p))
      if part.length = 64 then s.sendW p h.tc.toNat tenant kindForward (.yd 0x02 hd (lineSlots (lineOf part)))
      else
        let s := s.sendW p h.tc.toNat tenant kindForward
          (.yd 0x04 { hd with arg := BitVec.ofNat 64 (2 ^ part.length - 1) } [])
        s.sendW p h.tc.toNat tenant kindForward (.yd 0x03 hd (lineSlots (lineOf part)))) s

/-- Adds one to a pin; none where the table is full or the count at its end (spec 05 R112). -/
def addPin (pins : List Pin) (feid : Feid) (incarn : BitVec 16) (region ver limit : Nat) : Option (List Pin) :=
  let same (p : Pin) : Bool := p.feid == feid && p.incarn == incarn && p.region == region && p.ver == ver
  match pins.find? same with
  | some p => if p.count = 65535 then none else some (pins.map (fun q => if same q then { q with count := q.count + 1 } else q))
  | none =>
    if limit ≤ pins.length then none
    else some (pins ++ [{ feid := feid, incarn := incarn, region := region, ver := ver, count := 1 }])

/-- Takes one from a pin; none where the requester holds no such pin. -/
def dropPin (pins : List Pin) (feid : Feid) (incarn : BitVec 16) (region ver : Nat) : Option (List Pin) :=
  let same (p : Pin) : Bool := p.feid == feid && p.incarn == incarn && p.region == region && p.ver == ver
  match pins.find? same with
  | none => none
  | some p =>
    if p.count ≤ 1 then some (pins.filter (fun q => !same q))
    else some (pins.map (fun q => if same q then { q with count := q.count - 1 } else q))

/-- Judges an OPEN (spec 05 R111, R112, R116). Through a TRUNK port an OPEN of the current version of an RREPL region
grants the forwarding device a region replica, whose one proxy pin is in that device's FEID. -/
def State.judgeOpen (s : State) (e : Nat) (p : PortId) (h : Hdr) (slots : List Slot) : State :=
  let idx := pubRegion h % 65536
  let id := pubRegion h
  match s.region id with
  | none => s.pubEnd p h stDenied 0 0
  | some r =>
    if r.running.isSome then s.pubWait e idx r (.openReq p h slots)
    else if r.closing || pubTenant slots != r.tenant then s.pubEnd p h stDenied 0 0
    else
      let v := if pubVer slots = 0 then r.cur else pubVer slots
      match r.versions.find? (fun e => e.1 == v) with
      | none => s.pubEnd p h stConflict r.cur r.curCount
      | some e =>
        let fwd := BitVec.ofNat 16 (s.rd PORT_LSTAT_PARTNER_FEID p.val)
        let grant := r.rrepl && s.role p.val == .trunk && v == r.cur && fwd != h.src
        let who := if grant then fwd else h.src
        let inc := if grant then (s.port p.val).partnerIncarn else pubIncarn h
        let proxy := grant && s.pub.pins.any (fun q => q.feid == who && q.incarn == inc && q.region == id && q.ver == v)
        match (if proxy then some s.pub.pins else addPin s.pub.pins who inc id v 65536) with
        | none => s.pubEnd p h stBusyRetry r.cur 0
        | some pins =>
          let s := { s with pub := { s.pub with pins := pins } }
          let s := if grant && !r.replicas.contains fwd then s.setRegion idx { r with replicas := r.replicas ++ [fwd] } else s
          let s := if pubAddr slots = 0 then s else s.sendList p.val h (pubAddr slots) e.2
          s.pubEnd p h stOk v e.2.length grant

/-- Judges a CLOSE (spec 05 R111, R112, R114). -/
def State.judgeClose (s : State) (e : Nat) (p : PortId) (h : Hdr) (slots : List Slot) : State :=
  let idx := pubRegion h % 65536
  match s.region (pubRegion h) with
  | none => s.pubEnd p h stDenied 0 0
  | some r =>
    if r.running.isSome then s.pubWait e idx r (.close p h slots)
    else if pubTenant slots != r.tenant then s.pubEnd p h stDenied 0 0
    else
      match dropPin s.pub.pins h.src (pubIncarn h) (pubRegion h) (pubVer slots) with
      | none => s.pubEnd p h stDenied r.cur 0
      | some pins => (({ s with pub := { s.pub with pins := pins } }).pubEnd p h stOk (pubVer slots) 0).retireRegion idx

/-- Judges a request that waited behind a PUBLISH (spec 05 R109). -/
def State.judgePub (s : State) (e : Nat) (c : Instr) : State :=
  match c with
  | .publish p h sl => s.judgePublish e p h sl
  | .openReq p h sl => s.judgeOpen e p h sl
  | .close p h sl => s.judgeClose e p h sl
  | _ => s

/-- Judges the requests that waited behind a region's PUBLISH, in arrival order, until one of them runs. -/
def State.pubWaiters : Nat → Nat → State → State
  | 0, _, s => s
  | n + 1, idx, s =>
    match Tbl.get? s.pub.regions idx with
    | none => s
    | some r =>
      if r.running.isSome then s
      else match r.waiting with
        | [] => s
        | c :: t => State.pubWaiters n idx ((s.setRegion idx { r with waiting := t }).judgePub c.epoch c.cmd)

/-- Carries every region's PUBLISH and its waiters on, after snoops or acknowledgements. -/
def State.pubSettle (s : State) : State :=
  (s.pub.regions.map (·.1)).foldl
    (fun s idx =>
      let s := s.pubProgress idx
      match Tbl.get? s.pub.regions idx with
      | none => s
      | some r =>
        let s := State.pubWaiters (r.waiting.length + 1) idx s
        if r.closing && !r.waiting.isEmpty then s.retireRegion idx else s) s

/-- Admits a publication request at its home (spec 05 R106, R121 to R123; 01 R467). -/
def State.admitPub (s : State) (p : PortId) (h : Hdr) (slots : List Slot) (judge : State → State) : State :=
  let kind := pubKind h
  let inc := pubIncarn h
  let print := kind + pubRegion h * 2 ^ 8
  if !s.enabled .pub then (s.countDenied p.val none).pubRsp p.val h stDenied 0 0 false false
  else if !pubShapeOk kind slots then s.pubRsp p.val h stDenied 0 0 false false
  else
    let s := s.seeIncarn h.src inc
    if s.staleIncarn h.src inc then s.pubRsp p.val h stDenied 0 0 false false
    else
      match s.rcFind h.src inc h.tag with
      | some e =>
        if e.print_ != print then
          ((s.pubRsp p.val h stDenied 0 0 false false).count
            { blk := .atom, code := 0x03, master := some (2, h.src.toNat) }).err ⟨.atom, 0⟩ 16
        else match e.res with
          | some r =>
            (s.pubRsp p.val h r.status r.ver.toNat r.count true r.grant).count
              { blk := .atom, code := 0x02, master := some (2, h.src.toNat) }
          | none => s.rcWait h.src inc h.tag p
      | none =>
        if s.rcFull h.src then
          (s.pubRsp p.val h stBusyRetry 0 0 false false).count { blk := .atom, code := 0x04, master := some (2, h.src.toNat) }
        else judge (s.rcReserve h.src inc h.tag print)

/-! ### Region replicas at a forwarding device (spec 05 R116, R117) -/

/-- Key of a region replica. -/
def replicaKey (region ver : Nat) : Nat := region * 2 ^ 32 + ver

/-- Answers an OPEN of a leaf from a region replica this device holds: its pin is counted here. -/
def State.openLocal (s : State) (p : PortId) (h : Hdr) (slots : List Slot) (rep : RegionReplica) : State :=
  match addPin rep.pins h.src (pubIncarn h) (pubRegion h) rep.ver 65536 with
  | none => s.pubEnd p h stBusyRetry rep.ver 0
  | some pins =>
    let s := s.setLocalPins (replicaKey (pubRegion h) rep.ver) rep pins
    let s := if pubAddr slots = 0 then s else s.sendList p.val h (pubAddr slots) rep.exts
    s.pubEnd p h stOk rep.ver rep.exts.length

/-- The region replica an OPEN can be answered from. -/
def State.replicaFor (s : State) (h : Hdr) (slots : List Slot) : Option RegionReplica :=
  (s.pub.replicas.find? (fun q => q.1 / 2 ^ 32 == pubRegion h && q.2.alive && q.2.tenant == pubTenant slots &&
    (pubVer slots == 0 || pubVer slots == q.2.ver))).map (·.2)

/-- The record that counts a leaf's pin of a version here, and its pins without it. -/
def State.localPin (s : State) (h : Hdr) (slots : List Slot) : Option (RegionReplica × List Pin) :=
  match Tbl.get? s.pub.replicas (replicaKey (pubRegion h) (pubVer slots)) with
  | none => none
  | some rep => (dropPin rep.pins h.src (pubIncarn h) (pubRegion h) rep.ver).map (fun pins => (rep, pins))

/-- A CLOSE of a leaf for a pin counted here; the last one closes the proxy pin at the home. -/
def State.closeLocal (s : State) (p : PortId) (h : Hdr) (rep : RegionReplica) (pins : List Pin) : State :=
  (s.setLocalPins (replicaKey (pubRegion h) rep.ver) rep pins).pubEnd p h stOk rep.ver 0

/-- A PUB_RSP with RGRANT to a forwarded OPEN: the leaf's pin is counted here; the device keeps a region replica where it saw the
list, has room and no RGN_INV has come since the OPEN went out (spec 05 R116, R117). -/
def State.keepReplica (s : State) (h : Hdr) (slots : List Slot) : State :=
  match s.pub.fwd.find? (fun f => f.hdr.src == h.dst && f.hdr.tag == h.tag && pubRegion f.hdr == pubRegion h) with
  | none => s
  | some f =>
    let s := { s with pub := { s.pub with fwd := s.pub.fwd.filter (fun g => !(g.hdr.src == h.dst && g.hdr.tag == h.tag)) } }
    let n := bits (slot1 slots) 42 32
    if bit h.arg.toNat 49 && bits h.arg.toNat 15 8 == 0 then
      let ver := pubVer slots
      let k := replicaKey (pubRegion h) ver
      let exts := (List.range n).map (fun i =>
        ofBytes ((List.range 4).map (fun k => Memory.read f.bytes (pubAddr f.slots + 4 * i + k))) % 2 ^ 18)
      let room := (s.pub.replicas.filter (fun q => q.2.alive)).length < 4096
      let live := !f.dead && room && pubAddr f.slots != 0
      let new : RegionReplica := { ver := ver, exts := if live then exts else [], home := h.src, alive := live, tenant := pubTenant f.slots }
      let rep := (Tbl.get? s.pub.replicas k).getD new
      match addPin rep.pins f.hdr.src (pubIncarn f.hdr) (pubRegion h) ver 65536 with
      | none => s
      | some pins => s.setLocalPins k rep pins
    else s

/-- Notes a list line the home writes towards a forwarded OPEN's buffer. -/
def State.noteList (s : State) (h : Hdr) (d : Line) : State :=
  { s with pub := { s.pub with fwd := s.pub.fwd.map (fun (f : FwdOpen) =>
    let a := h.arg.toNat
    if f.hdr.src == h.dst && f.hdr.dst == h.src && pubAddr f.slots ≤ a && a < pubAddr f.slots + 4096 then
      { f with bytes := Memory.writeBytes f.bytes a (lineBytes d) }
    else f) } }

/-! ### Page replicas between homes (spec 04 R96 to R98) -/

/-- Key of a page of another home. -/
def peerPageKey (feid : Feid) (page : Nat) : Nat := feid.toNat * 2 ^ 36 + page

/-- Whether a replica of another home's page is filled: it serves reads here (R96, R97). -/
def State.peerFilled (s : State) (home : Feid) (page : Nat) : Bool :=
  Tbl.get s.home.repl.mine (peerPageKey home page) 0 == 2 ^ 64 - 1

/-- A line of a replica of another home's page. -/
def State.peerLine (s : State) (home : Feid) (a : Nat) : Line :=
  Memory.readLine s.home.repl.mineBytes (peerPageKey home (a / 4096) * 4096 + a % 4096 / 64 * 64)

/-- A REPL_REQ at the home: granted where PEER_GRANT_EN is set, the page is a candidate of the last window and fewer than
64 devices hold it; else refused (spec 04 R96). -/
def State.judgeReplReq (s : State) (p : PortId) (h : Hdr) : State :=
  let r := s.home.repl
  let page := pubPage h
  let held := Tbl.get r.peers page []
  if s.flag REPL_CTL_PEER_GRANT_EN && s.enabled .repl && r.cands.contains page &&
      (held.length < 64 || held.contains h.src.toNat) then
    let s := s.mapRepl (fun r => { r with peers := Tbl.put r.peers page (setAdd held h.src.toNat) })
    s.pubRsp p.val h stOk 0 0 false false
  else s.pubRsp p.val h stDenied 0 0 false false

/-- A REPL_INV at a peer: the replica is dropped and the invalidation acknowledged (spec 04 R98). -/
def State.dropPeerReplica (s : State) (p : PortId) (h : Hdr) : State :=
  let k := peerPageKey h.src (pubPage h)
  let s := s.mapRepl (fun r => { r with
    mine := Tbl.del r.mine k
    mineTag := Tbl.del r.mineTag k
    asked := Tbl.del r.asked k
    mineBytes := r.mineBytes.filter (fun c => c.1 / 4096 != k) })
  s.pubRsp p.val h stOk 0 0 false false

/-- A peer has acknowledged the invalidation of a page, or a verdict counts as that (spec 04 R98): the writes that waited
for the last of them go on. -/
def State.replAcked (s : State) (page : Nat) (f : Nat) : State :=
  let s := s.mapRepl (fun r =>
    let w := (Tbl.get r.invWait page []).filter (fun q => q.1 != f)
    let ps := setDel (Tbl.get r.peers page []) f
    { r with
      invWait := if w.isEmpty then Tbl.del r.invWait page else Tbl.put r.invWait page w
      peers := if ps.isEmpty then Tbl.del r.peers page else Tbl.put r.peers page ps })
  if (Tbl.get s.home.repl.invWait page []).isEmpty then
    (s.home.txns.filter (fun t => t.phase == .replica && t.line / 64 == page)).foldl
      (fun s t => match s.txn t.id with | none => s | some u => s.dataStage u) s
  else s

/-- A device has acknowledged RGN_INV, or a verdict counts as that (spec 05 R117). -/
def State.rgnAcked (s : State) (idx : Nat) (f : Feid) : State :=
  match Tbl.get? s.pub.regions idx with
  | none => s
  | some r => (s.setRegion idx { r with invWait := r.invWait.filter (fun g => g != f) }).pubProgress idx

/-- A grant arrives: the replica is filled with RD messages (spec 04 R96). -/
def State.startPeerFill (s : State) (home : Feid) (page : Nat) : State :=
  let k := peerPageKey home page
  let base := s.home.nextId
  let s := { s with home := { s.home with nextId := base + 64 } }
  let s := s.mapRepl (fun r =>
    { r with asked := Tbl.del r.asked k, mine := Tbl.put r.mine k 0, mineTag := Tbl.put r.mineTag k base })
  (List.range 64).foldl
    (fun s i => s.sendYd home 0 kindReplica none
      (.yd 0x01 (s.ownHdr home (BitVec.ofNat 16 (base + i)) (4096 * page + 64 * i)) [])) s

end Sys2Proof.Machine
end

