-- ==== Sys2Proof/Machine/Commit.lean ====
section
/-! DEFINITION. The commit of the composition map: its refusals in their order, what a commit starts, the drain of the old
epoch (spec 03 R60 to R72; 05 R104; 06 R129, R135, R137; 07 R160; 09 R207; 11 R259; 14 R318, R324, R325; 15 R348; 21 R439). -/

namespace Sys2Proof.Machine

/-! ### Grounds of refusal -/

/-- The codes whose test holds. -/
def codesOf (l : List (Bool × Nat)) : List Nat := (l.filter (·.1)).map (·.2)

/-- The lowest code of a list (spec 03 R61 step 3). -/
def lowest : List Nat → Option Nat
  | [] => none
  | c :: t => match lowest t with | none => some c | some d => some (min c d)

/-- The keys two tables list. -/
def unionKeys {α : Type} (a b : Tbl α) : List Nat := (Tbl.keys a).foldl setAdd (Tbl.keys b)

/-- Whether two ranges of one port overlap. -/
def rangesMeet (a b : Nat × Nat × Nat) : Bool := a.1 == b.1 && a.2.1 < b.2.2 && b.2.1 < a.2.2

/-- Tray memory a FIXED extent maps, as (port, first byte, byte after) ranges (spec 03 R59, 06 R148, R149). -/
def Bank.trayRanges (b : Bank) (e : Nat) : List (Nat × Nat × Nat) :=
  let pl := exPlace e
  let at_ (n size : Nat) : List (Nat × Nat × Nat) :=
    ((List.range n).filter (fun i => b.placePort pl i != 0xFF)).map
      (fun i => (b.placePort pl i, exOffset e * size, (exOffset e + 1) * size))
  match exRedund e with
  | 0 => at_ 1 (2 ^ 30)
  | 1 => at_ 2 (2 ^ 30)
  | 2 => at_ 10 (2 ^ 27)
  | _ => []

/-- Placement ports a redundancy class uses. -/
def portsUsed (e : Nat) : Nat :=
  match exRedund e with
  | 0 => 1
  | 1 => 2
  | 2 => 10
  | _ => 0

/-- The page-table area and the frame-store areas as tray ranges (spec 06 R136). -/
def State.tierRanges (s : State) : List (Nat × Nat × Nat) :=
  let pt := s.rd TIER_PT_PORT
  let o := s.rd TIER_PT_OFFSET_GIB
  (if pt = 0xFF then [] else [(pt, o * 2 ^ 30, (o + 32) * 2 ^ 30)]) ++
    s.areas.map (fun a =>
      let f := s.rd TIER_AREA_W0_OFFSET_GIB 0 a.1
      (a.2.1, f * 2 ^ 30, f * 2 ^ 30 + a.2.2.2 * 4096))

/-- Whether a port has a YD link up whose partner named a device ID in its INIT (spec 03 R60). -/
def State.ydPeer (s : State) (dev : Nat) : Bool :=
  s.ports.any (fun p => s.ydUp p.1 && p.2.initRx && p.2.partnerDev.toNat == dev)

/-- Whether the size-map area has room for an extent (spec 07 R160). -/
def State.smapRoom (s : State) (x : Nat) : Bool :=
  s.rd CMPR_SMAP_A_PORT != 0xFF && (x + 1) * 2 ^ 21 ≤ s.rd CMPR_SMAP_SIZE_GIB * 2 ^ 30

/-- Grounds against an extent entry of the pending bank. -/
def State.extentCodes (s : State) (x : Nat) : List Nat :=
  let p := s.map.pend
  let e := p.extent x
  let c := s.map.cur.extent x
  let sl := p.slice (exOwner e)
  let valid := exValid e
  let fixed := valid && !s.paged e
  let mine := p.trayRanges e
  let earlier := p.extents.filter (fun o => o.1 < x)
  let tenant := slTenant sl
  codesOf [
    (bits e 7 6 != 0 || bits e 63 62 != 0 || bits e 79 76 != 0 || bits e 127 112 != 0, rcFieldRange),
    (exRedund e == 3 || exHoCmd e == 3, rcFieldRange),
    (exHoCmd e != 0 && !s.ydPeer (exHoPeer e), rcRole),
    (exHoCmd e != 0 && (earlier.filter (fun o => exHoCmd o.2 != 0)).length == 256, rcExhausted),
    (valid && !slValid sl, rcFieldRange),
    (exCloaked e && exCmpr e, rcCloak),
    (valid && exCloaked e && s.rd SEC_PROFILE_PROFILE == 2, rcProfile),
    (valid && exCmpr e && slValid sl && s.noCmpr tenant, rcProfile),
    (valid && exCmpr e && !s.smapRoom x, rcFieldRange),
    (valid && exValid c && exCmpr e != exCmpr c, rcFieldRange),
    (fixed && earlier.any (fun o =>
      exValid o.2 && !s.paged o.2 && (p.trayRanges o.2).any (fun r => mine.any (rangesMeet r))), rcOverlap),
    (valid && s.paged e && exRedund e != 0, rcFieldRange),
    (valid && exValid c && s.paged e != s.paged c, rcFieldRange),
    (valid && exCloaked e && (s.pol TIER_POL_A_T3_EN e == 1 || s.pol TIER_POL_A_T4_EN e == 1), rcCloak),
    (fixed && s.tierRanges.any (fun r => mine.any (rangesMeet r)), rcOverlap),
    (fixed && exRedund e == 2 && s.pol TIER_POL_A_T1_EN e == 0, rcFieldRange),
    (match s.sealedIn x with
      | none => false
      | some i => match Tbl.get? s.pub.regions i with
        | none => false
        | some r => !valid || exHoCmd e != 0 || tenant != r.tenant, rcOverlap)]

/-- Whether a context in READY or RETIRING is bound to a slice (spec 14 R318). -/
def State.sliceHeld (s : State) (i : Nat) : Bool := s.sec.slots.any (fun k => s.rd CTX_BIND_SLICE k.1 == i)

/-- Grounds against a slice entry of the pending bank. -/
def State.sliceCodes (s : State) (i : Nat) : List Nat :=
  let e := s.map.pend.slice i
  let c := s.map.cur.slice i
  codesOf [
    (bits e 15 1 != 0 || bits e 63 32 != 0, rcFieldRange),
    (slValid e && s.map.pend.slices.any (fun o =>
      o.1 < i && slValid o.2 && (slCores o.2 &&& slCores e != 0 || slPcs o.2 &&& slPcs e != 0)), rcOverlap),
    (slValid c && (!slValid e || slTenant e != slTenant c) && s.sliceHeld i, rcLocked)]

/-- Grounds against a port-binding entry of the pending bank. -/
def State.bindCodes (s : State) (i : Nat) : List Nat :=
  let e := s.map.pend.bind i
  codesOf [(bits e 3 1 != 0 || bits e 63 60 != 0 || bits e 255 77 != 0 || 4096 < bdCtxCount e, rcFieldRange)]

/-- Grounds against a placement entry of the pending bank: its own, with every port it names, and those of the VALID FIXED extents
that use it. -/
def State.placeCodes (s : State) (i : Nat) : List Nat :=
  let p := s.map.pend
  let uses := p.extents.filter (fun e => exValid e.2 && !s.paged e.2 && exPlace e.2 == i)
  let ports := (uses.foldl (fun n e => max n (portsUsed e.2)) 0)
  codesOf [
    (bits (Tbl.get p.places i 0) 127 80 != 0, rcFieldRange),
    ((List.range ports).any (fun k => p.placePort i k == 0xFF), rcFieldRange),
    ((List.range (if Tbl.get p.places i 0 = 0 then ports else 10)).any (fun k =>
      p.placePort i k != 0xFF && s.role (p.placePort i k) != .tray), rcRole)]

/-- Grounds against a route entry of the pending bank (spec 03 R59, 09 R207, 11 R259, 21 R439). -/
def State.routeCodes (s : State) (i : Nat) : List Nat :=
  let e := Tbl.get s.map.pend.routes i 0
  let act := bits e 3 1
  let base := rtBase e
  let limit := rtLimit e
  let off := rtOffset e
  let dst := rtDst e
  let v := bit e 0
  codesOf [
    (bits e 63 29 != 0 || 5 < act, rcFieldRange),
    (v && limit < base, rcFieldRange),
    (v && (act == 0 || act == 3 || act == 4) && off != 0, rcFieldRange),
    (v && act != 2 && dst != 0, rcFieldRange),
    (v && act == 1 && base ≤ limit && 2 ^ 48 ≤ limit - base + off, rcFieldRange),
    (v && act == 5 && base ≤ limit && 2 ^ 26 ≤ limit - base + off, rcFieldRange),
    (v && act == 1 && (base % 2 ^ 30 != 0 || off % 2 ^ 30 != 0 || (limit + 1) % 2 ^ 30 != 0), rcAlign),
    (v && (act == 3 || act == 4) && (base % 2 ^ 24 != 0 || limit != base + (2 ^ 24 - 1)), rcAlign),
    (v && act == 2 && !(s.enabled .port dst && (s.role dst == .leaf || s.role dst == .trunk)), rcRole)]

/-- The first entry of a table that fails a ground, with its lowest code. -/
def firstBad (codes : Nat → List Nat) : List Nat → Option (Nat × Nat)
  | [] => none
  | i :: t => match lowest (codes i) with | some c => some (i, c) | none => firstBad codes t

/-- The refusal of a commit: a code, and the table and entry it names (none for the bank state) (spec 03 R61). -/
def State.commitRefusal (s : State) : Option (Nat × Option (Nat × Nat)) :=
  let p := s.map.pend
  let c := s.map.cur
  let look (t : Nat) (codes : Nat → List Nat) (ks : List Nat) (rest : Option (Nat × Option (Nat × Nat))) :
      Option (Nat × Option (Nat × Nat)) :=
    match firstBad codes ks with
    | some (i, k) => some (k, some (t, i))
    | none => rest
  if s.draining then some (rcEpochBusy, none)
  else if !s.flag MAP_STAT_PENDING_READY then some (rcMoving, none)
  else
    look 0 s.extentCodes (unionKeys p.extents c.extents)
      (look 1 s.sliceCodes (unionKeys p.slices c.slices)
        (look 2 s.bindCodes p.binds.keys
          (look 3 s.placeCodes (((p.extents.filter (fun e => exValid e.2)).map (fun e => exPlace e.2)).foldl setAdd p.places.keys)
            (look 4 s.routeCodes p.routes.keys none))))

/-! ### What a commit starts -/

/-- Writes a result of the map's command (spec 03 R60). -/
def State.mapResult (s : State) (code : Nat) (bad : Option (Nat × Nat)) : State :=
  let g : Page := ⟨.map, 0⟩
  let s := (s.set MAP_STAT_RESULT code).hset g PG_REASON_CODE code
  let s := s.hset g PG_REASON_OFFSET (if code = 0 then 0 else 0x104)
  match bad with
  | none => s
  | some (t, i) => (s.set MAP_BADENT_INDEX i).set MAP_BADENT_TABLE t

/-- Starts the check of the pending bank (spec 03 R60). -/
def State.startCommit (s : State) : State := s.set MAP_COMMIT_COMMIT 1

/-- Snoops a leaf's copies of an extent it lost, on both ports of a shared vector bit (spec 04 R80), and notes the DCD event they
delay (spec 03 R68). -/
def State.removeAccess (s : State) (p x : Nat) : State :=
  let lines := s.home.dir.filter (fun e => e.1 / 2 ^ 24 == x && (s.holders e.2).contains p)
  let one (l : Nat) (s : State) (q : Nat) : State :=
    { s.snoop true l q with map := { (s.snoop true l q).map with commitSnoops := s.map.commitSnoops ++ [(q, l)] } }
  let s := lines.foldl
    (fun s e => ((s.holders e.2).filter (fun q => q == p || q == twin p)).foldl (one e.1) s) s
  { s with map := { s.map with dcdWait := s.map.dcdWait ++ [(p, x)] } }

/-- Tells leaves which extents they lost and gained (spec 03 R68). -/
def State.dcdEvents (s : State) (old new : Bank) : State :=
  let xs := unionKeys new.extents old.extents
  let ps := (unionKeys new.binds old.binds).filter (fun p => s.role p == .leaf)
  ps.foldl
    (fun s p => xs.foldl
      (fun s x =>
        let was := old.portMay p (old.extent x)
        let may := new.portMay p (new.extent x)
        if was && !may then s.removeAccess p x
        else if may && !was then s.sendQ p 3 (.dcd true x false)
        else s) s) s

/-- The pages of an extent in T1. -/
def State.t1Pages (s : State) (x : Nat) : List (Nat × T1Page) := s.tier.t1.filter (fun p => p.1 / 2 ^ 14 == x)

/-- Units of a page that are dirty, by pool address ÷ 4,096. -/
def dirtyOf (p : Nat × T1Page) : List Nat := ((List.range 16).filter (fun u => bit p.2.dirty u)).map (fun u => 16 * p.1 + u)

/-- Starts the write-back of an extent's dirty units, drops its clean T1 pages and cancels its moves, staging included (spec 06
R135). -/
def State.leaveT1 (s : State) (x : Nat) : State :=
  let ps := s.t1Pages x
  let us := (ps.map dirtyOf).flatten
  let stays (q : Nat × Nat) : Bool := q.2 / 2 ^ 14 != x
  { s with tier := { s.tier with
    wbs := s.tier.wbs.filter (fun w => !us.contains w.1) ++ us.map (fun u => (u, true))
    t1 := s.tier.t1.filter (fun (p : Nat × T1Page) => p.1 / 2 ^ 14 != x || p.2.dirty != 0)
    moves := s.tier.moves.filter (fun (m : Nat × MoveKind × Nat) => m.1 / 2 ^ 14 != x)
    scheds := s.tier.scheds.map (fun (c : Nat × Sched) =>
      (c.1, { c.2 with staging := c.2.staging.filter stays, waitIssue := c.2.waitIssue.filter stays })) } }

/-- Whether a commit makes an extent leave the near tier (spec 06 R135). -/
def State.leavesT1 (s : State) (old new : Bank) (x : Nat) : Bool :=
  let o := old.extent x
  let n := new.extent x
  exValid o && (!exValid n || (!s.paged n && (exPlace o != exPlace n || exOffset o != exOffset n)) ||
    (s.pol TIER_POL_A_T1_EN o == 1 && s.pol TIER_POL_A_T1_EN n == 0) || (exHoCmd n == 1 && exHoCmd o != 1))

/-- Whether the trays an extent's entry names hold what the device stored for the extent before: the same class and
offset, and enough of the same ports to read it (spec 06 R148, R151, R152). -/
def keepsTrays (old new : Bank) (x : Nat) : Bool :=
  let o := old.extent x
  let n := new.extent x
  let same := ((List.range (portsUsed n)).filter (fun i =>
    old.placePort (exPlace o) i == new.placePort (exPlace n) i)).length
  o != 0 && exRedund o == exRedund n && exOffset o == exOffset n &&
    match exRedund n with
    | 0 => same == 1
    | 1 => 1 ≤ same
    | _ => 8 ≤ same

/-- The trays of an extent hold what another mapping or device wrote. -/
def State.strange (s : State) (x : Nat) : State :=
  { s with pool := { s.pool with
    cur := s.pool.cur.dropExtent x
    tray := s.pool.tray.dropExtent x
    foreign := setAdd s.pool.foreign x } }

/-- Ports of an extent's placement that a commit replaced, or that had failed before, stay failed until a rebuild (spec 06 R148,
R152). -/
def State.carryHeads (s : State) (old new : Bank) (x : Nat) : State :=
  let o := old.extent x
  let n := new.extent x
  (List.range (portsUsed n)).foldl
    (fun s i =>
      if old.placePort (exPlace o) i != new.placePort (exPlace n) i || s.headFailed x (exPlace o) i then
        s.failHead x (exPlace n) i
      else s) s

/-- Sets what the trays hold for a VALID extent after a commit: a PAGED extent made VALID is ZERO (spec 06 R137); one whose trays
another mapping or device wrote holds what the device does not know; one that was VALID in the draining map keeps its contents for
that epoch until it retires. -/
def State.remapPool (s : State) (old new : Bank) (x : Nat) : State :=
  let o := old.extent x
  let n := new.extent x
  if !exValid n then s
  else if s.paged n then
    if exValid o then s
    else
      { s with
        tier := { s.tier with ents := s.tier.ents.filter (fun e => e.1 / 2 ^ 14 != x) }
        pool := { s.pool with
          cur := s.pool.cur.dropExtent x
          tray := s.pool.tray.dropExtent x
          foreign := setDel s.pool.foreign x } }
  else
    let took := exHoCmd n == 2 && exHoCmd o != 2
    if !took && keepsTrays old new x then s.carryHeads old new x
    else if exValid o then { s with map := { s.map with moved := setAdd s.map.moved x } }
    else s.strange x

/-- A store's coded blocks of an extent become RAW: what their lines hold is no block's data any more (spec 07 R160). -/
def Store.rawAll (st : Store) (x : Nat) : Store :=
  let coded := st.smap.filter (fun b => b.1 / 2 ^ 22 == x)
  { st with
    smap := st.smap.filter (fun b => b.1 / 2 ^ 22 != x)
    tags := coded.foldl (fun t b => (List.range 4).foldl (fun t i => Tbl.put t (4 * b.1 + i) (0, 256)) t) st.tags }

/-- The size-map entries of an extent made VALID with CMPR are written RAW; its accesses wait for that (spec 07 R160). -/
def State.startSmap (s : State) (x : Nat) : State :=
  { s with
    map := { s.map with smapInit := setAdd s.map.smapInit x }
    pool := { s.pool with cur := s.pool.cur.rawAll x, tray := s.pool.tray.rawAll x } }

/-- The FEID of a device this device has a YD link to, as its INIT named it. -/
def State.feidOfDev (s : State) (dev : DevId) : Feid :=
  match s.ports.find? (fun p => s.ydUp p.1 && p.2.initRx && p.2.partnerDev == dev) with
  | some p => BitVec.ofNat 16 (s.rd PORT_LSTAT_PARTNER_FEID p.1)
  | none => 0

/-- Hand-over states after a commit (spec 03 R72; 15 R348): GIVE and TAKE start one, and a commit that clears HO_CMD of an
extent leaves OWNED, GIVEN and FAILED; an extent that leaves FAILED is tainted. -/
def State.commitHo (s : State) (old new : Bank) (x : Nat) : State :=
  let o := old.extent x
  let n := new.extent x
  let fresh : Bool := exHoCmd n != exHoCmd o || exHoXfer n != exHoXfer o || exHoPeer n != exHoPeer o
  let rec_ (st : HoState) : Handover :=
    { st := st, peer := BitVec.ofNat 12 (exHoPeer n), xfer := BitVec.ofNat 32 (exHoXfer n), giveEpoch := s.epoch
      feid := s.feidOfDev (BitVec.ofNat 12 (exHoPeer n)) }
  if exHoCmd n == 1 && fresh then s.setHo x (some (rec_ .giving))
  else if exHoCmd n == 2 && fresh then s.setHo x (some (rec_ .awaiting))
  else if exHoCmd n == 0 then
    match s.ho x with
    | none => s
    | some h =>
      match h.st with
      | .failed => (s.setHo x none).taint x true
      | .owned | .given => s.setHo x none
      | _ => s
  else s

/-- The effects of a commit on one extent. -/
def State.commitExtent (s : State) (old new : Bank) (x : Nat) : State :=
  let o := old.extent x
  let n := new.extent x
  let s := if s.leavesT1 old new x then s.leaveT1 x else s
  let s := s.remapPool old new x
  let s := if exValid n && !exValid o && exCmpr n then s.startSmap x else s
  s.commitHo old new x

/-- The effects of a successful commit (spec 03 R60, R62, R63). -/
def State.commitDone (s : State) : State :=
  let old := s.map.cur
  let new := s.map.pend
  let e := s.epoch
  let s := { s with map := { s.map with cur := new, draining := some old, xferUndo := none } }
  let s := ((s.set MAP_EPOCH_CURRENT ((e + 1) % 2 ^ 16)).set MAP_EPOCH_DRAINING e).set MAP_STAT_DRAINING 1
  let s := (s.set MAP_STAT_PENDING_READY 0).mapResult 0 none
  let s := s.count { blk := .map, code := 0x01 }
  let s := (unionKeys new.extents old.extents).foldl (fun s x => s.commitExtent old new x) s
  s.dcdEvents old new

/-- Undoes the OWNER_SLICE edit of a refused MAP_XFER (spec 03 R71). -/
def State.undoXfer (s : State) : State :=
  match s.map.xferUndo with
  | none => s
  | some (x, e) =>
    { s with map := { s.map with
      pend := { s.map.pend with extents := Tbl.putD s.map.pend.extents x 0 e }
      xferUndo := none } }

/-- Ends the check of the pending bank (spec 03 R60, R61). -/
def State.endCommit (s : State) : State :=
  let s' := s.set MAP_COMMIT_COMMIT 0
  match s.commitRefusal with
  | some (code, bad) => (s'.undoXfer).mapResult code bad
  | none => s'.commitDone

/-! ### The drain (spec 03 R64, R65, R69) -/

/-- Transactions counted against the draining epoch. -/
def State.drainTxns (s : State) : List Txn :=
  s.home.txns.filter (fun t => t.epoch == s.rd MAP_EPOCH_DRAINING && t.src != .internal)

/-- Whether a procedure counts against an epoch: a descriptor it has started under it and not committed (spec 03 R64). -/
def Proc.counts (p : Proc) (e : Nat) : Bool :=
  p.epoch == e &&
    match p.phase with
    | .running _ | .saved | .replay | .parked => true
    | .ready => p.fetched
    | _ => false

/-- Requests the device holds before their ordering point (spec 03 R64, R70; 04 R89; 20 R419). -/
def State.heldAll (s : State) : List Held :=
  s.home.blocked ++ s.map.held ++ (s.map.ho.map (fun (h : Nat × Handover) => h.2.queue)).flatten ++
    (s.ports.map (fun (p : Nat × PortSt) => p.2.held ++ (p.2.fences.map (·.2)).flatten)).flatten ++
    (s.pub.regions.map (fun (r : Nat × Region) => r.2.waiting)).flatten

/-- MAP_INFLIGHT.COUNT: what runs, what is held and what was passed on under the draining epoch (spec 03 R64). -/
def State.inflight (s : State) : Nat :=
  if !s.draining then 0
  else
    let e := s.rd MAP_EPOCH_DRAINING
    s.drainTxns.length + s.map.commitSnoops.length + (s.tier.wbs.filter (·.2)).length +
      (s.heldAll.filter (fun h => h.epoch == e)).length + (s.map.passed.filter (fun q => q.2.2 == e)).length +
      s.procs.procs.foldl (fun n q => n + (q.2.filter (fun p => p.counts e)).length) 0

/-- Retires the draining epoch and lets the held requests go on, in arrival order; the old home stops forwarding requests
of extents given under it (spec 03 R64, R69, R73). -/
def State.retireEpoch (s : State) : State :=
  let held := s.map.held
  let old := s.rd MAP_EPOCH_DRAINING
  let ho := s.map.ho.map (fun (h : Nat × Handover) =>
    if h.2.st == HoState.given && h.2.giveEpoch == old then (h.1, { h.2 with gaveUp := true }) else h)
  let moved := s.map.moved
  let s := { s with map := { s.map with draining := none, held := [], ho := ho, moved := [] } }
  let s := moved.foldl State.strange (s.set MAP_STAT_DRAINING 0)
  { s with home := { s.home with blocked := held ++ s.home.blocked } }

/-- Ends one remaining request of an expired drain (spec 03 R65): a read is poisoned, a write or atomic not yet ordered is
discarded, both with POISONED; its extent is tainted. A write already ordered has completed and goes on, as an owner's write-back does
(R67). -/
def State.expireTxn (s : State) (t : Txn) : State :=
  match s.txn t.id with
  | none => s
  | some t =>
    if t.acc.isWback || t.acc.writes && t.running then s else
    let s := s.taint (t.line / 2 ^ 24) true
    if t.acc.writes then (s.discardWrite t.src t.acc stPoisoned).dropTxn t.id
    else (s.answerRead t.src t.acc 0 true).dropTxn t.id

/-- Loses a dirty unit whose write-back an expired drain cut off (spec 06 R135). -/
def State.expireUnit (s : State) (u : Nat) : State :=
  let a := 4096 * u
  let s := (List.range 64).foldl (fun s i => s.poisonLine (a + 64 * i)) s
  let s := s.taint (a / 2 ^ 30) true
  let s := { s with tier := { s.tier with wbs := s.tier.wbs.filter (fun w => w.1 != u) } }
  match Tbl.get? s.tier.t1 (pageNo a) with
  | none => s
  | some p =>
    let d := p.dirty &&& (2 ^ 16 - 1 - 2 ^ unitOf a)
    { s with tier := { s.tier with
      t1 := if d = 0 then Tbl.del s.tier.t1 (pageNo a) else Tbl.put s.tier.t1 (pageNo a) { p with dirty := d } } }

/-- Write-backs of an expired drain and the snoops a commit caused end without an answer (spec 03 R65, 04 R92). -/
def State.expireRest (s : State) : State :=
  let s := ((s.tier.wbs.filter (·.2)).map (·.1)).foldl State.expireUnit s
  s.map.commitSnoops.foldl (fun s q => (s.taint (q.2 / 2 ^ 24) true).snoopExpired q.1 q.2) s

/-! ### Write-backs and the DCD release -/

/-- A dirty unit's write-back has ended: the unit is clean, or stays dirty where it was written meanwhile and is written back again;
a page whose extent leaves T1 is dropped with its last unit (spec 06 R133, R135). -/
def State.cleanUnit (s : State) (u : Nat) : State :=
  let a := 4096 * u
  let forced := s.tier.wbs.any (fun w => w.1 == u && w.2)
  let again := s.tier.wbAgain.contains u
  let s := { s with
    pool := { s.pool with tray := s.pool.cur.copyRun s.pool.tray a 64 }
    tier := { s.tier with
      wbs := if again then s.tier.wbs else s.tier.wbs.filter (fun w => w.1 != u)
      wbAgain := setDel s.tier.wbAgain u } }
  if again then s
  else
    match Tbl.get? s.tier.t1 (pageNo a) with
    | none => s
    | some p =>
      let d := if bit p.dirty (unitOf a) then p.dirty - 2 ^ unitOf a else p.dirty
      if forced && d = 0 then s.dropT1 (pageNo a)
      else { s with tier := { s.tier with t1 := Tbl.put s.tier.t1 (pageNo a) { p with dirty := d } } }

/-- The bank a unit's write-back goes by: the draining map where its extent leaves T1 with a commit (spec 06 R135). -/
def State.wbBank (s : State) (u : Nat) : Bank :=
  if s.tier.wbs.contains (u, true) then (s.map.draining).getD s.map.cur else s.map.cur

/-- Whether a write-back of a unit can reach its trays (spec 06 R150, R468). -/
def State.canReach (s : State) (u : Nat) : Bool := s.placeTakes (s.wbBank u) (4096 * u)

/-- Sends a forced DCD release once no back-invalidation of the extent towards the leaf is outstanding (spec 03 R68). -/
def State.dcdRelease (s : State) (p x : Nat) : State :=
  if s.map.dcdWait.contains (p, x) && !s.map.commitSnoops.any (fun q => q.1 == p && q.2 / 2 ^ 24 == x) then
    let s := { s with map := { s.map with dcdWait := s.map.dcdWait.filter (fun q => q != (p, x)) } }
    s.sendQ p 3 (.dcd false x true)
  else s

end Sys2Proof.Machine
end

