-- ==== Sys2Proof/Machine/Handover.lean ====
section
/-! DEFINITION. Memory requests as commands carry them, requests passed on to another device, and the hand-over of an extent
between devices (spec 03 R70, R72 to R77; 21 R438). -/

namespace Sys2Proof.Machine

/-! ### Requests -/

/-- The run of dwords of a CXL.io write as one masked line (spec 20 R416: byte enables). -/
def ioLine (line addr : Nat) (dws : List (Word × BitVec 4)) : Line × BitVec 64 :=
  let r := dws.foldl
    (fun (acc : Nat × Nat × Nat) w =>
      let a := acc.1
      if a / 64 = line then
        let o := a % 64
        let bes := (List.range 4).foldl (fun n i => if w.2.getLsbD i then n + 2 ^ (o + i) else n) 0
        (a + 4, acc.2.1 + w.1.toNat * 2 ^ (8 * o), acc.2.2 + bes)
      else (a + 4, acc.2)) (addr, 0, 0)
  (BitVec.ofNat 512 r.2.1, BitVec.ofNat 64 r.2.2)

/-- The lines a run of bytes touches. -/
def linesOf (addr len : Nat) : List Nat :=
  if len = 0 then [] else (List.range ((addr + len - 1) / 64 - addr / 64 + 1)).map (fun i => addr / 64 + i)

/-- Fields of slot 1 of an ATOM (spec 05 R120). -/
def atomIncarn (slots : List Slot) : BitVec 16 := BitVec.ofNat 16 (bits (slot1 slots) 15 0)
def atomOp (slots : List Slot) : Nat := bits (slot1 slots) 19 16
def atomSize (slots : List Slot) : Nat := bits (slot1 slots) 21 20
def atomSigned (slots : List Slot) : Bool := bit (slot1 slots) 22
def atomAckTag (slots : List Slot) : Option (BitVec 16) :=
  if bit (slot1 slots) 23 then some (BitVec.ofNat 16 (bits (slot1 slots) 39 24)) else none

/-- The access of an ATOM message. -/
def atomAccess (h : Hdr) (slots : List Slot) : Access :=
  .atomic (BitVec.ofNat 4 (atomOp slots)) (BitVec.ofNat 2 (atomSize slots)) (atomSigned slots) (h.arg.toNat % 64)
    ((slots[1]?).getD 0) ((slots[2]?).getD 0) (some (h.src, atomIncarn slots, h.tag))

/-- The line accesses of a memory request, each with its address on the requester's side (spec 04 R85; 05 R118, R126; 21
R438). A CXL.io request is one access for each line it touches. -/
def cmdPieces : Instr → List (Nat × Src × Access)
  | .rd p h => [(h.arg.toNat, .yd p.val h, .readUnc 0 64)]
  | .wr p h d => [(h.arg.toNat, .yd p.val h, .write d fullMask h.poison)]
  | .wrMask p h mask d => [(h.arg.toNat, .yd p.val h, .write d mask h.poison)]
  | .atom p h slots => [(h.arg.toNat, .yd p.val h, atomAccess h slots)]
  | .memRd p tag addr own _ => [(addr.toNat, .cxlMem p.val tag, if own then .readOwn false else .readShared)]
  | .memInv p tag addr _ => [(addr.toNat, .cxlMem p.val tag, .readOwn true)]
  | .memWr p tag addr d mask poison _ _ => [(addr.toNat, .cxlMem p.val tag, .write d mask poison)]
  | .cxlIoMemWr p addr dws poison _ =>
    (linesOf addr.toNat (4 * dws.length)).map (fun l =>
      let r := ioLine l addr.toNat dws
      (64 * l, .cxlIo p.val 0, .write r.1 r.2 poison))
  | .cxlIoMemRd p tag addr len _ =>
    (linesOf addr.toNat len).map (fun l =>
      let lo := max addr.toNat (64 * l)
      let hi := min (addr.toNat + len) (64 * l + 64)
      (lo, .cxlIo p.val tag, .readUnc (lo % 64) (hi - lo)))
  | .atomicOp p tag addr op size operand swapv _ =>
    [(addr.toNat, .cxlIo p.val tag, .atomic op size false (addr.toNat % 64) operand swapv none)]
  | _ => []

/-- Refuses every access of a request with a status. -/
def State.refuseCmd (s : State) (c : Instr) (st : Byte) : State :=
  (cmdPieces c).foldl (fun s x => s.refuse x.2.1 x.2.2 st) s

/-! ### Requests passed on under the device's own tag -/

/-- The tenant of a requester's port. -/
def State.srcTenant (s : State) (src : Src) : Option Nat := src.port.map (fun p => bdTenant (s.map.cur.bind p))

/-- Notes a request passed on, under its peer and tag, with the epoch it counts against (spec 03 R64). -/
def State.noteProxy (s : State) (e peer : Nat) (tag : BitVec 16) (src : Src) (acc : Access) : State :=
  { s with map := { s.map with
    proxied := s.map.proxied ++ [(peer, tag, src, acc)]
    passed := s.map.passed ++ [(peer, tag, e)] } }

/-- Sends a YD message towards a FEID by a port a route entry names, or by the port whose binding holds the FEID (spec 01 R15, 21
R438). -/
def State.sendVia (s : State) (via : Option Nat) (dst : Feid) (tc : BitVec 4) (tenant : Option Nat) (m : Msg) : State :=
  match via with
  | some p => s.sendW p tc.toNat tenant kindForward m
  | none => s.sendYd dst tc kindForward tenant m

/-- Passes a memory access on to a device over YD, as the device's own request; its answer ends it, uncached (01 R14). -/
def State.proxyYd (s : State) (e : Nat) (via : Option Nat) (dst : Feid) (addr : Nat) (src : Src) (acc : Access) : State :=
  let r := s.freshTag
  let tenant := s.srcTenant src
  let h (a : Nat) (poison : Bool) : Hdr :=
    { poison := poison, dst := dst, src := s.ownFeid, tag := r.1, arg := BitVec.ofNat 64 a }
  let s := r.2.noteProxy e (256 + dst.toNat) r.1 src (acc.forRole .trunk)
  match acc with
  | .write d mask poison =>
    if mask = fullMask then s.sendVia via dst 0 tenant (.yd 0x02 (h (lineAddr addr) poison) (lineSlots d))
    else
      (s.sendVia via dst 0 tenant (.yd 0x04 (h mask.toNat false) [])).sendVia via dst 0 tenant
        (.yd 0x03 (h (lineAddr addr) poison) (lineSlots d))
  | .atomic op size signed _ operand swapv _ =>
    let w := s.rd LIVE_INCARN_INCARN + op.toNat * 2 ^ 16 + size.toNat * 2 ^ 20 + b2n signed * 2 ^ 22
    s.sendVia via dst 0 tenant
      (.yd 0x08 (h addr false) ([BitVec.ofNat 128 w, operand] ++ if op == 7 then [swapv] else []))
  | _ => s.sendVia via dst 0 tenant (.yd 0x01 (h (lineAddr addr) false) [])

/-- Whether a PCIe AtomicOp is one the device executes: FetchAdd and Swap at 32 and 64 bits, CAS also at 128, aligned (05 R126). -/
def cxlAtomicOk (op size addr : Nat) : Bool :=
  ((op == 0 || op == 6) && size < 2 || op == 7 && size < 3) && addr % (atomicBits size / 8) == 0

/-- Puts a message of a passed-on request into a CXL port's queue, noting the YD sender it stands for (spec 04 R89). -/
def State.sendIo (s : State) (port : Nat) (src : Src) (m : Msg) : State :=
  let f : Option Feid := match src with | .yd _ h => some h.src | _ => none
  let s' := s.sendW port (s.cxlTc port) (s.srcTenant src) kindForward m
  match f with
  | none => s'
  | some _ => s'.modPort port (fun x => { x with
      egress := x.egress.dropLast ++ (x.egress.drop (x.egress.length - 1)).map (fun q => { q with by_ := f }) })

/-- Passes a memory access on to a CXL port as CXL.io (PRESUMED: assumption log 13); an atomic that PCIe has no AtomicOp for is
denied (DESIGN CHOICE, assumption log 153). -/
def State.proxyIo (s : State) (e port addr : Nat) (src : Src) (acc : Access) : State :=
  let r := s.freshTag
  match acc with
  | .write d mask poison =>
    let s := (maskRuns mask).foldl
      (fun s q => s.sendIo port src (.ioMemWr (lineAddr addr + q.1) (((lineBytes d).drop q.1).take q.2) poison)) r.2
    s.answerWrite src acc stOk 0 false
  | .atomic op size _ _ operand swapv _ =>
    if !cxlAtomicOk op.toNat size.toNat addr then s.refuse src acc stDenied
    else
      let s := r.2.noteProxy e port r.1 src acc
      if op == 0 then s.sendIo port src (.ioFetchAdd r.1 addr (BitVec.ofNat 64 (operand.toNat % 2 ^ atomicBits size.toNat)))
      else s.sendIo port src (.ioAtomic r.1 addr op size operand swapv)
  | .readUnc off len => (r.2.noteProxy e port r.1 src acc).sendIo port src (.ioMemRd r.1 (lineAddr addr + off) len)
  | _ => (r.2.noteProxy e port r.1 src (acc.forRole .trunk)).sendIo port src (.ioMemRd r.1 (lineAddr addr) 64)

/-- The strict queue of a YD message, where R305 gives it one. -/
def strictQ (opc : Byte) (h : Hdr) : Option Nat :=
  if opc = 0x18 || opc = 0x19 || opc = 0x38 then some 2
  else if opc = 0x30 || ((opc = 0x0C || opc = 0x0D) && 0x10 ≤ bits h.arg.toNat 7 0) then some 1
  else none

/-- Passes a YD message on, unchanged, by a named port or by the port a FEID's binding holds (spec 01 R15; 13 R305, R306, R309). -/
def State.forwardYd (s : State) (ingress : Nat) (opc : Byte) (h : Hdr) (slots : List Slot) (via : Option Nat := none) : State :=
  match via.orElse (fun _ => s.portOfFeid h.dst) with
  | none => s
  | some p =>
    match strictQ opc h with
    | some q => s.sendQ p q (.yd opc h slots)
    | none => s.sendW p h.tc.toNat (some (bdTenant (s.map.cur.bind ingress))) kindForward (.yd opc h slots)

/-- Key of a request passed on from a sender to a device. -/
def passKey (src dst : Feid) : Nat := 2 ^ 32 + dst.toNat * 2 ^ 16 + src.toNat

/-- Notes a YD request of another sender passed on to a FEID, with the opcode of its answer and its epoch, until that answer comes
back (spec 15 R341; 03 R64). -/
def State.noteTransit (s : State) (e : Nat) (dst : Feid) (answer : Byte) (h : Hdr) : State :=
  let k := passKey h.src dst
  { s with map := { s.map with
    transit := s.map.transit.filter (fun q => !(q.1 == dst && q.2.2.src == h.src && q.2.2.tag == h.tag)) ++ [(dst, answer, h)]
    passed := s.map.passed.filter (fun q => !(q.1 == k && q.2.1 == h.tag)) ++ [(k, h.tag, e)] } }

/-- The answer of a request passed on comes back. -/
def State.endTransit (s : State) (h : Hdr) : State :=
  let k := passKey h.dst h.src
  { s with map := { s.map with
    transit := s.map.transit.filter (fun q => !(q.1 == h.src && q.2.2.src == h.dst && q.2.2.tag == h.tag))
    passed := s.map.passed.filter (fun q => !(q.1 == k && q.2.1 == h.tag)) } }

/-- Passes a request on to another device: a YD request keeps its source, any other becomes the device's own. -/
def State.passOn (s : State) (e : Nat) (dst : Feid) (c : Instr) (via : Option Nat := none) : State :=
  match c with
  | .rd p h => (s.noteTransit e dst 0x06 h).forwardYd p.val 0x01 { h with dst := dst } [] via
  | .wr p h d => (s.noteTransit e dst 0x06 h).forwardYd p.val 0x02 { h with dst := dst } (lineSlots d) via
  | .wrMask p h mask d =>
    ((s.noteTransit e dst 0x06 h).forwardYd p.val 0x04 { h with dst := dst, arg := mask } [] via).forwardYd p.val 0x03
      { h with dst := dst } (lineSlots d) via
  | .atom p h slots => (s.noteTransit e dst 0x09 h).forwardYd p.val 0x08 { h with dst := dst } slots via
  | c => (cmdPieces c).foldl (fun s x => s.proxyYd e via dst x.1 x.2.1 x.2.2) s

/-- The request a response answers, taken off the list. -/
def State.takeProxy (s : State) (peer : Nat) (tag : BitVec 16) : Option ((Src × Access) × State) :=
  match s.map.proxied.find? (fun q => q.1 == peer && q.2.1 == tag) with
  | none => none
  | some q =>
    some (q.2.2, { s with map := { s.map with
      proxied := s.map.proxied.filter (fun r => !(r.1 == peer && r.2.1 == tag))
      passed := s.map.passed.filter (fun r => !(r.1 == peer && r.2.1 == tag)) } })

/-! ### Hand-over (spec 03 R72 to R77) -/

abbrev hoGive : BitVec 8 := 1
abbrev hoTake : BitVec 8 := 2
abbrev hoCommit : BitVec 8 := 3
abbrev hoAck : BitVec 8 := 4

/-- Sends a HANDOFF message in Q1 and notes it as the side's last. -/
def State.sendHo (s : State) (x : Nat) (h : Handover) (kind : BitVec 8) (dst : Feid) (m : HandMsg) : State :=
  (s.setHo x (some { h with last := some (kind, { m with src := dst }) })).sendYdQ dst 1
    (.handoff kind dst { m with src := s.ownFeid, queued := BitVec.ofNat 32 h.queue.length })

/-- The extent a transfer ID names among hand-overs. -/
def State.hoOf (s : State) (xfer : BitVec 32) : Option (Nat × Handover) := s.map.ho.find? (fun h => h.2.xfer == xfer)

/-- PBR IDs of the holders of a directory entry, and whether there are more than eight. -/
def State.holderIds (s : State) (e : DirEntry) : List Nat × Bool :=
  let ids := (s.holders e).map (fun p => bdPbr (s.map.cur.bind p))
  (ids.take 8, 8 < ids.length)

/-- Eight 12-bit IDs in bits [127:32], 0xFFF for an unused place (spec 03 R77). -/
def idField (ids : List Nat) : Nat := (List.range 8).foldl (fun n i => n + (ids[i]?).getD 0xFFF * 2 ^ (32 + 12 * i)) 0

/-- The hand-over summary of an extent: its directory records, then its replica records (spec 03 R77). -/
def State.summaryOf (s : State) (x : Nat) : List Nat :=
  let dirs := (s.home.dir.filter (fun e => e.1 / 2 ^ 24 == x)).map (fun e =>
    let r := s.holderIds e.2
    let st := match e.2.st with | .s => 1 | .e => 2 | .m => 3
    e.1 % 2 ^ 24 + st * 2 ^ 24 + b2n r.2 * 2 ^ 26 + idField r.1)
  let dev (f : Nat) : Nat :=
    match s.portOfFeid (BitVec.ofNat 16 f) with
    | some p => (s.port p).partnerDev.toNat
    | none => 0xFFF
  let reps := (s.home.repl.peers.filter (fun r => r.1 / 2 ^ 18 == x)).map (fun r =>
    (List.range ((r.2.length + 7) / 8)).map (fun i => r.1 % 2 ^ 18 + idField (((r.2.drop (8 * i)).take 8).map dev)))
  dirs ++ reps.flatten

/-- Whether the old home's admitted work on an extent has ended (spec 03 R72). -/
def State.giveReadyFor (s : State) (x : Nat) : Bool :=
  !s.home.txns.any (fun t => t.line / 2 ^ 24 == x) && !s.tier.wbs.any (fun w => w.1 / 2 ^ 18 == x) &&
    !s.tier.t1.any (fun p => p.1 / 2 ^ 14 == x && p.2.dirty != 0)

/-- The line of a summary an RD of the other side names: the GIVE in force gave its address (spec 03 R73, R77). -/
def State.summaryLine (s : State) (h : Hdr) : Option Line :=
  s.map.ho.findSome? (fun (q : Nat × Handover) =>
    match q.2.st, q.2.last with
    | .giving, some (1, m) =>
      let o := h.arg.toNat - m.sumAddr.toNat
      if h.src == q.2.feid && m.sumAddr.toNat ≤ h.arg.toNat && o < m.sumLen.toNat && o % 64 == 0 then
        some (BitVec.ofNat 512 (((q.2.summary.drop (o / 16)).take 4).foldr (fun v n => v + 2 ^ 128 * n) 0))
      else none
    | _, _ => none)

/-- Sends GIVE once the admitted work has ended; the summary lies in HBM at an address the spec does not give. -/
def State.sendGive (s : State) (x : Nat) (h : Handover) : State :=
  let sum := s.summaryOf x
  let r := s.fresh
  let s := { r.2 with tier := { r.2.tier with t1 := r.2.tier.t1.filter (fun p => p.1 / 2 ^ 14 != x) } }
  let dst := h.feid
  s.sendHo x { h with summary := sum } hoGive dst
    { src := dst, xfer := h.xfer, sumAddr := BitVec.ofNat 64 r.1, sumLen := BitVec.ofNat 32 (16 * sum.length) }

/-- Resends a side's last message (spec 03 R74). -/
def State.resendHo (s : State) (h : Handover) : State :=
  match h.last with
  | none => s
  | some (kind, m) =>
    s.sendYdQ m.src 1 (.handoff kind m.src { m with src := s.ownFeid, queued := BitVec.ofNat 32 h.queue.length })

/-- Releases a side's queue to be served. -/
def State.serveQueue (s : State) (x : Nat) (h : Handover) (st : HoState) : State :=
  let s := s.setHo x (some { h with st := st, queue := [] })
  { s with home := { s.home with blocked := h.queue ++ s.home.blocked } }

/-- Completes a side's queue HANDOFF_FAILED (spec 03 R76). -/
def State.failQueue (s : State) (x : Nat) (h : Handover) (st : HoState) : State :=
  h.queue.foldl (fun s c => s.refuseCmd c.cmd stHandoffFailed) (s.setHo x (some { h with st := st, queue := [], gaveUp := true }))

/-- The vector of every LEAF port of the cell, for a line marked ALL. -/
def State.allLeaves (s : State) : Nat :=
  allPorts.foldl (fun n p => if s.role p == .leaf && s.linked p && !s.ydUp p then n ||| 2 ^ sharerBit p else n) 0

/-- Makes a handed-over line's entry, or keeps it until its set has room (spec 03 R73, 04 R82). -/
def State.adoptOrAlloc (s : State) (l : Nat) (st : DirState) (owner sharers : Nat) : State :=
  match s.fullSet l with
  | none => s.allocDir l st owner sharers
  | some _ => { s with home := { s.home with
      adopt := Tbl.put s.home.adopt l { st := st, owner := owner, sharers := sharers } } }

/-- Installs one record of a summary at the new home (spec 03 R73, R77). -/
def State.installRecord (x : Nat) (s : State) (r : Nat) : State :=
  let st := bits r 25 24
  let ids := ((List.range 8).map (fun i => bits r (43 + 12 * i) (32 + 12 * i))).filter (· != 0xFFF)
  if st = 0 then
    let page := x * 2 ^ 18 + bits r 17 0
    let fs := ids.filterMap (fun d => (s.ports.find? (fun p => p.2.initRx && p.2.partnerDev.toNat == d)).map
      (fun p => s.rd PORT_LSTAT_PARTNER_FEID p.1))
    if fs.isEmpty then s
    else s.mapRepl (fun rp => { rp with peers := Tbl.put rp.peers page (fs.foldl setAdd (Tbl.get rp.peers page [])) })
  else
    let l := x * 2 ^ 24 + bits r 23 0
    let ports := ids.filterMap s.portOfPbr
    if bit r 26 then s.adoptOrAlloc l .s 0 s.allLeaves
    else if st = 1 then s.adoptOrAlloc l .s 0 (ports.foldl (fun n p => n ||| 2 ^ sharerBit p) 0)
    else match ports with
      | [] => s
      | p :: _ => s.adoptOrAlloc l (if st = 2 then .e else .m) p 0

/-- The new home becomes OWNED with the summary's directory state (spec 03 R73). -/
def State.becomeOwned (s : State) (x : Nat) (h : Handover) : State :=
  (h.summary.foldl (State.installRecord x) s).serveQueue x { h with summary := [] } .owned

/-- What the old home forgets of an extent it has given away: directory entries and replicas (spec 03 R73). -/
def State.forgetExtent (s : State) (x : Nat) : State :=
  let s := { s with home := { s.home with dir := s.home.dir.filter (fun e => e.1 / 2 ^ 24 != x) } }
  s.mapRepl (fun r => { r with
    local_ := r.local_.filter (fun p => p / 2 ^ 18 != x)
    peers := r.peers.filter (fun p => p.1 / 2 ^ 18 != x) })

/-- A GIVE arrives at the new home (spec 03 R73, R74, R76): it reads the summary, resends TAKE, or fails. -/
def State.recvGive (s : State) (m : HandMsg) : State :=
  match s.hoOf m.xfer with
  | none => s
  | some (x, h) =>
    match h.st with
    | .awaiting =>
      if m.status != 0 then s.failQueue x h .failed
      else if h.last.isSome then s
      else
        let base := s.home.nextId
        let n := (m.sumLen.toNat + 63) / 64
        let s := { s with home := { s.home with nextId := base + n } }
        let s := s.setHo x (some { h with last := some (hoGive, m), summary := [], sumBase := base })
        (List.range n).foldl
          (fun s i => s.sendYd m.src 0 kindReplica none
            (.yd 0x01 (s.ownHdr m.src (BitVec.ofNat 16 (base + i)) (m.sumAddr.toNat + 64 * i)) [])) s
    | .taking => if m.status != 0 then s.failQueue x h .failed else s.resendHo h
    | _ => s

/-- A line of the summary arrives at the new home. -/
def State.takeSummary (s : State) (x : Nat) (h : Handover) (m : HandMsg) (i : Nat) (d : Line) : State :=
  let left := m.sumLen.toNat / 16 - 4 * i
  s.setHo x (some { h with summary := h.summary ++ ((lineSlots d).take left).map (·.toNat) })

/-- The summary is stored: TAKING, and TAKE is sent (spec 03 R73). -/
def State.summaryStored (s : State) (x : Nat) (h : Handover) : State :=
  match h.st, h.last with
  | .awaiting, some (_, m) =>
    s.sendHo x { h with st := .taking } hoTake m.src { src := m.src, xfer := h.xfer }
  | _, _ => s

/-- A TAKE arrives at the old home (spec 03 R73, R74, R76). -/
def State.recvTake (s : State) (m : HandMsg) : State :=
  match s.hoOf m.xfer with
  | none => s
  | some (x, h) =>
    match h.st with
    | .giving =>
      if h.last.isSome then s.sendHo x { h with st := .givenUnconfirmed } hoCommit m.src { src := m.src, xfer := h.xfer }
      else s
    | .givenUnconfirmed => s.resendHo h
    | .owned =>
      if h.gaveUp then
        s.sendYdQ m.src 1 (.handoff hoGive m.src { src := s.ownFeid, status := stHandoffFailed, xfer := h.xfer })
      else s
    | _ => s

/-- A COMMIT arrives at the new home (spec 03 R73, R74). -/
def State.recvCommit (s : State) (m : HandMsg) : State :=
  match s.hoOf m.xfer with
  | none => s
  | some (x, h) =>
    let ack : Msg := .handoff hoAck m.src { src := s.ownFeid, xfer := h.xfer }
    match h.st with
    | .taking => (s.becomeOwned x { h with last := none }).sendYdQ m.src 1 ack
    | .owned => if h.gaveUp then s else s.sendYdQ m.src 1 ack
    | _ => s

/-- A COMMIT_ACK arrives at the old home: GIVEN, and its queue is forwarded (spec 03 R73). -/
def State.recvAck (s : State) (m : HandMsg) : State :=
  match s.hoOf m.xfer with
  | none => s
  | some (x, h) =>
    match h.st with
    | .givenUnconfirmed =>
      let s := (s.forgetExtent x).setHo x (some { h with
        st := .given
        queue := []
        last := some (hoAck, { m with src := m.src })
        giveEpoch := s.epoch
        gaveUp := false })
      h.queue.foldl (fun s c => s.passOn c.epoch m.src c.cmd) s
    | _ => s

/-- The start limit of a hand-over expires (spec 03 R76): GIVING without TAKE returns to OWNED and serves its queue;
AWAITING without GIVE fails. -/
def State.hoLimit (s : State) (x : Nat) : State :=
  match s.ho x with
  | none => s
  | some h =>
    match h.st with
    | .giving => s.serveQueue x { h with gaveUp := true, last := none } .owned
    | .awaiting => if h.last.isNone then s.failQueue x h .failed else s
    | _ => s

/-- A verdict against a device during its hand-overs (spec 03 R75). -/
def State.hoVerdict (s : State) (dev : DevId) : State :=
  (s.map.ho.filter (fun h => h.2.peer == dev)).foldl
    (fun s q =>
      match q.2.st with
      | .giving => s.serveQueue q.1 { q.2 with gaveUp := true, last := none } .owned
      | .givenUnconfirmed => (s.taint q.1 true).serveQueue q.1 { q.2 with last := none } .owned
      | .taking => s.becomeOwned q.1 { q.2 with last := none }
      | .awaiting => s.failQueue q.1 q.2 .failed
      | _ => s) s

/-- HO_STATE of an extent (spec 03). -/
def State.hoState (s : State) (x : Nat) : Nat :=
  match s.ho x with
  | none => 0
  | some h =>
    match h.st with
    | .owned => 0
    | .giving => 1
    | .givenUnconfirmed => 2
    | .given => 3
    | .awaiting => 4
    | .taking => 5
    | .failed => 6

end Sys2Proof.Machine
end

