-- ==== Sys2Proof/Machine/Tiers.lean ====
section
/-! DEFINITION. The tier manager: promotion, write-backs, packing, expansion, prefetch schedules, rebuild, the loss of an HBM
stack (spec 06; 04 R83). -/

namespace Sys2Proof.Machine

/-! ### Promotion and moves (spec 06 R131, R132) -/

/-- Whether a page may be promoted: T2 or ZERO, T1_EN, no move running, its home here. -/
def State.promotable (s : State) (p : Nat) : Bool :=
  let x := s.extentAt s.epoch (65536 * p)
  exValid x && s.pol TIER_POL_A_T1_EN x == 1 && (Tbl.get? s.tier.t1 p).isNone && (Tbl.get? s.tier.moves p).isNone &&
    s.hoState (p / 2 ^ 14) == 0 && (s.tierOf x (65536 * p) == .t2 || s.tierOf x (65536 * p) == .zero)

/-- Reads the lines of a tier page at the home for a move: what leaves own of it comes to memory (spec 06 R132). -/
def State.pullPage (s : State) (p : Nat) : State := s.pull 2 (1024 * p) 1024

/-- Whether such reads of a tier page still run. -/
def State.pagePulled (s : State) (p : Nat) : Bool := s.pulling (1024 * p) 1024

/-- Whether a move can read a page where it lies: a ZERO page needs no tray (spec 06 R137, R468). -/
def State.pageReads (s : State) (e p : Nat) : Bool :=
  let b := s.bank e
  s.tierOf (b.extent (p / 16384)) (65536 * p) == .zero || s.placeReads b (65536 * p)

/-- The 10 ms window ends: pages read often enough start their promotion, and the window's counts start again. -/
def State.windowEnd (s : State) : State :=
  let hot := s.tier.winReads.filter (fun (r : Nat × Nat) =>
    s.pol TIER_POL_B_PROMOTE_READS (s.extentAt s.epoch (65536 * r.1)) ≤ r.2 && s.promotable r.1)
  let go := s.flag TIER_CTL_PROMOTE_EN && s.enabled .tier
  let moves := if go then hot.foldl (fun m (r : Nat × Nat) => Tbl.put m r.1 (MoveKind.promote, s.epoch)) s.tier.moves
    else s.tier.moves
  let s := { s with tier := { s.tier with winReads := [], moves := moves } }
  if go then hot.foldl (fun s r => s.pullPage r.1) s else s

/-- Invalidates the replicas of a page's sixteen 4 KiB pages; answers whether none is left (spec 06 R132, 04 R98). -/
def State.clearReplicas (s : State) (p : Nat) : State × Bool :=
  let s := (List.range 16).foldl (fun s u => s.invReplicas (16 * p + u)) s
  (s, (List.range 16).all (fun u => (Tbl.get s.home.repl.invWait (16 * p + u) []).isEmpty))

/-- Drops a page's move. -/
def State.endMove (s : State) (p : Nat) : State := { s with tier := { s.tier with moves := Tbl.del s.tier.moves p } }

/-- The last line of a promotion is copied: the placement switches, where T1 has room (spec 06 R131, R132); one whose tray cannot be
read installs nothing (R468). -/
def State.moveDone (s : State) (p : Nat) : State :=
  match Tbl.get? s.tier.moves p with
  | some (.promote, e) =>
    if s.pagePulled p then s
    else if !s.pageReads e p then s.endMove p
    else
      let c := s.clearReplicas p
      if !c.2 then c.1
      else
        let r := c.1.putT1 (s.extentAt e (65536 * p)) p
        if r.2 then (r.1.endMove p).count { blk := .tier, code := 0x01, addr := some (65536 * p) } else r.1
  | _ => s

/-! ### Write-backs (spec 06 R133, R150, R468) -/

/-- The units a unit is written back with: the dirty ones of its stripe in a CODED extent, itself in any other (spec 06 R150). -/
def State.wbGroup (s : State) (u : Nat) : List Nat :=
  if exRedund ((s.wbBank u).extent (u / 2 ^ 18)) == 2 then
    ((List.range 8).map (fun i => u / 8 * 8 + i)).filter (fun v => s.isDirty (4096 * v))
  else [u]

/-- A unit has stayed dirty for WB_MS: its write-back starts. -/
def State.startWb (s : State) (u : Nat) : State :=
  if s.isDirty (4096 * u) then
    let new := (s.wbGroup u).filter (fun v => !s.tier.wbs.any (fun (w : Nat × Bool) => w.1 == v))
    { s with tier := { s.tier with wbs := s.tier.wbs ++ new.map (fun v => (v, false)) } }
  else s

/-- A write-back's tray writes have completed; one whose tray cannot be reached is kept dirty and tried again. -/
def State.wbDone (s : State) (u : Nat) : State :=
  match s.tier.wbs.find? (fun (w : Nat × Bool) => w.1 == u) with
  | none => s
  | some w =>
    if s.canReach u then
      ((s.wbGroup u).filter (fun v => s.tier.wbs.any (fun (x : Nat × Bool) => x.1 == v))).foldl State.cleanUnit s
    else if w.2 then s
    else { s with tier := { s.tier with wbs := s.tier.wbs.filter (fun (v : Nat × Bool) => v.1 != u) } }

/-! ### Packing, T4, expansion (spec 06 R138 to R141) -/

/-- A page has not been accessed for COLD_S seconds: its packing starts. -/
def State.startPack (s : State) (p : Nat) : State :=
  if s.packable p then
    ({ s with tier := { s.tier with moves := Tbl.put s.tier.moves p (.pack, s.epoch) } }).pullPage p
  else s

/-- The packed image is written. -/
def State.packDone (s : State) (p : Nat) : State :=
  match Tbl.get? s.tier.moves p with
  | some (.pack, e) =>
    if s.pagePulled p then s
    else if !s.pageReads e p then s.endMove p
    else
    let c := (s.endMove p).clearReplicas p
    if !c.2 then { c.1 with tier := { c.1.tier with moves := s.tier.moves } } else c.1.packPage p
  | _ => s

/-- A T3 page has not been accessed for 8 × COLD_S seconds: its copy to the T4 window starts. -/
def State.startT4 (s : State) (p : Nat) : State :=
  let x := s.extentAt s.epoch (65536 * p)
  if exValid x && s.paged x && s.pol TIER_POL_A_T4_EN x == 1 && s.rd TIER_T4_CFG_SIZE_GIB != 0 &&
      (s.pageEnt p).tier == .t3 && (Tbl.get? s.tier.moves p).isNone then
    { s with tier := { s.tier with moves := Tbl.put s.tier.moves p (.toT4, s.epoch) } }
  else s

/-- The copy has ended: TIER becomes T4, where the window has free frames. -/
def State.t4Done (s : State) (p : Nat) : State :=
  match Tbl.get? s.tier.moves p with
  | some (.toT4, _) =>
    let e := s.pageEnt p
    match s.freeT4 e.len with
    | none => s.endMove p
    | some f => (s.endMove p).setPageEnt p { tier := .t4, frame := f, len := e.len }
  | _ => s

/-- Requests that wait on a page complete BUSY_RETRY; CXL.mem requests keep waiting (spec 06 R141). -/
def State.busyWaiters (s : State) (p : Nat) : State :=
  (s.home.txns.filter (fun t => t.phase == .expand && t.line / 1024 == p)).foldl
    (fun s t =>
      match t.src with
      | .cxlMem _ _ => s
      | _ => if t.acc.writes then s.finishRefused t stBusyRetry else (s.refuse t.src t.acc stBusyRetry).dropTxn t.id) s

/-- The accesses that wait on a page have met the lack of a frame (spec 06 R141). -/
def State.noteNoFrame (s : State) (p : Nat) : State :=
  { s with home := { s.home with txns := s.home.txns.map (fun (t : Txn) =>
    if t.phase == .expand && t.line / 1024 == p then { t with noFrame := true } else t) } }

/-- A page's expansion has ended: it takes a T2 frame, and enters T1 under PROMOTE_T3_TO_T1 (spec 06 R140, R141). -/
def State.expandDone (s : State) (p : Nat) : State :=
  match Tbl.get? s.tier.moves p with
  | some (k, e) =>
    let x := s.extentAt e (65536 * p)
    let toT1 := k == .expandT1
    if !(toT1 || k == .expandT2) || s.keyless ((s.bank e).tenantOf x) || s.tier.t4Reads.any (fun q => q.1 == p) then s
    else
      let r := s.takeFrame ((s.home.txns.any (fun t => t.phase == .expand && t.line / 1024 == p && t.noFrame)))
      match r.2 with
      | none => (r.1.noteNoFrame p).busyWaiters p
      | some f =>
        let s1 := (r.1.setPageEnt p { tier := .t2, frame := f, len := 16 }).count
          { blk := .tier, code := 0x04, addr := some (65536 * p) }
        if toT1 then
          let q := s1.putT1 x p
          q.1.endMove p
        else s1.endMove p
  | none => s

/-- A T4 read has ended: an error or poison poisons every line of the page (spec 06 R139). -/
def State.t4ReadDone (s : State) (p : Nat) (ok : Bool) : State :=
  let s := { s with tier := { s.tier with t4Reads := s.tier.t4Reads.filter (fun q => q.1 != p) } }
  if ok then s else (List.range 1024).foldl (fun s i => s.poisonLine (65536 * p + 64 * i)) s

/-! ### Prefetch schedules (spec 06 R142 to R147, R155) -/

/-- Key of a schedule. -/
def schedKey (x sched : Nat) : Nat := 64 * x + sched

/-- A little-endian number in pool memory under the current map, as the device reads it. -/
def State.poolNum (s : State) (a n : Nat) : Nat :=
  ofBytes ((List.range n).map (fun i =>
    let b := a + i
    byteOf (s.readPool s.map.cur (b / 64 * 64)).data.toNat (b % 64)))

/-- Whether a context may access an address under the current map (spec 03 R57). -/
def State.ctxMayAt (s : State) (x a : Nat) : Bool :=
  a < 2 ^ 48 && s.map.cur.ctxMay (s.ctxTenant x) (s.map.cur.extent (a / 2 ^ 30))

/-- Pages of a step's list, in order. -/
def State.stepPages (s : State) (c : Sched) (n : Nat) : List Nat :=
  let a := c.image + 32 + 16 * n
  let count := s.poolNum (a + 4) 2 % 4096
  let list := s.poolNum (a + 8) 8
  ((List.range count).map (fun i =>
    let e := s.poolNum (list + 8 * i) 8
    (List.range (bits e 39 32 + 1)).map (fun k => bits e 31 0 + k))).flatten

/-- DEADLINE_NS of a step. -/
def State.stepDeadline (s : State) (c : Sched) (n : Nat) : Nat := s.poolNum (c.image + 32 + 16 * n) 4

/-- Pages staged or pinned by schedules. -/
def State.pinnedPages (s : State) : List Nat :=
  let staged := (s.tier.scheds.map (fun (c : Nat × Sched) => c.2.staging.map (·.2))).flatten
  ((s.tier.t1.filter (fun (p : Nat × T1Page) => !p.2.pins.isEmpty)).map (·.1)).foldl setAdd (staged.foldl setAdd [])

/-- Sets a schedule. -/
def State.setSched (s : State) (k : Nat) (c : Sched) : State :=
  { s with tier := { s.tier with scheds := Tbl.put s.tier.scheds k c } }

/-- Pins a page of T1 for a step. -/
def State.pinPage (s : State) (k p n : Nat) : State :=
  match Tbl.get? s.tier.t1 p with
  | none => s
  | some q =>
    let pin := (k / 64, k % 64, n)
    if q.pins.contains pin then s
    else { s with tier := { s.tier with t1 := Tbl.put s.tier.t1 p { q with pins := pin :: q.pins } } }

/-- Issues one page of a step: checks it, pins it where it is in T1, else stages it, or lets it wait at PREF_LIMIT. -/
def State.issuePage (s : State) (k n p : Nat) : State :=
  match Tbl.get? s.tier.scheds k with
  | none => s
  | some c =>
    let x := s.extentAt s.epoch (65536 * p)
    if !s.enabled .pref then s
    else if !s.ctxMayAt (k / 64) (65536 * p) then s.setSched k { c with issued := Tbl.put c.issued n 1 }
    else if (Tbl.get? s.tier.t1 p).isSome then s.pinPage k p n
    else if s.pol TIER_POL_A_T1_EN x == 0 then s
    else if !c.waitIssue.isEmpty || s.rd PREF_LIMIT_GIB * 16384 ≤ s.pinnedPages.length then s.setSched k { c with waitIssue := c.waitIssue ++ [(n, p)] }
    else
      let s := s.setSched k { c with staging := c.staging ++ [(n, p)] }
      match Tbl.get? s.tier.moves p with
      | some _ => s
      | none =>
        ({ s with tier := { s.tier with moves := Tbl.put s.tier.moves p (.stage (k / 64) (k % 64), s.epoch) } }).pullPage p

/-- Issues one step that has not been issued. -/
def State.issueStep (k : Nat) (s : State) (n : Nat) : State :=
  match Tbl.get? s.tier.scheds k with
  | none => s
  | some c =>
    if (Tbl.get? c.issued n).isSome then s
    else
      let ps := s.stepPages c n
      ps.foldl (fun s p => s.issuePage k n p) (s.setSched k { c with issued := Tbl.put c.issued n 0 })

/-- The steps from n to n + K. -/
def Sched.window (c : Sched) (n : Nat) : List Nat :=
  ((List.range (c.look + 1)).map (fun i => if c.loop then (n + i) % c.steps else n + i)).filter (· < c.steps)

/-- Ends the pins and staging of a schedule's steps that a test selects. -/
def State.dropSteps (s : State) (k : Nat) (f : Nat → Bool) : State :=
  match Tbl.get? s.tier.scheds k with
  | none => s
  | some c =>
    let gone := (c.staging.filter (fun (q : Nat × Nat) => f q.1)).map (·.2)
    let keep := c.staging.filter (fun (q : Nat × Nat) => !f q.1)
    let s := s.setSched k { c with
      staging := keep
      waitIssue := c.waitIssue.filter (fun (q : Nat × Nat) => !f q.1)
      issued := c.issued.filter (fun (q : Nat × Nat) => !f q.1) }
    let still (p : Nat) : Bool := s.tier.scheds.any (fun (d : Nat × Sched) => d.2.staging.any (fun q => q.2 == p))
    let isStage (m : MoveKind) : Bool := match m with | .stage _ _ => true | _ => false
    { s with tier := { s.tier with
      moves := s.tier.moves.filter (fun (m : Nat × MoveKind × Nat) => !(gone.contains m.1 && isStage m.2.1 && !still m.1))
      t1 := s.tier.t1.map (fun (p : Nat × T1Page) =>
        (p.1, { p.2 with pins := p.2.pins.filter (fun (q : Nat × Nat × Nat) =>
          !(q.1 == k / 64 && q.2.1 == k % 64 && f q.2.2)) })) } }

/-- Writes the step record of the step the clock leaves (spec 06 R147). -/
def State.stepRecord (s : State) (k : Nat) (c : Sched) (n : Nat) : State :=
  if !c.rec_ then s
  else
    let denied := Tbl.get c.issued n 0 == 1
    let ts := if s.rd SEC_PROFILE_PROFILE == 1 then s.ts.toNat / 1024 * 1024 else s.ts.toNat
    let r := k % 64 + n * 2 ^ 8 + b2n c.fallback * 2 ^ 20 + b2n denied * 2 ^ 21 + (c.late % 2 ^ 32) * 2 ^ 32 + ts * 2 ^ 64
    let a := c.recAddr + 16 * (c.head % 2 ^ c.recLog2)
    let s := s.setSched k { c with head := c.head + 1 }
    if s.ctxMayAt (k / 64) a then s.homeWrite a (bytesOf 16 r) (.engine 2) else s

/-- The current step's pages that are not in T1 are late: they count, and their staging ends unless CONT (spec 06 R146). -/
def State.deadline (s : State) (k : Nat) : State :=
  match Tbl.get? s.tier.scheds k with
  | none => s
  | some c =>
    match c.clock with
    | none => s
    | some n =>
      if c.deadlinePast then s
      else
        let late := (((c.staging ++ c.waitIssue).filter (fun (q : Nat × Nat) => q.1 == n)).map (·.2)).foldl setAdd []
        let s := late.foldl (fun s p => s.count
          { blk := .pref, code := 0x01, addr := some (65536 * p), ctx := some (k / 64) }) s
        let s := s.setSched k { c with
          deadlinePast := true
          late := c.late + late.length
          fallback := c.fallback || !late.isEmpty }
        if c.cont || late.isEmpty then s
        else
          match Tbl.get? s.tier.scheds k with
          | none => s
          | some d =>
            let gone := (d.staging.filter (fun (q : Nat × Nat) => q.1 == n)).map (·.2)
            let keep := d.staging.filter (fun (q : Nat × Nat) => q.1 != n)
            let s := s.setSched k { d with staging := keep, waitIssue := d.waitIssue.filter (fun (q : Nat × Nat) => q.1 != n) }
            let still (p : Nat) : Bool := s.tier.scheds.any (fun (e : Nat × Sched) => e.2.staging.any (fun q => q.2 == p))
            let isStage (m : MoveKind) : Bool := match m with | .stage _ _ => true | _ => false
            { s with tier := { s.tier with moves := s.tier.moves.filter (fun (m : Nat × MoveKind × Nat) =>
              !(gone.contains m.1 && isStage m.2.1 && !still m.1)) } }

/-- Issues pages that waited at PREF_LIMIT, in order. -/
def State.issueWaiting (s : State) : State :=
  (s.tier.scheds.map (·.1)).foldl
    (fun s k =>
      match Tbl.get? s.tier.scheds k with
      | none => s
      | some c =>
        c.waitIssue.foldl (fun s q => s.issuePage k q.1 q.2) (s.setSched k { c with waitIssue := [] })) s

/-- Moves a schedule's clock to a step, or stops it (spec 06 R143 to R147): only the step the clock leaves ends its pins. -/
def State.clockTo (s : State) (k : Nat) (target : Option Nat) : State :=
  match Tbl.get? s.tier.scheds k with
  | none => s
  | some c =>
    let s := match c.clock with | none => s | some n => s.stepRecord k c n
    match Tbl.get? s.tier.scheds k with
    | none => s
    | some c =>
      let fresh : Sched := { c with clock := target, deadlinePast := false, late := 0, fallback := false }
      match target with
      | none => (s.setSched k fresh).dropSteps k (fun _ => true)
      | some n =>
        let s := ((s.setSched k fresh).dropSteps k (fun m => some m == c.clock && m != n)).issueWaiting
        let s : State := (c.window n).foldl (State.issueStep k) s
        let due : Nat := s.stepDeadline c n
        if due = 0 then s.deadline k else s

/-- Counts PREF_BAD_STEP of a context. -/
def State.badStep (s : State) (x : Nat) : State := s.count { blk := .pref, code := 0x02, ctx := some x }

/-- CTX_STEP with SET = 0, or a STEP descriptor (spec 06 R143, 10 R253). -/
def State.runAdvance (s : State) (x sched : Nat) : State :=
  match Tbl.get? s.tier.scheds (schedKey x sched) with
  | none => s.badStep x
  | some c =>
    let next := match c.clock with | none => 0 | some n => n + 1
    if next < c.steps then s.clockTo (schedKey x sched) (some next)
    else s.clockTo (schedKey x sched) (if c.loop then some 0 else none)

/-- CTX_STEP with SET = 1: a target past the last step counts as a bad step (DESIGN CHOICE, assumption log 20). -/
def State.runSet (s : State) (x sched n : Nat) : State :=
  match Tbl.get? s.tier.scheds (schedKey x sched) with
  | none => s.badStep x
  | some c => if n < c.steps then s.clockTo (schedKey x sched) (some n) else s.badStep x

/-- Whether a reserved field of the step records of an image is non-zero (spec 06 R142). -/
def State.recordsBad (s : State) (a steps : Nat) : Bool :=
  (List.range steps).any (fun i => bits (s.poolNum (a + 32 + 16 * i) 8) 63 44 != 0)

/-- The refusal of a registration, 0 where it succeeds (spec 06 R142). -/
def State.prefRefusal (s : State) (x sched a : Nat) : Nat :=
  let h := s.poolNum a 32
  let steps := bits h 12 0
  if a % 64 != 0 then rcAlign
  else if !s.ctxMayAt x a then rcProfile
  else if steps = 0 || 4096 < steps || bits h 19 16 = 0 || 8 < bits h 19 16 || bits h 63 25 != 0 || bits h 255 128 != 0 ||
      bits h 24 20 < 4 || 16 < bits h 24 20 then rcFieldRange
  else if (Tbl.get? s.tier.scheds (schedKey x sched)).isSome then rcOverlap
  else if !s.ctxMayAt x (a + 31 + 16 * steps) then rcProfile
  else if s.recordsBad a steps then rcFieldRange
  else rcOk

/-- Pool address of a context's schedule image. -/
def State.imageAddr (s : State) (x : Nat) : Nat := s.rd CTX_PREF_LO_ADDR x + 2 ^ 32 * s.rd CTX_PREF_HI_ADDR x

/-- REGISTER. -/
def State.runRegister (s : State) (x sched : Nat) : State :=
  let a := s.imageAddr x
  let code := s.prefRefusal x sched a
  let s := (s.set CTX_PREF_CMD_RESULT code x).set CTX_PREF_CMD_GO 0 x
  if code != rcOk then s
  else
    let h := s.poolNum a 32
    s.setSched (schedKey x sched)
      { steps := bits h 12 0
        loop := bit h 13
        cont := bit h 14
        rec_ := bit h 15
        look := bits h 19 16
        recLog2 := bits h 24 20
        recAddr := bits h 127 64
        image := a }

/-- The runs of pool memory a command of a schedule reads: the image, and the lists of the steps it issues (spec 06 R142, R144). -/
def State.prefReads (s : State) : PrefOp → List (Nat × Nat)
  | .register x _ => let a := s.imageAddr x; [(a, 32 + 16 * min 4096 (bits (s.poolNum a 32) 12 0))]
  | .advance x k | .set x k _ =>
    match Tbl.get? s.tier.scheds (schedKey x k) with
    | none => []
    | some c =>
      (c.image, 32 + 16 * c.steps) :: (List.range c.steps).map (fun n =>
        (s.poolNum (c.image + 32 + 16 * n + 8) 8, 8 * (s.poolNum (c.image + 32 + 16 * n + 4) 2 % 4096)))

/-- Runs a command of a schedule. -/
def State.prefRun (s : State) : PrefOp → State
  | .register x k => s.runRegister x k
  | .advance x k => s.runAdvance x k
  | .set x k n => s.runSet x k n

/-- Whether a leaf owns a line of a run of bytes, or one of them is on its way from its owner. -/
def State.ownedRun (s : State) (r : Nat × Nat) : Bool :=
  let lo := r.1 / 64
  let n := (r.1 + r.2 + 63) / 64 - lo
  s.home.dir.any (fun (e : Nat × DirEntry) => e.2.st != .s && lo ≤ e.1 && e.1 < lo + n) || s.pulling lo n

/-- A command of a schedule: what it reads of pool memory is read at the home, so it waits where a leaf owns part of it (spec 01 R16;
06 R142, R144). -/
def State.prefOp (s : State) (op : PrefOp) : State :=
  let wait : Bool := !(s.home.dir.isEmpty && s.home.txns.isEmpty) && (s.prefReads op).any s.ownedRun
  if wait || !s.tier.prefOps.isEmpty then
    let s := (s.prefReads op).foldl (fun s r => s.pull 2 (r.1 / 64) ((r.1 + r.2 + 63) / 64 - r.1 / 64)) s
    { s with tier := { s.tier with prefOps := s.tier.prefOps ++ [op] } }
  else s.prefRun op

/-- Goes on with the schedule commands that waited, in order. -/
def State.prefResume (s : State) : State :=
  s.tier.prefOps.foldl State.prefOp { s with tier := { s.tier with prefOps := [] } }

/-- REGISTER, CTX_STEP. -/
def State.prefRegister (s : State) (x sched : Nat) : State := s.prefOp (.register x sched)
def State.stepAdvance (s : State) (x sched : Nat) : State := s.prefOp (.advance x sched)
def State.stepSet (s : State) (x sched n : Nat) : State := s.prefOp (.set x sched n)

/-- UNREGISTER: the schedule stops, its staging and pins end (spec 06 R155). -/
def State.prefUnregister (s : State) (x sched : Nat) : State :=
  let k := schedKey x sched
  let s := s.dropSteps k (fun _ => true)
  { s with tier := { s.tier with scheds := Tbl.del s.tier.scheds k } }

/-- Unregisters every schedule of a context (spec 06 R155, 14 R334). -/
def State.prefDropCtx (s : State) (x : Nat) : State :=
  ((s.tier.scheds.map (·.1)).filter (fun k => k / 64 == x)).foldl (fun s k => s.prefUnregister x (k % 64)) s

/-- A staged page is in T1: it is pinned for every step that lists it (spec 06 R145). -/
def State.pinStaged (s : State) (p : Nat) : State :=
  (s.tier.scheds.filter (fun (d : Nat × Sched) => d.2.staging.any (fun e => e.2 == p))).foldl
    (fun s d =>
      let ns := (d.2.staging.filter (fun (e : Nat × Nat) => e.2 == p)).map (·.1)
      ns.foldl (fun s n => s.pinPage d.1 p n)
        (s.setSched d.1 { d.2 with staging := d.2.staging.filter (fun (e : Nat × Nat) => e.2 != p) })) s

/-- A page's staging ends with nothing installed (spec 06 R468). -/
def State.dropStaging (s : State) (p : Nat) : State :=
  let s := s.endMove p
  { s with tier := { s.tier with scheds := s.tier.scheds.map (fun (d : Nat × Sched) =>
    (d.1, { d.2 with staging := d.2.staging.filter (fun (e : Nat × Nat) => e.2 != p) })) } }

/-- A page's staging has ended: it enters T1 pinned for every step that lists it, under the epoch of its issue (spec 06 R144,
R145). -/
def State.stageDone (s : State) (k p : Nat) : State :=
  match Tbl.get? s.tier.scheds k with
  | none => s
  | some c =>
    if !c.staging.any (fun q => q.2 == p) then s
    else if (Tbl.get? s.tier.t1 p).isSome then (s.endMove p).pinStaged p
    else if s.pagePulled p then s
    else
      let e := ((Tbl.get? s.tier.moves p).map (·.2)).getD s.epoch
      let x := s.extentAt e (65536 * p)
      let cold := s.tierOf x (65536 * p) == .t3 || s.tierOf x (65536 * p) == .t4
      if !s.pageReads e p then s.dropStaging p
      else if cold && s.keyless ((s.bank e).tenantOf x) then s
      else
        let c := s.clearReplicas p
        if !c.2 then c.1
        else
          let f := if cold then c.1.takeFrame else (c.1, some 0)
          match f.2 with
          | none => f.1
          | some n =>
            let s1 := if cold then
                (f.1.setPageEnt p { tier := .t2, frame := n, len := 16 }).count
                  { blk := .tier, code := 0x04, addr := some (65536 * p) }
              else f.1
            let q := s1.putT1 x p
            if q.2 then (q.1.endMove p).pinStaged p else q.1

/-- How a context's access meets a prefetch schedule: no page of a current step, a wait for its staging, or the fallback path
(spec 06 R146). -/
inductive PrefCase where
  | none | wait | fallback
deriving DecidableEq, Repr

/-- The case of a context's access to a page that is not in T1. -/
def State.prefCase (s : State) (x p : Nat) : PrefCase :=
  if (Tbl.get? s.tier.t1 p).isSome then .none
  else
    match s.tier.scheds.find? (fun (c : Nat × Sched) =>
      c.1 / 64 == x && (match c.2.clock with | none => false | some n => (s.stepPages c.2 n).contains p)) with
    | .none => .none
    | some c =>
      if c.2.deadlinePast then .fallback
      else if (c.2.staging ++ c.2.waitIssue).any (fun q => q.2 == p) then .wait
      else .none

/-! ### Rebuild, HBM stacks (spec 06 R152, R153; 04 R83) -/

/-- TIER_REBUILD.GO. -/
def State.startRebuild (s : State) (x : Nat) : State :=
  if s.tier.rebuild.isSome then s.set TIER_REBUILD_STAT_RESULT rcExhausted
  else
    let s := { s with tier := { s.tier with rebuild := some x } }
    (s.set TIER_REBUILD_STAT_RESULT rcOk).set TIER_REBUILD_STAT_BUSY 1

/-- The extent is whole: its heads and units are failed no more (spec 06 R152). -/
def State.rebuildDone (s : State) : State :=
  match s.tier.rebuild with
  | none => s
  | some x =>
    ({ s with tier := { s.tier with
      rebuild := none
      healed := (List.range 10).foldl (fun l i => if l.contains (x, i) then l else (x, i) :: l) s.tier.healed } }).set
        TIER_REBUILD_STAT_BUSY 0

/-- A dirty unit on a failed stack: written back from its second copy, or lost (spec 06 R134, R153). -/
def State.loseUnit (s : State) (stack u : Nat) : State :=
  let a := 4096 * u
  let x := s.map.cur.extent (a / 2 ^ 30)
  if exRedund x != 0 && !s.tier.lostStacks.contains ((stack + 4) % 8) then s.cleanUnit u
  else
    let s := (List.range 64).foldl (fun s i => s.poisonLine (a + 64 * i)) s
    let s := s.count { blk := .tier, code := 0x08, addr := some a }
    { (s.err ⟨.tier, 0⟩ 16) with tier := { (s.err ⟨.tier, 0⟩ 16).tier with
      wbs := s.tier.wbs.filter (fun (w : Nat × Bool) => w.1 != u) } }

/-- Re-stages a page that schedules pin. -/
def State.restage (s : State) (p : Nat) (q : T1Page) : State :=
  q.pins.foldl
    (fun s pin =>
      let k := schedKey pin.1 pin.2.1
      match Tbl.get? s.tier.scheds k with
      | none => s
      | some c =>
        let s := s.setSched k { c with staging := c.staging ++ [(pin.2.2, p)] }
        { s with tier := { s.tier with moves := Tbl.put s.tier.moves p (.stage pin.1 pin.2.1, s.epoch) } }) s

/-- The directory's copies after the loss of a stack (spec 04 R83); which stacks hold them is not given: a free value says
whether this one held one. Without a second copy the lines held in E or M are poisoned and their entries lost. -/
def State.dirStackLost (s : State) : State :=
  let r := s.fresh
  let s := r.2
  if r.1 % 2 = 0 then s
  else
    let s := (s.count { blk := .home, code := 0x06 }).err ⟨.home, 0⟩ 17
    if s.flag HOME_DIRSTAT_MIRROR_OK then s.set HOME_DIRSTAT_MIRROR_OK 0
    else
      let owned := s.home.dir.filter (fun (e : Nat × DirEntry) => e.2.st != .s)
      owned.foldl (fun s e => (s.spoil (64 * e.1)).setDir e.1 none) s

/-- An HBM stack fails (spec 06 R153). -/
def State.stackFail (s : State) (k : Nat) : State :=
  if s.tier.lostStacks.contains k then s
  else
    let mine := s.tier.t1.filter (fun (p : Nat × T1Page) => p.2.stack == k)
    let s := { s with tier := { s.tier with lostStacks := setAdd s.tier.lostStacks k } }
    let s := (s.set HBM_STAT_FAILED 1 k).err ⟨.hbm, k⟩ 17
    let s := (mine.map dirtyOf).flatten.foldl (fun s u => s.loseUnit k u) s
    let s := { s with tier := { s.tier with t1 := s.tier.t1.filter (fun (p : Nat × T1Page) => p.2.stack != k) } }
    (mine.foldl (fun s p => s.restage p.1 p.2) s).dirStackLost

/-- The size map of an extent made CMPR is initialised (spec 07 R160). -/
def State.smapDone (s : State) (x : Nat) : State :=
  { s with map := { s.map with smapInit := setDel s.map.smapInit x } }

end Sys2Proof.Machine
end

