-- ==== Sys2Proof/Machine/Procs.lean ====
section
/-! DEFINITION. Procedures: triggers, queues, dispatch, completion records, cores and their faults (spec 08 R194 to R206, 09,
14 R319, R332 to R334). -/

namespace Sys2Proof.Machine

/-! ### Procedure addresses (spec 09 R211) -/

/-- What a procedure address names. -/
inductive Space where
  | pool (addr : Nat)
  | peer (feid : Feid) (addr : Nat)
  | host (port addr : Nat)
  | bad
deriving DecidableEq, Repr

/-- Decodes a procedure address; a reserved SPACE or a set zero bit is malformed. -/
def spaceOf (a : Nat) : Space :=
  match bits a 63 60 with
  | 0 => if bits a 59 48 = 0 then .pool (bits a 47 0) else .bad
  | 1 => .peer (BitVec.ofNat 16 (bits a 59 44)) (bits a 43 0)
  | 2 => if bits a 59 52 = 0 then .host (bits a 51 44) (bits a 43 0) else .bad
  | _ => .bad

/-- Whether an address is malformed. -/
def malformed (a : Nat) : Bool := spaceOf a == .bad

/-- Whether a verdict stands against a FEID (spec 15 R341). -/
def State.feidFenced (s : State) (f : Feid) : Bool := (Tbl.get? s.live.fences f.toNat).isSome

/-- The device is self-fenced (spec 15 R346). -/
def State.selfFenced (s : State) : Bool := s.rd LIVE_STAT_STATE == 3

/-- The port that carries an access of a procedure. -/
def State.spacePort (s : State) (sp : Space) : Option Nat :=
  match sp with
  | .peer f _ => s.portOfFeid f
  | .host p _ => some p
  | _ => none

/-- Whether a context of a tenant may make an access under a bank (spec 09 R211). -/
def State.spaceMay (s : State) (b : Bank) (tenant : Nat) (sp : Space) : Bool :=
  let byPort (p : Nat) : Bool :=
    let d := s.map.cur.bind p
    bdValid d && bdTenant d == tenant && s.enabled .port p
  match sp with
  | .pool a => b.ctxMay tenant (b.extent (a / 2 ^ 30))
  | .peer f _ => !s.feidFenced f && (match s.portOfFeid f with | none => false | some p => byPort p)
  | .host p _ => byPort p
  | .bad => false

/-! ### The trigger (spec 09 R210) -/

def trChain (t : Nat) : Nat := bits t 47 0
def trLen (t : Nat) : Nat := bits t 60 48
def trPrio (t : Nat) : Nat := bits t 65 64
def trCntEn (t : Nat) : Bool := bit t 66
def trCntMode (t : Nat) : Bool := bit t 67
def trSeq (t : Nat) : Nat := bits t 127 96
def trCpl (t : Nat) : Nat := bits t 191 128
def trCntAddr (t : Nat) : Nat := bits t 255 192
def trCntVal (t : Nat) : Nat := bits t 287 256

/-! ### Writes of a procedure -/

/-- Puts a procedure's message on a port: Q2 at PRIO 0x3, else weighted (spec 09 R218; 13 R305, R306). -/
def State.sendProc (s : State) (p x prio kind : Nat) (m : Msg) : State :=
  if prio = 3 then s.sendQ p 2 m
  else s.sendW p (s.rd CTX_QOS_TC x) (some (s.ctxTenant x)) kind m

/-- Writes bytes that lie in one line, as a procedure: to the pool as a home transaction, to a peer as WR or WR_MASK, to a
host as a CXL.io write (spec 09 R211, R223). -/
def State.procWrite (s : State) (x id k prio epoch addr : Nat) (mask : BitVec 64) (d : Line) (poison : Bool)
    (enc : Option (Nat × Nat × Bool)) (whole : Bool := false) : State :=
  match spaceOf addr with
  | .pool a => s.addTxn (.core x id k) (.write d mask poison) (a / 64) epoch enc whole
  | .peer f a =>
    match s.portOfFeid f with
    | none => s
    | some p =>
      let t := s.freshTag
      let s := t.2.modProc x id (fun q => { q with wrTags := q.wrTags ++ [t.1] })
      let h : Hdr := { poison := poison, dst := f, src := s.ownFeid, tag := t.1, arg := BitVec.ofNat 64 (lineAddr a) }
      if mask = fullMask then s.sendProc p x prio kindWrite (.yd 0x02 h (lineSlots d))
      else
        (s.sendProc p x prio kindWrite (.yd 0x04 { h with poison := false, arg := mask } [])).sendProc p x prio kindWrite
          (.yd 0x03 h (lineSlots d))
  | .host p a =>
    (maskRuns mask).foldl
      (fun s r => s.sendProc p x prio kindWrite (.ioMemWr (lineAddr a + r.1) (((lineBytes d).drop r.1).take r.2) poison)) s
  | .bad => s

/-- Adds to a 64-bit counter, as a procedure (spec 09 R225). -/
def State.procAdd (s : State) (x id prio addr v : Nat) : State :=
  match spaceOf addr with
  | .pool a =>
    s.addTxn (.core x id kCounter)
      (.atomic 0 1 false (a % 64) (BitVec.ofNat 128 v) 0 none) (a / 64) s.epoch
  | .peer f a =>
    match s.portOfFeid f with
    | none => s
    | some p =>
      let w := s.rd LIVE_INCARN_INCARN + 2 ^ 20
      let t := s.freshTag
      t.2.sendProc p x prio kindWrite
        (.yd 0x08 { dst := f, src := s.ownFeid, tag := t.1, arg := BitVec.ofNat 64 a }
          [BitVec.ofNat 128 w, BitVec.ofNat 128 v])
  | .host p a =>
    let t := s.freshTag
    t.2.sendProc p x prio kindWrite (.ioFetchAdd t.1 a (BitVec.ofNat 64 v))
  | .bad => s

/-! ### Records (spec 09 R224 to R226) -/

/-- A completion record. -/
def recordOf (x st flags idx seq : Nat) (res : List Nat) : Nat :=
  st + flags % 2 ^ 16 * 2 ^ 8 + x * 2 ^ 24 + idx * 2 ^ 36 + seq * 2 ^ 64 +
    (List.range 4).foldl (fun n i => n + (res[i]?).getD 0 * 2 ^ (128 + 32 * i)) 0

/-- Whether a record or counter address is judged writable now (spec 09 R226, 15 R346). -/
def State.recordMay (s : State) (x addr : Nat) : Bool :=
  s.spaceMay s.map.cur (s.ctxTenant x) (spaceOf addr) &&
    !(s.selfFenced && (match spaceOf addr with | .pool _ => false | _ => true))

/-- Issues a record; one the judgement denies is dropped and counted. Answers whether it was issued. -/
def State.sendRecord (s : State) (x id trig recd : Nat) : State × Bool :=
  let a := trCpl trig
  if s.recordMay x a then
    let o := a % 64
    ((s.procWrite x id kRecord (trPrio trig) s.epoch a (BitVec.ofNat 64 (0xFFFFFFFF <<< o)) (BitVec.ofNat 512 (recd <<< (8 * o)))
      false none).count (ctxOcc 0x04 x), true)
  else (s.count (ctxOcc 0x05 x), false)

/-- Issues the counter increment of a trigger, where CNT_EN and CNT_MODE ask for one. -/
def State.sendCounter (s : State) (x id trig : Nat) (st : Byte) : State :=
  if !trCntEn trig || (trCntMode trig && st != stOk) then s
  else if s.recordMay x (trCntAddr trig) then s.procAdd x id (trPrio trig) (trCntAddr trig) (trCntVal trig)
  else s.count (ctxOcc 0x05 x)

/-! ### Queues -/

/-- The procedures of a context, accepted earliest first. -/
def State.procsOf (s : State) (x : Nat) : List Proc := Tbl.get s.procs.procs x []

/-- Sets the procedures of a context. -/
def State.setProcs (s : State) (x : Nat) (l : List Proc) : State :=
  { s with procs := { s.procs with procs := if l.isEmpty then Tbl.del s.procs.procs x else Tbl.put s.procs.procs x l } }

/-- A procedure of a context by its number. -/
def State.proc (s : State) (x id : Nat) : Option Proc := (s.procsOf x).find? (fun p => p.id == id)

/-- Whether messages of a procedure's peer writes still wait for their link or its confirming ACK. -/
def State.peerPending (s : State) (p : Proc) : Bool :=
  let mine (m : Msg) : Bool :=
    match m with
    | .yd opc h _ => h.src == s.ownFeid && p.wrTags.contains h.tag && (opc == 0x02 || opc == 0x03 || opc == 0x04)
    | _ => false
  s.ports.any (fun (p : Nat × PortSt) =>
    p.2.egress.any (fun (q : Queued) => mine q.msg) || p.2.replay.any (fun r => r.2.any (fun q => mine q.msg)))

/-- Whether an issued record has not reached its ordering point yet (spec 09 R225). -/
def State.recordPending (s : State) (x id : Nat) : Bool :=
  s.home.txns.any (fun t => t.phase == .waiting && t.src == .core x id kRecord) ||
    (match s.proc x id with | some p => s.peerPending p || !p.rdPorts.isEmpty | none => false)

/-- Whether a procedure holds its place: its record has not been ordered (spec 09 R213). -/
def State.placed (s : State) (x : Nat) (p : Proc) : Bool := !p.ended || p.phase == .recorded && s.recordPending x p.id

/-- Whether anything of a procedure is still to come. -/
def State.keeps (s : State) (x : Nat) (p : Proc) : Bool := !p.ended || p.counterDue || s.recordPending x p.id

/-- CTX_QSTAT.DEPTH, RUNNING and PARKED. -/
def State.qDepth (s : State) (x : Nat) : Nat := ((s.procsOf x).filter (s.placed x)).length
def State.qRunning (s : State) (x : Nat) : Nat :=
  ((s.procsOf x).filter (fun p => match p.phase with | .running _ => true | .saved => true | _ => false)).length
def State.qParked (s : State) (x : Nat) : Nat := ((s.procsOf x).filter (fun p => p.phase == .parked)).length

/-- The procedure that runs on a core. -/
def State.procOn (s : State) (c : Nat) : Option (Nat × Proc) :=
  match Tbl.get? s.procs.running c with
  | none => none
  | some (x, id) => (s.proc x id).map (fun p => (x, p))

/-- Forgets the chain lookups of a core: their slots lapse, whatever still answers them (spec 08 R195, 12 R290). -/
def State.dropLookups (s : State) (c : Nat) : State :=
  let mine (k : Nat) : Bool := k / 2 ^ 24 == c
  { s with filt := { s.filt with
    res := s.filt.res.filter (fun (q : Nat × ChainRes) => !mine q.1)
    lapsed := ((s.filt.slots.filter (fun (q : Nat × Nat) => mine q.2)).map (·.1)).foldl setAdd s.filt.lapsed
    slots := s.filt.slots.filter (fun (q : Nat × Nat) => !mine q.2) } }

/-- Frees a core: nothing of what its descriptor held in it stays (spec 08 R195). -/
def State.freeCore (s : State) (c : Nat) : State :=
  let s := s.dropLookups c
  ({ s with procs := { s.procs with running := Tbl.del s.procs.running c, saving := setDel s.procs.saving c } }).set CORE_STAT_RUNNING 0 c

/-- Frees the core a procedure runs on. -/
def State.leaveCore (s : State) (p : Proc) : State :=
  match p.phase with
  | .running c => s.freeCore c
  | _ => s

/-- Zero-length reads on the CXL.io ports a procedure wrote through (spec 09 R225, 10 R250). -/
def State.flushHosts (s : State) (x : Nat) (p : Proc) (ports : List Nat) : State :=
  ports.foldl
    (fun s port =>
      let t := s.freshTag
      let s := t.2.sendProc port x (trPrio p.trig) kindRead (.ioMemRd t.1 0 0)
      s.modProc x p.id (fun q => { q with rdPorts := q.rdPorts ++ [(port, t.1)] }))
    (s.modProc x p.id (fun q => { q with hostPorts := [] }))

/-- Ends a procedure with a status at a descriptor: staged writes are discarded, the core is freed, its record is due. -/
def State.endProc (s : State) (x : Nat) (p : Proc) (st : Byte) (idx flags : Nat) : State :=
  let s := s.leaveCore p
  let s := s.modProc x p.id (fun q => { q with
    phase := .ending
    status := st
    idx := idx
    flags := q.flags ||| flags ||| (if q.replays = 0 then 0 else flReplayed)
    staged := []
    log := []
    hasLog := false
    logDone := false
    remote := [] })
  match s.proc x p.id with
  | none => s
  | some q => s.flushHosts x q q.hostUsed

/-- Ends the procedures of a context that a test selects, each at the descriptor it stands at. -/
def State.endProcs (s : State) (x : Nat) (f : Proc → Bool) (st : Byte) : State :=
  ((s.procsOf x).filter f).foldl (fun s p => s.endProc x p st p.idx 0) s

/-- Whether writes of a procedure are not yet ordered at the home, or not yet confirmed or issued elsewhere (spec 09 R225). -/
def State.writesPending (s : State) (x : Nat) (p : Proc) : Bool :=
  s.home.txns.any (fun t => t.phase == .waiting && (match t.src with | .core y i _ => y == x && i == p.id | _ => false)) ||
    s.peerPending p || !p.rdPorts.isEmpty

/-- What follows a record written to a host: a zero-length read (spec 09 R225). -/
def State.afterRecord (s : State) (x : Nat) (p : Proc) : State :=
  match spaceOf (trCpl p.trig) with
  | .host port _ => s.flushHosts x p [port]
  | _ => s

/-- Issues the completion record of an ended procedure whose writes have reached their ordering points (spec 09
R225); a denied one is dropped with its counter (R226). -/
def State.completionRecord (s : State) (x id : Nat) : State :=
  match s.proc x id with
  | none => s
  | some p =>
    if p.phase != .ending || s.writesPending x p then s
    else
      let zero := p.res.map (fun (w : Word) => w.toNat)
      let recd := recordOf x p.status.toNat p.flags p.idx (trSeq p.trig) zero
      let r := (s.modProc x id (fun q => { q with phase := .recorded })).sendRecord x id p.trig recd
      if r.2 then r.1.afterRecord x p else r.1.dropProc x id (fun _ => true)

/-- Issues the counter increment after the record's ordering point (spec 09 R225). -/
def State.counterIncrement (s : State) (x id : Nat) : State :=
  match s.proc x id with
  | none => s
  | some p =>
    if !p.ended || s.recordPending x id then s
    else (s.dropProc x id (fun _ => true)).sendCounter x id p.trig p.status

/-! ### Cores and slices -/

/-- A core that can run descriptors. -/
def State.coreUsable (s : State) (c : Nat) : Bool := s.enabled .core c && !s.flag CORE_STAT_FENCED c

/-- A usable core that runs nothing. -/
def State.coreFree (s : State) (c : Nat) : Bool :=
  s.coreUsable c && !s.flag CORE_STAT_RUNNING c && !s.quiescing .core c

/-- The slice a core serves under the current map. -/
def State.sliceOfCore (s : State) (c : Nat) : Option Nat :=
  (s.map.cur.slices.find? (fun e => slValid e.2 && bit (slCores e.2) c)).map (·.1)

/-- The cores of a slice. -/
def State.coresOf (s : State) (i : Nat) : List Nat :=
  let e := s.map.cur.slice i
  if slValid e then (List.range 128).filter (fun c => bit (slCores e) c) else []

/-- A slice without a usable core (spec 08 R202). -/
def State.coreless (s : State) (i : Nat) : Bool := !(s.coresOf i).any s.coreUsable

/-- The contexts bound to a slice whose page is enabled and which hold procedures. -/
def State.ctxsOf (s : State) (i : Nat) : List Nat :=
  (s.procs.procs.map (·.1)).filter (fun x => s.rd CTX_BIND_SLICE x == i && s.enabled .ctx x)

/-- Ends the procedures of a context whose slice has no usable core, a running one too where a commit took its core from the slice
(spec 08 R202). -/
def State.loseCores (s : State) (x : Nat) : State :=
  if s.enabled .ctx x && s.coreless (s.rd CTX_BIND_SLICE x) then
    s.endProcs x (fun p => match p.phase with | .ending | .recorded | .refused => false | _ => true) stCoreLost
  else s

/-- Applies R202 to every context. -/
def State.loseAll (s : State) : State := (s.procs.procs.map (·.1)).foldl State.loseCores s

/-! ### Triggers (spec 09 R208, R212) -/

/-- Whether a port may trigger a context, by the map of the trigger's epoch (spec 03 R57, R63). -/
def State.mayTrigger (s : State) (p x : Nat) (e : Nat := s.epoch) : Bool :=
  let d := (s.bank e).bind p
  bdValid d && bdCtxBase d ≤ x && x < bdCtxBase d + bdCtxCount d && s.ctxTenant x == bdTenant d

/-- Whether an address fails R211 for a context, by the map of an epoch (spec 03 R63). -/
def State.addrDenied (s : State) (x a e : Nat) : Bool := !s.spaceMay (s.bank e) (s.ctxTenant x) (spaceOf a)

/-- How a trigger is judged: its YD status, whether a record is written, and the event it counts (0 for none, 1 accepted, 2
bad, 3 refused, 9 access denied). -/
structure TrigVerdict where
  st     : Byte
  record : Bool
  event  : Nat
deriving DecidableEq, Repr

/-- Judges an arriving trigger; the first row that applies decides (spec 09 R212). -/
def State.trigVerdict (s : State) (p x t : Nat) (poison whole : Bool) (e : Nat := s.epoch) : TrigVerdict :=
  let cpl := trCpl t
  let badCnt := if trCntEn t then trCntAddr t % 8 != 0 || malformed (trCntAddr t) || s.addrDenied x (trCntAddr t) e
    else trCntAddr t != 0
  if !s.mayTrigger p x e || s.ctxState x == ctxFree || !s.enabled .ctx x || s.selfFenced then ⟨stDenied, false, 9⟩
  else if !whole || poison then ⟨stBadDescriptor, false, 2⟩
  else if cpl % 32 != 0 || malformed cpl then ⟨stBadDescriptor, false, 2⟩
  else if s.addrDenied x cpl e then ⟨stDenied, false, 2⟩
  else if s.ctxState x == ctxRetiring then ⟨stContextGone, true, 3⟩
  else if bits t 63 61 != 0 || bits t 95 68 != 0 || bits t 511 288 != 0 || trChain t % 64 != 0 || trLen t = 0 ||
      4096 < trLen t || badCnt then ⟨stBadDescriptor, true, 3⟩
  else if s.rd CTX_QCTL_PRIO_MAX x < trPrio t then ⟨stDenied, true, 3⟩
  else if 256 ≤ s.qDepth x then ⟨stBusyRetry, true, 3⟩
  else ⟨stOk, false, 1⟩

/-- Accepts a trigger into its context's queue, with the epoch of its ingress (spec 01 R18; 09 R212, R213; 08 R202). -/
def State.acceptTrig (s : State) (x t : Nat) (e : Nat := s.epoch) : State :=
  let id := s.procs.nextId
  let p : Proc := { id := id, trig := t, epoch := e }
  let s := { s with procs := { s.procs with nextId := id + 1 } }
  let s := s.setProcs x ((s.procsOf x).filter (s.keeps x) ++ [p])
  ((s.set CTX_QSEQ_LAST_SEQ (trSeq t) x).count (ctxOcc 0x01 x)).loseCores x

/-- A trigger of an epoch arrives at a context's window from a port; `reply` sends its YD answer (spec 09 R212). -/
def State.trigger (s : State) (e p x t : Nat) (poison whole : Bool) (reply : State → Byte → State) : State :=
  let v := s.trigVerdict p x t poison whole e
  let s := reply s v.st
  if v.event = 1 then s.acceptTrig x t e
  else
    let s := if v.event = 9 then s.countDenied p (some (4096 * x)) else s.count (ctxOcc v.event x)
    if v.record then
      let id := s.procs.nextId
      let p : Proc := { id := id, trig := t, epoch := e, phase := .refused, status := v.st }
      let s := { s with procs := { s.procs with nextId := id + 1 } }
      let r := (s.setProcs x (s.procsOf x ++ [p])).sendRecord x id t (recordOf x v.st.toNat 0 0 (trSeq t) [])
      let counts := p.counterDue && trCntAddr t % 8 == 0 && !malformed (trCntAddr t)
      if r.2 && counts then r.1.afterRecord x p else r.1.dropProc x id (fun _ => true)
    else s

/-! ### Dispatch (spec 09 R213, R214, R216, R217; 08 R197, R201, R205, R206) -/

/-- Procedures the scheduler may start or resume now: saved ones of READY contexts, and ready ones where neither PAUSE nor a quiesce
keeps them from starting (spec 09 R217, 14 R319). -/
def State.startable (s : State) (x : Nat) : List Proc :=
  let starts := s.rd CTX_QCTL_PAUSE x == 0 && !s.quiescing .ctx x
  if s.ctxState x == ctxReady then (s.procsOf x).filter (fun p => p.phase == .saved || p.phase == .ready && starts) else []

/-- The next procedure of a slice: the highest priority, the context after the one served last there, the earliest (R214). -/
def State.pick (s : State) (i : Nat) : Option (Nat × Proc) :=
  let xs := s.ctxsOf i
  let all := (xs.map (fun x => (s.startable x).map (fun p => (x, p)))).flatten
  match all with
  | [] => none
  | _ =>
    let prio := all.foldl (fun (m : Nat) (q : Nat × Proc) => max m (trPrio q.2.trig)) 0
    let top := all.filter (fun (q : Nat × Proc) => trPrio q.2.trig == prio)
    let last := Tbl.get? s.procs.served (4 * i + prio)
    let after := top.filter (fun (q : Nat × Proc) => match last with | none => true | some y => y < q.1)
    match after with
    | q :: _ => some q
    | [] => top.head?

/-- The earliest procedure of a slice that awaits its replay, highest priority first (spec 08 R201). -/
def State.pickReplay (s : State) (i : Nat) : Option (Nat × Proc) :=
  let all := ((s.ctxsOf i).map (fun x => ((s.procsOf x).filter (fun p => p.phase == .replay)).map (fun p => (x, p)))).flatten
  let prio := all.foldl (fun (m : Nat) (q : Nat × Proc) => max m (trPrio q.2.trig)) 0
  all.find? (fun (q : Nat × Proc) => trPrio q.2.trig == prio)

/-- The core of a slice the scheduler dispatches to: free, in the shallowest power state, the lowest of those (R206). -/
def State.coreChosen (s : State) (i : Nat) : Option Nat :=
  (s.coresOf i).foldl
    (fun (best : Option Nat) c =>
      if !s.coreFree c then best
      else match best with
        | none => some c
        | some b => if s.rd CORE_STAT_PSTATE c < s.rd CORE_STAT_PSTATE b then some c else some b) none

/-- What a core may take next: a replay, or what `pick` names, a replay first where its priority is not lower. -/
def State.nextFor (s : State) (c : Nat) : Option (Nat × Proc) :=
  match s.sliceOfCore c with
  | none => none
  | some i =>
    if s.coreChosen i != some c then none
    else
      match s.pickReplay i, s.pick i with
      | some r, some q => if trPrio q.2.trig ≤ trPrio r.2.trig then some r else some q
      | some r, none => some r
      | none, q => q

/-- Puts a procedure on a core: the descriptor counts against the current epoch unless it was started before (R18, R197). -/
def State.place (s : State) (c x : Nat) (p : Proc) : State :=
  let epoch := if p.phase = .ready && !p.fetched then s.epoch else p.epoch
  let s := s.modProc x p.id (fun q => { q with phase := .running c, epoch := epoch })
  let s := { s with procs := { s.procs with
    running := Tbl.put s.procs.running c (x, p.id)
    served := match s.sliceOfCore c with
      | none => s.procs.served
      | some i => Tbl.put s.procs.served (4 * i + trPrio p.trig) x } }
  ((s.set CORE_STAT_RUNNING 1 c).set CORE_STAT_CTX x c).set CORE_STAT_PSTATE 0 c

/-- A core in C0, C1 or C2 starts the next ready procedure of its slice; one in C3 or C4 leaves its state first (R206). -/
def State.dispatch (s : State) (c : Nat) : State :=
  match s.nextFor c with
  | some (x, p) => if p.phase = .ready && s.rd CORE_STAT_PSTATE c ≤ 2 then s.place c x p else s
  | none => s

/-- A saved descriptor is restored on a core and goes on from its cursor (R197). -/
def State.restore (s : State) (c : Nat) : State :=
  match s.nextFor c with
  | some (x, p) => if p.phase = .saved && s.rd CORE_STAT_PSTATE c ≤ 2 then s.place c x p else s
  | none => s

/-- A replay starts on a core (R201). -/
def State.startReplay (s : State) (c : Nat) : State :=
  match s.nextFor c with
  | some (x, p) => if p.phase = .replay && s.rd CORE_STAT_PSTATE c ≤ 2 then s.place c x p else s
  | none => s

/-- A core finishes its exit to C0 (R206): one with work waiting for it, or a filter lookup. -/
def State.wakeCore (s : State) (c : Nat) : State :=
  if s.coreUsable c && s.rd CORE_STAT_PSTATE c != 0 then s.set CORE_STAT_PSTATE 0 c else s

/-! ### Preemption (spec 08 R196, R197; 14 R332) -/

/-- Bytes of a save: the descriptor's staged bytes, its log, the lines it has read from elsewhere, its cursor. -/
def Proc.saveBytes (p : Proc) : Nat := (p.staged.length + 64 * p.log.length + 64 * p.remote.length + 64 + 63) / 64 * 64

/-- A descriptor's 200 µs run ends. In a RETIRING context it stops and its staged writes are discarded, unless its commit log
is being carried out; else it is preempted where another context waits for the slice, no core is free and its save fits. -/
def State.preemptCheck (s : State) (c : Nat) : State :=
  match s.procOn c with
  | none => s
  | some (x, p) =>
    if s.ctxState x == ctxRetiring then
      if p.hasLog || p.issued then s else s.endProc x p stContextGone p.idx 0
    else
      match s.sliceOfCore c with
      | none => s
      | some i =>
        let others := ((s.ctxsOf i).filter (· != x)).any (fun y =>
          (s.startable y ++ (s.procsOf y).filter (fun q => q.phase == .replay)).any (fun q => trPrio p.trig ≤ trPrio q.trig))
        let free := (s.coresOf i).any s.coreFree
        let used := ((s.procsOf x).filter (fun q => q.phase == .saved)).foldl (fun n q => n + q.saveBytes) 0
        if others && !free && used + p.saveBytes ≤ 2 ^ 23 then
          { s with procs := { s.procs with saving := setAdd s.procs.saving c } }
        else s

/-- The save of a preempted descriptor is complete and its core free. -/
def State.saveDone (s : State) (c : Nat) : State :=
  match s.procOn c with
  | none => s
  | some (x, p) =>
    if s.procs.saving.contains c then (s.modProc x p.id (fun q => { q with phase := .saved })).freeCore c else s

/-! ### Core faults (spec 08 R200 to R204) -/

/-- Starts a descriptor over: staged outputs, reads and results are gone; a complete commit log stays, and what it answered is
written anew. -/
def Proc.restart (p : Proc) : Proc :=
  if p.hasLog then { p with
    phase := .replay
    replays := p.replays + 1
    staged := if p.logDone then [] else p.staged
    logDone := false }
  else { p with
    phase := .replay
    replays := p.replays + 1
    fetched := false
    ran := false
    staged := []
    log := []
    remote := []
    issued := false
    dflags := 0
    cloak := false }

/-- What becomes of the descriptor that ran on a fenced core. -/
def State.replayProc (s : State) (x : Nat) (p : Proc) : State :=
  if s.ctxState x == ctxRetiring then s.endProc x p stContextGone p.idx 0
  else if 3 ≤ p.replays then s.endProc x p stCoreLost p.idx 0
  else s.modProc x p.id Proc.restart

/-- A core fails: it is fenced at once (spec 08 R200 to R203). -/
def State.fenceCore (s : State) (c cause : Nat) : State :=
  if s.flag CORE_STAT_FENCED c || !s.enabled .core c then s
  else
    let was := s.procOn c
    let s := ((s.set CORE_STAT_FENCED 1 c).set CORE_FAULT_CAUSE cause c).set CORE_FAULT_VALID 1 c
    let s := (((s.addSat CORE_FAULT_COUNT 1 c).set CORE_STAT_PSTATE 3 c).set CORE_INJ_ARMED 0 c).set CORE_INJ_ARM 0 c
    let s := (s.count { blk := .core, code := 0x04, inst := c }).err ⟨.core, c⟩ 16
    let s := if cause = 1 then (s.count { blk := .core, code := 0x06, inst := c }).err ⟨.core, c⟩ 17 else s
    let s := (s.hset ⟨.filt, c⟩ PG_STAT_ENABLED 0).hset ⟨.filt, c⟩ PG_STAT_QUIESCED 1
    let s := { s with filt := { s.filt with fenced := setAdd s.filt.fenced c } }
    let s := s.freeCore c
    let s := match was with
      | none => s
      | some (x, p) => s.replayProc x p
    s.loseAll

/-- The next descriptor cycle of an armed core is its failure (spec 21 R441); answers whether it failed. -/
def State.injected (s : State) (c : Nat) : State × Bool :=
  if s.flag CORE_INJ_ARMED c then
    (s.fenceCore c (if s.rd CORE_INJ_CAUSE c = 0 then 1 else s.rd CORE_INJ_CAUSE c), true)
  else (s, false)

/-! ### Retirement, reset and expiry (spec 14 R332, R334; 08 R197; 03 R65; 15 R346) -/

/-- RETIRE: queued, parked, saved and replay procedures end CONTEXT_GONE, schedules are unregistered (spec 14 R332 step 1). -/
def State.retireProcs (s : State) (x : Nat) : State :=
  (s.endProcs x (fun p => match p.phase with | .ready | .parked | .saved | .replay => true | _ => false)
    stContextGone).prefDropCtx x

/-- CTX_RESET: every procedure ends ABORTED at once (spec 14 R334). -/
def State.abortProcs (s : State) (x : Nat) : State :=
  s.endProcs x (fun p => match p.phase with | .ending | .recorded | .refused => false | _ => true) stAborted

/-- Descriptors of an expired epoch end POISONED with TAINTED_EXTENT, without REPLAYED for a replay that has not committed; a retiring
context keeps CONTEXT_GONE (spec 03 R65, 08 R203, 14 R334). -/
def State.expireProcs (s : State) (e : Nat) : State :=
  (s.procs.procs.map (·.1)).foldl
    (fun s x => ((s.procsOf x).filter (fun p => p.counts e)).foldl
      (fun s p =>
        (s.modProc x p.id (fun q => { q with replays := 0 })).endProc x p (if s.ctxState x == ctxRetiring then stContextGone else stPoisoned) p.idx flTainted) s) s

end Sys2Proof.Machine
end

