-- ==== Sys2Proof/Machine/Filter.lean ====
section
/-! DEFINITION. Filter tables, cascades, the stitch chain and the tuck (spec 12). -/

namespace Sys2Proof.Machine

/-! ### Entries (spec 12 R279 to R281) -/

def camKey (e : Nat) : Nat := bits e 159 0
def camCare (e : Nat) : Nat := bits e 319 160
def camPrio (e : Nat) : Nat := bits e 327 320
def camValid (e : Nat) : Bool := bit e 328
def camData (e : Nat) : Nat := bits e 383 352

/-- Whether a reserved field of an image is not zero. -/
def camReserved (e : Nat) : Bool := bits e 351 329 != 0 || bits e 511 384 != 0

/-- The image as the device stores it: KEY AND CARE. -/
def camStored (e : Nat) : Nat := insBits e 159 0 (camKey e &&& camCare e)

/-- Whether an entry matches a lookup key (spec 12 R280). -/
def camMatches (e l : Nat) : Bool := camValid e && ((camKey e ^^^ l) &&& camCare e) == 0

/-- Key of an entry in the tables. -/
def camAt (c e : Nat) : Nat := 16384 * c + e

/-- Writes an entry whole, in the CAM and its shadow (spec 12 R279, R294). -/
def State.camWrite (s : State) (k img : Nat) : State :=
  { s with filt := { s.filt with
    cam := Tbl.putD s.filt.cam k 0 (camStored img)
    shadow := Tbl.putD s.filt.shadow k 0 (camStored img) } }

/-- An entry as a window reads it: the shadow (spec 20 R429). -/
def State.camRead (s : State) (k : Nat) : Nat := Tbl.get s.filt.shadow k 0

/-- FILT_STAT.ENTRIES. -/
def State.camCount (s : State) (c : Nat) : Nat :=
  (s.filt.cam.filter (fun (e : Nat × Nat) => e.1 / 16384 == c && camValid e.2)).length

/-! ### Lookups (spec 12 R281 to R283, R291) -/

/-- The device's position, 0 outside a chain (spec 12 R282). -/
def State.chainPos (s : State) : Nat := if s.flag FILT_CHAIN_EN then s.rd FILT_CHAIN_POS else 0

/-- The match an entry of the tables reports. -/
def State.matchOf (s : State) (e : Nat × Nat) : Match :=
  { index := s.chainPos * 2 ^ 21 + e.1, data := BitVec.ofNat 32 (camData e.2), prio := BitVec.ofNat 8 (camPrio e.2) }

/-- The matching CAM entries of a set of cores, ascending. -/
def State.camHits (s : State) (cores : List Nat) (l : Nat) : List (Nat × Nat) :=
  s.filt.cam.filter (fun (e : Nat × Nat) => cores.contains (e.1 / 16384) && camMatches e.2 l)

/-- Whether an entry's shadow confirms a hit (spec 12 R291). -/
def State.confirmed (s : State) (l : Nat) (e : Nat × Nat) : Bool := camMatches (Tbl.get s.filt.shadow e.1 0) l

/-- Drops false hits: counts them and rewrites the CAM entries from their shadows. -/
def State.dropFalse (s : State) (x : Option Nat) (fs : List (Nat × Nat)) : State :=
  fs.foldl
    (fun s e =>
      let c := e.1 / 16384
      let s := (s.count { blk := .filt, code := 0x02, inst := c, ctx := x }).addSat FILT_ERRS_FALSE_HITS 1 c
      { s with filt := { s.filt with cam := Tbl.putD s.filt.cam e.1 0 (Tbl.get s.filt.shadow e.1 0) } }) s

/-- Hits by rank: priority class first, then the lower index (spec 03 R58). -/
def rankHits (l : List (Nat × Nat)) : List (Nat × Nat) :=
  sortBy (fun (a b : Nat × Nat) => camPrio b.2 < camPrio a.2 || (camPrio a.2 == camPrio b.2 && a.1 < b.1)) l

/-- A best-match lookup: the winner and the false hits dropped before it. -/
def State.bestLookup (s : State) (x : Option Nat) (cores : List Nat) (l : Nat) : State × Option Match × Nat :=
  let hs := rankHits (s.camHits cores l)
  let falses := hs.takeWhile (fun e => !s.confirmed l e)
  let s' := cores.foldl (fun s c => s.count { blk := .filt, code := 0x01, inst := c, ctx := x }) s
  (s'.dropFalse x falses, ((hs.drop falses.length).head?).map s.matchOf, falses.length)

/-- An all-match lookup, in ascending index. -/
def State.allLookup (s : State) (x : Option Nat) (cores : List Nat) (l : Nat) : State × List Match × Nat :=
  let hs := s.camHits cores l
  let falses := hs.filter (fun e => !s.confirmed l e)
  let s' := cores.foldl (fun s c => s.count { blk := .filt, code := 0x01, inst := c, ctx := x }) s
  (s'.dropFalse x falses, (hs.filter (s.confirmed l)).map s.matchOf, falses.length)

/-- The cores a lookup of a serving unit searches on this device (spec 12 R283). -/
def State.cascade (s : State) (unit : Nat) (scope : Bool) : List Nat :=
  if scope then (List.range (s.rd FILT_CASC_COUNT unit + 1)).map (fun i => s.rd FILT_CASC_FIRST unit + i) else [unit]

/-- The chain cores of a member (spec 12 R286). -/
def State.chainCores (s : State) : List Nat :=
  (List.range (s.rd FILT_CHAIN_CORES_COUNT + 1)).map (fun i => s.rd FILT_CHAIN_CORES_FIRST + i)

/-- Whether every unit of a search can search (spec 12 R301). -/
def State.unitsUp (s : State) (cores : List Nat) : Bool := cores.all (fun c => s.enabled .filt c && !s.flag CORE_STAT_FENCED c)

/-- Whether a lookup must wait for a core to leave C3 (spec 08 R206). -/
def State.unitsAsleep (s : State) (cores : List Nat) : Bool := cores.any (fun c => 3 ≤ s.rd CORE_STAT_PSTATE c)

/-- FEID of a chain position. -/
def State.chainFeid (s : State) (p : Nat) : Feid := BitVec.ofNat 16 (s.rd FILT_CHAIN_FEID_FEID 0 p)

/-- Positions of the chain. -/
def State.chainAll (s : State) : List Nat := List.range (s.rd FILT_CHAIN_LEN + 1)

/-! ### Frames (spec 12 R285, R286) -/

/-- CRC-8 over 24 bits, polynomial 0x07, initial value 0. -/
def crc8 (v : Nat) : Nat :=
  (List.range 24).foldl
    (fun c i =>
      let top := bit c 7 != bit v (8 * (i / 8) + (7 - i % 8))
      (2 * c % 256) ^^^ (if top then 0x07 else 0)) 0

/-- A frame with its CRC. -/
def frameOf (slot : Nat) (mt : Bool) (prio wpos : Nat) (final una : Bool) : Word :=
  let v := slot + b2n mt * 2 ^ 8 + prio * 2 ^ 9 + wpos * 2 ^ 17 + b2n final * 2 ^ 19 + b2n una * 2 ^ 20
  BitVec.ofNat 32 (v + crc8 v * 2 ^ 24)

/-- Sends a frame to the next position. -/
def State.sendFrame (s : State) (w : Word) : State := s.emit (.stitchFrame w)

/-- The header of this device's chain messages. -/
def State.stitchHdr (s : State) (slot : Nat) (tag : BitVec 16) (st : Byte) : StitchHdr :=
  { src := s.ownFeid
    tag := tag
    slot := BitVec.ofNat 8 slot
    pos := BitVec.ofNat 2 s.chainPos
    chain := BitVec.ofNat 8 (s.rd FILT_CHAIN_ID)
    status := st }

/-- The lookup an open slot of this device serves, and its result. -/
def State.slotRes (s : State) (slot : Nat) : Option (Nat × ChainRes) :=
  match Tbl.get? s.filt.slots (slot % 64) with
  | none => none
  | some k => (Tbl.get? s.filt.res k).map (fun r => (k, r))

/-- Changes the filter state. -/
def State.mapFilt (s : State) (f : FiltSt → FiltSt) : State := { s with filt := f s.filt }

/-- A lookup of this device is answered: its slot is free at once (spec 12 R290). -/
def State.chainDone (s : State) (slot k : Nat) (r : ChainRes) : State :=
  s.mapFilt (fun f => { f with slots := Tbl.del f.slots (slot % 64), res := Tbl.put f.res k { r with done := true } })

/-- Counts a chain result that came too late (spec 12 R290). -/
def State.stitchLate (s : State) : State := s.count { blk := .filt, code := 0x06, inst := 0 }

/-- A best-match result reaches the requester, with the false hits the answering member dropped. -/
def State.takeBest (s : State) (slot : Nat) (st : Byte) (hit : Option Match) (fh : Nat) : State :=
  match s.slotRes slot with
  | none => s.stitchLate
  | some (k, r) =>
    if r.all then s.stitchLate else s.chainDone slot k { r with st := st, hit := hit, fh := r.fh + fh }

/-- Answers a best-match lookup's requester: itself at once, another member by BEST_RSP. -/
def State.answerBest (s : State) (slot : Nat) (st : Byte) (l : LocalRes) (hit : Option Match) : State :=
  if slot / 64 = s.chainPos then s.takeBest slot st hit 0
  else
    let m := hit.getD { index := 0, data := 0, prio := 0 }
    s.sendYdQ l.who 2 (.bestRsp l.who (s.stitchHdr slot l.tag st) hit.isSome m (BitVec.ofNat 8 (min l.fh 255)))

/-- Handles a frame that may go on now (spec 12 R286 steps 3 to 5). -/
def State.runFrame (s : State) (w : Word) (l : LocalRes) : State :=
  let v := w.toNat
  let slot := bits v 7 0
  let mt := bit v 8
  let prio := bits v 16 9
  let wpos := bits v 18 17
  let una := bit v 20
  let pos := s.chainPos
  if bit v 19 then
    if wpos = pos then (s.mapFilt (fun f => { f with local_ := Tbl.del f.local_ slot })).answerBest slot stOk l l.hit
    else if pos = 0 then s else s.sendFrame w
  else if pos = 0 && l.used then
    let s := s.mapFilt (fun f => { f with local_ := Tbl.del f.local_ slot })
    if una then s.answerBest slot stBusyRetry l none
    else if !mt then s.answerBest slot stOk l none
    else if wpos = 0 then s.answerBest slot stOk l l.hit
    else s.sendFrame (frameOf slot mt prio wpos true false)
  else
    let s := s.mapFilt (fun f => { f with local_ := Tbl.put f.local_ slot { l with used := true } })
    match (if l.una then none else l.hit) with
    | some m =>
      if !mt || prio < m.prio.toNat then s.sendFrame (frameOf slot true m.prio.toNat pos false (una || l.una))
      else s.sendFrame (frameOf slot mt prio wpos false (una || l.una))
    | none => s.sendFrame (frameOf slot mt prio wpos false (una || l.una))

/-- Frames held for a slot go on once its own result is ready (spec 12 R286 step 3); position 0 starts the merge. -/
def State.ownReady (s : State) (slot : Nat) (l : LocalRes) : State :=
  let s := s.mapFilt (fun f => { f with local_ := Tbl.put f.local_ slot l })
  if s.chainPos = 0 then
    let s := s.mapFilt (fun f => { f with local_ := Tbl.put f.local_ slot { l with used := true } })
    match (if l.una then none else l.hit) with
    | some m => s.sendFrame (frameOf slot true m.prio.toNat 0 false l.una)
    | none => s.sendFrame (frameOf slot false 0 0 false l.una)
  else
    match s.filt.frames.find? (fun w => bits w.toNat 7 0 == slot) with
    | none => s
    | some w => (s.mapFilt (fun f => { f with frames := f.frames.erase w })).runFrame w l

/-- A frame arrives on the ring (spec 12 R285, R286); at most 256 are held. -/
def State.recvFrame (s : State) (w : Word) : State :=
  let v := w.toNat
  if crc8 (v % 2 ^ 24) != bits v 31 24 then (s.count { blk := .filt, code := 0x05, inst := 0 }).err ⟨.filt, 0⟩ 17
  else if !s.flag FILT_CHAIN_EN then s
  else
    match Tbl.get? s.filt.local_ (bits v 7 0) with
    | some l =>
      if bit v 19 || !l.used || s.chainPos = 0 then s.runFrame w l
      else if s.filt.frames.length < 256 then s.mapFilt (fun f => { f with frames := f.frames ++ [w] }) else s
    | none =>
      if bit v 19 || s.chainPos = 0 then (if s.chainPos = 0 then s else s.sendFrame w)
      else if !s.unitsUp s.chainCores then s.sendFrame (frameOf (bits v 7 0) (bit v 8) (bits v 16 9) (bits v 18 17) false true)
      else if s.filt.frames.length < 256 then s.mapFilt (fun f => { f with frames := f.frames ++ [w] }) else s

/-! ### Chain lookups at the requester (spec 12 R286, R287, R289, R290) -/

/-- The other members. -/
def State.chainPeers (s : State) : List Feid := (s.chainAll.filter (· != s.chainPos)).map s.chainFeid

/-- Sends a lookup under a free slot: its own cascade is searched, KEY goes to every other member. No free slot: it waits. -/
def State.chainIssue (s : State) (x : Option Nat) (k : Nat) (r : ChainRes) : State :=
  match (List.range 64).find? (fun i => (Tbl.get? s.filt.slots i).isNone && !s.filt.lapsed.contains i) with
  | none => s
  | some i =>
    let slot := 64 * s.chainPos + i
    let tag : BitVec 16 := BitVec.ofNat 16 slot
    let s := s.mapFilt (fun f => { f with slots := Tbl.put f.slots i k })
    let s := s.chainPeers.foldl
      (fun s f => s.sendYdQ f 2 (.stitchKey f (s.stitchHdr slot tag stOk) r.all (BitVec.ofNat 160 r.key))) s
    let cores := s.cascade r.unit_ true
    if r.all then
      let q := s.allLookup x cores r.key
      q.1.mapFilt (fun f => { f with res := Tbl.put f.res k { r with found := q.2.1, fh := q.2.2, lasts := 0 } })
    else
      let q := s.bestLookup x cores r.key
      (q.1.mapFilt (fun f => { f with res := Tbl.put f.res k { r with fh := q.2.2 } })).ownReady slot
        { hit := q.2.1, una := false, fh := q.2.2, who := s.ownFeid, tag := tag }

/-- A chain lookup's 10 µs end: it is issued again under another slot, or ends TIMEOUT after three attempts (spec 12 R290). -/
def State.stitchLapse (s : State) (i : Nat) : State :=
  match s.slotRes i with
  | none => s
  | some (k, r) =>
    let s := s.mapFilt (fun f => { f with
      slots := Tbl.del f.slots i
      lapsed := setAdd f.lapsed i
      local_ := Tbl.del f.local_ (64 * s.chainPos + i) })
    if 3 ≤ r.tries then s.mapFilt (fun f => { f with res := Tbl.put f.res k { r with done := true, st := stTimeout } })
    else
      let r : ChainRes := { key := r.key, all := r.all, unit_ := r.unit_, tries := r.tries + 1 }
      (s.mapFilt (fun f => { f with res := Tbl.put f.res k r })).chainIssue ((s.procOn (k / 2 ^ 24)).map (·.1)) k r

/-- A lapsed slot becomes reusable. -/
def State.stitchSlotFree (s : State) (i : Nat) : State := s.mapFilt (fun f => { f with lapsed := setDel f.lapsed i })

/-- Whether a verdict stands against a chain member. -/
def State.chainFenced (s : State) : Bool := s.chainPeers.any s.feidFenced

/-- An ALL_RSP arrives: matches gather, and the lookup ends with the last member's last message; a member that could not
search ends it with its status (spec 12 R287). -/
def State.takeAll (s : State) (slot : Nat) (st : Byte) (last : Bool) (ms : List Match) : State :=
  match s.slotRes slot with
  | none => s.stitchLate
  | some (k, r) =>
    if !r.all then s.stitchLate
    else if st != stOk then s.chainDone slot k { r with st := st }
    else
      let r := { r with found := r.found ++ ms, lasts := if last then r.lasts + 1 else r.lasts }
      if r.lasts = s.chainPeers.length then
        s.chainDone slot k { r with found := sortBy (fun (a b : Match) => a.index < b.index) r.found }
      else s.mapFilt (fun f => { f with res := Tbl.put f.res k r })

/-! ### Chain lookups at a member (spec 12 R286, R287, R289) -/

/-- Matches two to a message; the last message says LAST and the count. -/
def State.sendAll (fuel : Nat) (s : State) (who : Feid) (h : StitchHdr) (count : Nat) (ms : List Match) : State :=
  match fuel with
  | 0 => s
  | n + 1 =>
    if ms.length ≤ 2 then s.sendYdQ who 2 (.allRsp who h true count ms)
    else State.sendAll n (s.sendYdQ who 2 (.allRsp who h false 0 (ms.take 2))) who h count (ms.drop 2)

/-- Whether chain, sender and tenant of a KEY fit (spec 12 R289). -/
def State.keyFits (s : State) (p : Nat) (h : StitchHdr) : Bool :=
  s.flag FILT_CHAIN_EN && h.chain.toNat == s.rd FILT_CHAIN_ID && s.chainAll.any (fun i => s.chainFeid i == h.src) &&
    bdTenant (s.map.cur.bind p) == s.rd FILT_CHAIN_TENANT

/-- A KEY arrives (spec 12 R289): refused unless chain, sender and tenant fit; else this member searches. -/
def State.recvKey (s : State) (p : Nat) (h : StitchHdr) (all : Bool) (key : Nat) : State :=
  let fits := s.keyFits p h
  let slot := h.slot.toNat
  let none_ : Match := { index := 0, data := 0, prio := 0 }
  if !fits then
    let a := s.stitchHdr slot h.tag stDenied
    if all then s.sendYdQ h.src 2 (.allRsp h.src a true 0 []) else s.sendYdQ h.src 2 (.bestRsp h.src a false none_ 0)
  else if all then
    if s.unitsUp s.chainCores then
      let q := s.allLookup none s.chainCores key
      State.sendAll (q.2.1.length + 1) q.1 h.src (s.stitchHdr slot h.tag stOk) q.2.1.length q.2.1
    else s.sendYdQ h.src 2 (.allRsp h.src (s.stitchHdr slot h.tag stBusyRetry) true 0 [])
  else if s.unitsUp s.chainCores then
    let q := s.bestLookup none s.chainCores key
    q.1.ownReady slot { hit := q.2.1, una := false, fh := q.2.2, who := h.src, tag := h.tag }
  else s.ownReady slot { hit := none, una := true, fh := 0, who := h.src, tag := h.tag }

/-! ### Soft errors (spec 12 R292, R293) -/

/-- The scrub compares an entry with its shadow and rewrites it where they differ. -/
def State.scrub (s : State) (c e : Nat) : State :=
  let k := camAt c e
  let sh := Tbl.get s.filt.shadow k 0
  if Tbl.get s.filt.cam k 0 == sh then s
  else
    let s := (s.count { blk := .filt, code := 0x04, inst := c }).addSat FILT_ERRS_SCRUB_FIXES 1 c
    s.mapFilt (fun f => { f with cam := Tbl.putD f.cam k 0 sh })

/-- A full scrub pass over one unit's table (spec 12 R302): every entry that differs from its shadow is rewritten and counted. -/
def State.scrubPass (s : State) (c : Nat) : State :=
  ((s.filt.cam ++ s.filt.shadow).filter (fun e => e.1 / 16384 == c)).foldl (fun s e => s.scrub c (e.1 % 16384)) s

/-- An uncorrectable error of an entry: VALID is cleared in both, the loss is latched. -/
def State.loseEntry (s : State) (c e : Nat) : State :=
  let k := camAt c e
  let clr (v : Nat) : Nat := insBits v 328 328 0
  let s := s.mapFilt (fun f => { f with
    cam := Tbl.putD f.cam k 0 (clr (Tbl.get f.cam k 0))
    shadow := Tbl.putD f.shadow k 0 (clr (Tbl.get f.shadow k 0)) })
  let s := (s.count { blk := .filt, code := 0x03, inst := c }).err ⟨.filt, c⟩ 16
  let s := s.set FILT_LOSS_ENTRY e c
  if s.flag FILT_LOSS_VALID c then s.set FILT_LOSS_MORE 1 c else s.set FILT_LOSS_VALID 1 c

/-! ### The tuck (spec 12 R295 to R302) -/

abbrev tuckIdle : Nat := 0
abbrev tuckArmed : Nat := 1
abbrev tuckRun : Nat := 2
abbrev tuckHeld : Nat := 3

def State.tuckState (s : State) : Nat := s.rd FILT_TUCK_CMD_STATE
def State.tuckG (s : State) : Nat := s.rd FILT_TUCK_G_G
def State.tuckH (s : State) : Nat := s.rd FILT_TUCK_H_H

/-- The staged entry. -/
def State.tuckEnt (s : State) : Nat := (List.range 16).foldl (fun n i => n + s.rd FILT_TUCK_ENT_IMAGE 0 i * 2 ^ (32 * i)) 0

/-- The table key of a global index of this device; none for another's. -/
def State.ownIndex (s : State) (i : Nat) : Option Nat := if i / 2 ^ 21 = s.chainPos then some (i % 2 ^ 21) else none

/-- Whether a table key lies in the range of a tuck that is not IDLE. -/
def State.inTuck (s : State) (k : Nat) : Bool :=
  let i := s.chainPos * 2 ^ 21 + k
  s.tuckState != tuckIdle && s.tuckG ≤ i && i ≤ s.tuckH

/-- The units of a range on this device. -/
def State.tuckUnits (s : State) : List Nat :=
  (List.range 128).filter (fun c =>
    let lo := s.chainPos * 2 ^ 21 + 16384 * c
    lo ≤ s.tuckH && s.tuckG < lo + 16384)

/-- Entries of a pleat, 0 for none. -/
def pleatSize (v : Nat) : Nat := match v with | 1 => 8 | 2 => 16 | 3 => 32 | _ => 0

/-- Whether the YD link towards a chain position is up. -/
def State.chainLink (s : State) (p : Nat) : Bool :=
  match s.portOfFeid (s.chainFeid p) with
  | none => false
  | some q => s.ydUp q

/-- The refusal of ARM, in the order of R295. -/
def State.tuckRefusal (s : State) : Nat :=
  let g := s.tuckG
  let h := s.tuckH
  let last := if s.flag FILT_CHAIN_EN then (s.rd FILT_CHAIN_LEN + 1) * 2 ^ 21 - 1 else 2 ^ 21 - 1
  let pleat := s.tuckUnits.any (fun c =>
    let z := pleatSize (s.rd FILT_CTL_PLEAT c)
    z != 0 && (g / z != h / z || h % z != z - 1))
  let peers := (List.range 4).filter (fun p => g / 2 ^ 21 ≤ p && p ≤ h / 2 ^ 21 && p != s.chainPos)
  if h ≤ g || last < g || last < h || camReserved s.tuckEnt || pleat then rcFieldRange
  else if (match s.ownIndex h with | some k => camValid (s.camRead k) | none => false) then rcOverlap
  else if s.tuckState != tuckIdle then rcMoving
  else if !s.unitsUp s.tuckUnits || !peers.all s.chainLink then rcDependency
  else rcOk

/-- Writes the result of a tuck command. -/
def State.tuckResult (s : State) (code : Nat) : State := (s.set FILT_TUCK_CMD_RESULT code).set FILT_TUCK_CMD_GO 0

/-- ARM (spec 12 R295): the device that holds H runs at once. -/
def State.tuckArm (s : State) : State :=
  let code := s.tuckRefusal
  let s := s.tuckResult code
  if code != rcOk then s
  else
    let s := s.mapFilt (fun f => { f with lastMsg := none, crossWait := false, crossing := false, entryHalf := none })
    if s.tuckH / 2 ^ 21 = s.chainPos then
      (s.set FILT_TUCK_CMD_STATE tuckRun).mapFilt (fun f => { f with tuckNext := s.tuckH })
    else s.set FILT_TUCK_CMD_STATE tuckArmed

/-- Sends a TUCK message and notes it as the device's last. -/
def State.sendTuck (s : State) (pos : Nat) (op : BitVec 3) : State :=
  let f := s.chainFeid pos
  let m : Msg := .tuck f (s.stitchHdr 0 0 stOk) op false 0
  (s.mapFilt (fun t => { t with lastMsg := some (pos, m) })).sendYdQ f 2 m

abbrev tkContinue : BitVec 3 := 1
abbrev tkEntry : BitVec 3 := 2
abbrev tkAck : BitVec 3 := 3
abbrev tkAbort : BitVec 3 := 4

/-- A running tuck copies one entry up, crosses to the lower device at its lowest index, and writes the staged entry after
the last copy (spec 12 R296, R297). Its cursor in a fenced core pauses it until the unit is enabled again (R301). -/
def State.tuckCopy (s : State) : State :=
  let d := s.filt.tuckNext
  let lo := s.chainPos * 2 ^ 21
  let k := d % 2 ^ 21
  if s.tuckState != tuckRun || s.filt.crossing || s.filt.fenced.contains (k / 16384) then s
  else if d = s.tuckG then
    (s.camWrite k s.tuckEnt).set FILT_TUCK_CMD_STATE tuckIdle
  else if d = lo then (s.mapFilt (fun f => { f with crossing := true })).sendTuck (s.chainPos - 1) tkContinue
  else
    let s := (s.camWrite k (s.camRead (k - 1))).set FILT_TUCK_CUR_CURSOR d
    let s := s.mapFilt (fun f => { f with tuckNext := d - 1 })
    if d - 1 = s.tuckG then (s.camWrite (k - 1) s.tuckEnt).set FILT_TUCK_CMD_STATE tuckIdle else s

/-- The two ENTRY messages of the lower device's top entry. -/
def State.sendEntry (s : State) : State :=
  let img := s.camRead (2 ^ 21 - 1)
  let pos := s.chainPos + 1
  let f := s.chainFeid pos
  let m (part : Bool) : Msg :=
    .tuck f (s.stitchHdr 0 0 stOk) tkEntry part (BitVec.ofNat 256 (if part then bits img 511 256 else bits img 255 0))
  let s := s.mapFilt (fun t => { t with lastMsg := some (pos, m true) })
  (s.sendYdQ f 2 (m false)).sendYdQ f 2 (m true)

/-- CONTINUE arrives: an ARMED device answers with its top entry, any other with ABORT (spec 12 R297). -/
def State.recvContinue (s : State) (h : StitchHdr) : State :=
  if s.tuckState = tuckArmed && h.pos.toNat == s.chainPos + 1 then s.sendEntry
  else s.sendYdQ h.src 2 (.tuck h.src (s.stitchHdr 0 h.tag stOk) tkAbort false 0)

/-- ENTRY arrives: with both halves the upper device writes the entry at d, acknowledges and returns to IDLE; a duplicate is
acknowledged again (spec 12 R297). -/
def State.recvEntry (s : State) (h : StitchHdr) (part : Bool) (half : BitVec 256) : State :=
  let ack : Msg := .tuck h.src (s.stitchHdr 0 h.tag stOk) tkAck false 0
  if s.tuckState = tuckRun && s.filt.crossing then
    if !part then s.mapFilt (fun f => { f with entryHalf := some half })
    else
      match s.filt.entryHalf with
      | none => s
      | some low =>
        let d := s.filt.tuckNext
        let s := (s.camWrite (d % 2 ^ 21) (low.toNat + half.toNat * 2 ^ 256)).set FILT_TUCK_CUR_CURSOR d
        let s := s.mapFilt (fun f => { f with crossing := false, entryHalf := none, lastMsg := none })
        (s.set FILT_TUCK_CMD_STATE tuckIdle).sendYdQ h.src 2 ack
  else if s.tuckState = tuckIdle && part then s.sendYdQ h.src 2 ack
  else s

/-- ACK arrives at the lower device: its 10 µs wait begins. -/
def State.recvTuckAck (s : State) : State :=
  if s.tuckState = tuckArmed && s.filt.lastMsg.isSome then s.mapFilt (fun f => { f with crossWait := true, lastMsg := none }) else s

/-- The wait ends: the lower device runs, into its own top entry. -/
def State.tuckCross (s : State) : State :=
  if s.filt.crossWait then
    (s.mapFilt (fun f => { f with crossWait := false, tuckNext := s.chainPos * 2 ^ 21 + (2 ^ 21 - 1) })).set
      FILT_TUCK_CMD_STATE tuckRun
  else s

/-- A device stops its part of a tuck and returns to IDLE (spec 12 R299). -/
def State.tuckStop (s : State) : State :=
  (s.mapFilt (fun f => { f with crossWait := false, crossing := false, entryHalf := none, lastMsg := none })).set
    FILT_TUCK_CMD_STATE tuckIdle

/-- ABORT: sent to every device of the range. -/
def State.tuckAbortCmd (s : State) : State :=
  let peers := (List.range 4).filter (fun p => s.tuckG / 2 ^ 21 ≤ p && p ≤ s.tuckH / 2 ^ 21 && p != s.chainPos)
  let s := if s.flag FILT_CHAIN_EN then
      peers.foldl (fun s p => s.sendYdQ (s.chainFeid p) 2 (.tuck (s.chainFeid p) (s.stitchHdr 0 0 stOk) tkAbort false 0)) s
    else s
  (s.tuckStop).tuckResult rcOk

/-- Resends an unanswered CONTINUE or the ENTRY messages (spec 12 R297). -/
def State.tuckAgain (s : State) : State :=
  match s.filt.lastMsg with
  | none => s
  | some (pos, m) => if s.tuckState = tuckArmed then s.sendEntry else s.sendYdQ (s.chainFeid pos) 2 m

/-- RESUME of a HELD tuck (spec 12 R302); on any other state it is refused with TABLE_MOVING (DESIGN CHOICE, log 21). -/
def State.tuckResume (s : State) : State :=
  let lower := s.tuckG / 2 ^ 21 < s.chainPos
  if s.tuckState != tuckHeld then s.tuckResult rcMoving
  else if !s.flag FILT_CHAIN_EN || (lower && !s.chainLink (s.chainPos - 1)) then s.tuckResult rcDependency
  else
    let s := (s.tuckResult rcOk).set FILT_TUCK_CMD_STATE (if s.filt.heldRun then tuckRun else tuckArmed)
    s.tuckAgain

end Sys2Proof.Machine
end

