-- ==== Sys2Proof/Machine/Descs.lean ====
section
/-! DEFINITION. How a descriptor reads: a run over its inputs that succeeds, fails with a status, or waits for snoops, remote
data or a page (spec 09 R211, R218, R222, R223; 10 R230 to R237; 01 R17; 07 R176, R179). -/

namespace Sys2Proof.Machine

/-- Why a run stops before its end. -/
inductive Stop where
  | fail (st : Byte)
  | wait
deriving DecidableEq, Repr

/-- What a run gathers: the state its filter lookups leave, flags, whether a poisoned line or a cloaked extent was read, the
pool lines read, and what it must wait for (lines to snoop, pages to expand, remote lines, chain lookups). -/
structure Acc where
  st     : State
  flags  : Nat := 0
  dep    : Bool := false
  cloak  : Bool := false
  lines  : List Nat := []
  snoops : List Nat := []
  pages  : List Nat := []
  asks   : List (Nat × Space) := []
  chain  : List (Nat × ChainRes) := []
deriving DecidableEq, Repr

/-- A run over inputs. -/
abbrev Run (α : Type) := ExceptT Stop (StateM Acc) α

/-- The setting of a run: context, procedure, core, the map of its epoch, its tenant, MARK mode. -/
structure Env where
  s      : State
  x      : Nat
  p      : Proc
  core   : Nat
  b      : Bank
  tenant : Nat
  mark   : Bool

/-- Ends a run with a status. -/
def failWith {α : Type} (st : Byte) : Run α := throw (.fail st)

/-- Notes something to wait for, and stops. -/
def waitFor {α : Type} (f : Acc → Acc) : Run α := do
  modify f
  throw .wait

/-- Whether a pool line may be read now: its hand-over state, R69, its trays, size-map initialisation (spec 03 R69, R73, R76; 07
R160). -/
inductive LineCase where
  | go
  | hold
  | denied
  | failed
  | forward (dst : Feid)
deriving DecidableEq, Repr

/-- Whether the owner slice of an extent differs between the current and the draining map (spec 03 R69). -/
def State.slicesDiffer (s : State) (x : Nat) : Bool :=
  match s.map.draining with
  | none => false
  | some d => exOwner (d.extent x) != exOwner (s.map.cur.extent x)

/-- The case of a request of an epoch for an extent of this home. -/
def State.extentCase (s : State) (epoch x : Nat) : LineCase :=
  let ho : LineCase :=
    match s.ho x with
    | none => .go
    | some h =>
      match h.st with
      | .owned => .go
      | .giving | .givenUnconfirmed | .awaiting | .taking => .hold
      | .given => if h.gaveUp then .denied else .forward h.feid
      | .failed => .failed
  match ho with
  | .go =>
    if s.draining && epoch == s.epoch && (s.slicesDiffer x || s.map.moved.contains x) then .hold
    else if s.map.smapInit.contains x then .hold
    else .go
  | c => c

/-- Whether some port can serve a T2 line (spec 06 R148, R151, R468; 07 R159). -/
def State.t2Reachable (s : State) (b : Bank) (a : Nat) : Bool :=
  let xi := a / 2 ^ 30
  s.areaTakes (b.extent xi) &&
    match s.placeOf b a with
    | .one port _ => s.linked port
    | .mirror pl p0 p1 _ => (!s.headFailed xi pl 0 && s.linked p0) || (!s.headFailed xi pl 1 && s.linked p1)
    | .coded pl u _ => let ok := s.codedReadable b xi pl; ok.contains u || 8 ≤ ok.length

/-- Whether a core's read takes a line from a tray: no T1 copy without an error in a clean unit, no local replica, and a stored line
to read (spec 06 R128; 07 R157, R174). -/
def State.fromTray (s : State) (x a : Nat) : Bool :=
  ((s.tierOf x a == .t2 || s.tierOf x a == .t3) && !s.home.repl.local_.contains (a / 4096) || s.t1Stale a) &&
    (s.trayLines x (a / 64)).2 != 0

/-- A line from bytes of a remote read, whole. -/
def pLine (l : List Byte) (poison : Bool) : List PByte := (List.range 64).map (fun i => ((l[i]?).getD 0, poison))

/-- What a poisoned line reads as: it ends the run, or reads as zeros that carry the mark (spec 09 R222, R223). -/
def poisonedLine (e : Env) : Run (List PByte) := do
  if e.mark then
    modify (fun a => { a with dep := true })
    return List.replicate 64 ((0 : Byte), true)
  else failWith stPoisoned

/-- Reads a line of a peer or host: from what has arrived, else the read is asked for (spec 09 R211, R218). -/
def readRemote (e : Env) (key : Nat) (sp : Space) : Run (List PByte) := do
  match e.p.remote.find? (fun r => r.addr == key) with
  | none => waitFor (fun a => { a with asks := a.asks ++ [(key, sp)] })
  | some r =>
    match r.res with
    | none => throw .wait
    | some (st, bytes, poison) =>
      if poison || st = stPoisoned then poisonedLine e
      else if st = stBusyRetry then waitFor (fun a => { a with asks := a.asks ++ [(key, sp)] })
      else if st != stOk then failWith st
      else return pLine bytes false

/-- Reads a pool line coherently at the home (spec 01 R17): permission, hand-over state, snoops, tiers, expansion. -/
def readPoolLine (e : Env) (key a : Nat) : Run (List PByte) := do
  let s := e.s
  let xi := a / 2 ^ 30
  let x := e.b.extent xi
  if !e.b.ctxMay e.tenant x then failWith stDenied
  else
    let cloaked := exCloaked x || s.noCmpr e.tenant
    modify (fun c => { c with
      flags := if s.isTainted xi then c.flags ||| flTainted else c.flags
      cloak := c.cloak || cloaked })
    match s.extentCase e.p.epoch xi with
    | .denied => failWith stDenied
    | .failed => failWith stHandoffFailed
    | .hold => throw .wait
    | .forward dst => readRemote e key (.peer dst a)
    | .go =>
      let l := a / 64
      let owned : Bool := match s.dirAt l with | some d => d.st != .s | none => false
      if s.home.txns.any (fun t => s.sameUnit t l && t.acc.writes) then throw .wait
      else if owned then waitFor (fun c => { c with snoops := c.snoops ++ [l] })
      else
        match s.prefCase e.x (pageNo a) with
        | .wait => throw .wait
        | pc =>
          match s.tierOf x a with
          | tier =>
            if tier == .t4 || (tier == .t3 && (pc != .fallback || s.keyless e.tenant)) then
              waitFor (fun c => { c with pages := c.pages ++ [pageNo a] })
            else if s.fromTray x a && !s.t2Reachable e.b a then poisonedLine e
            else
              let v := (s.nearRead x a).readPool e.b a
              let fl := (if pc == .fallback then flFallback else 0) + (if v.overrun then flOverrun else 0) +
                (if v.underrun then flUnderrun else 0)
              modify (fun c => { c with flags := c.flags ||| fl, lines := c.lines ++ [l] })
              if (v.overrun || v.underrun) && s.flag CMPR_CTL_STRICT then failWith stBlockSize
              else if v.poison then poisonedLine e
              else return (lineBytes v.data).map (fun b => (b, false))

/-- Reads the line of a procedure address. -/
def readLine (e : Env) (key : Nat) : Run (List PByte) := do
  match spaceOf key with
  | .bad => failWith stDenied
  | .pool a => readPoolLine e key a
  | sp =>
    if !e.s.spaceMay e.b e.tenant sp then failWith stDenied
    else readRemote e key sp

/-- Bits of the byte address within its SPACE. -/
def spaceWidth (a : Nat) : Nat := if bits a 63 60 = 0 then 48 else 44

/-- An address at an offset from a base, none where it leaves the range of its SPACE (spec 10 R238, 09 R211). -/
def addrOff (base : Nat) (off : Int) : Option Nat :=
  let w := 2 ^ spaceWidth base
  let r : Int := (base % w : Nat) + off
  if 0 ≤ r && r < w then some (base - base % w + r.toNat) else none

/-- Reads n bytes at a procedure address. -/
def readRun (e : Env) (a n : Nat) : Run (List PByte) := do
  if n = 0 then return []
  else if 2 ^ spaceWidth a < a % 2 ^ spaceWidth a + n then failWith stDenied
  else
    let first := a / 64
    let ls ← (List.range ((a + n - 1) / 64 - first + 1)).mapM (fun i => readLine e (64 * (first + i)))
    return (ls.flatten.drop (a % 64)).take n

/-- Reads n bytes at a base and offset. -/
def readAt (e : Env) (base : Nat) (off : Int) (n : Nat) : Run (List PByte) := do
  match addrOff base off with
  | none => failWith stDenied
  | some a => readRun e a n

/-- What a descriptor's run leaves: outputs in their order of issue, a commit log, result words, the MX type of its output,
and whether it parks. -/
structure Res where
  outs : List (Nat × List PByte) := []
  log  : List LogEntry := []
  res  : List Nat := []
  mx   : Nat := 0
  park : Bool := false
deriving DecidableEq, Repr

/-- An output at a base and offset; leaving the range of its SPACE is DENIED. -/
def outAt (base : Nat) (off : Int) (bytes : List PByte) : Run (Nat × List PByte) := do
  match addrOff base off with
  | none => failWith stDenied
  | some a => if 2 ^ spaceWidth a < a % 2 ^ spaceWidth a + bytes.length then failWith stDenied else return (a, bytes)

/-- A word and a double word of a run of bytes. -/
def word32 (l : List PByte) (i : Nat) : PNat := pNat ((l.drop (4 * i)).take 4)
def word64 (l : List PByte) (i : Nat) : PNat := pNat ((l.drop (8 * i)).take 8)

/-! ### Effects of a run on the state -/

/-- What a core's read of a tray line meets there: a size-map miss, a failed head, a degraded unit (spec 06 R148, R151; 07 R161). -/
def State.noteTray (b : Bank) (s : State) (l : Nat) : State :=
  let a := 64 * l
  let xi := a / 2 ^ 30
  let s := (s.smapLookup (b.extent xi) l).1
  match s.placeOf b a with
  | .one _ _ => s
  | .mirror pl p0 p1 _ =>
    let r := s.tryHead xi pl 0 p0 a
    if r.2 then r.1 else (r.1.tryHead xi pl 1 p1 a).1
  | .coded pl u _ =>
    if (s.codedReadable b xi pl).contains u then s
    else ((s.failHead xi pl u).count { blk := .tier, code := 0x07, addr := some a }).err ⟨.tier, 0⟩ 19

/-- Counts the lines a run read at the home, feeds the replica and promotion windows, and leaves what the reads met in the near tier
and at the trays (spec 06 R131; 07 R174). -/
def State.noteReads (s : State) (b : Bank) (x : Nat) (ls : List Nat) : State :=
  ls.foldl
    (fun s l =>
      let a := 64 * l
      let e := b.extent (a / 2 ^ 30)
      let s := s.count { blk := .home, code := 0x01, addr := some a, cls := some 0, master := some (3, x), ctx := some x }
      let s := s.mapRepl (fun r => r.sawRead (l / 64))
      let s := (s.touchPage true true (l / 1024)).touch a
      let s := if s.fromTray e a then State.noteTray b s l else s
      s.nearRead e a) s

/-- Issues the read of a remote line for a procedure, where its link carries traffic (spec 09 R211, R218). -/
def State.askRemote (s : State) (x : Nat) (p : Proc) (key : Nat) (sp : Space) : State :=
  let t := s.freshTag
  let go (m : Msg) (port : Nat) : State :=
    (t.2.sendProc port x (trPrio p.trig) kindRead m).modProc x p.id (fun q =>
      { q with remote := q.remote.filter (fun r => r.addr != key) ++ [{ addr := key, tag := t.1 }] })
  match sp with
  | .peer f a =>
    match s.portOfFeid f with
    | none => s
    | some port =>
      if s.peerFilled f (a / 4096) then
        s.modProc x p.id (fun q => { q with
          remote := q.remote.filter (fun r => r.addr != key) ++
            [{ addr := key, tag := t.1, res := some (stOk, lineBytes (s.peerLine f a), false) }] })
      else if s.ydUp port then go (.yd 0x01 { dst := f, src := s.ownFeid, tag := t.1, arg := BitVec.ofNat 64 a } []) port else s
  | .host port a => if s.linked port && !s.ydUp port then go (.ioMemRd t.1 a 64) port else s
  | _ => s

/-- Starts what a run waits for; the run is made again when it has come. -/
def State.askFor (s : State) (x : Nat) (p : Proc) (a : Acc) : State :=
  let s := a.snoops.foldl
    (fun s l =>
      if s.home.txns.any (fun t => t.line == l && t.src == .internal && t.acc == .readUnc 0 0) then s
      else s.addTxn .internal (.readUnc 0 0) l p.epoch) s
  let s := a.pages.foldl (fun s q => s.startExpand ((s.bank p.epoch).extent (q / 2 ^ 14)) q) s
  let s := a.asks.foldl (fun s q => s.askRemote x p q.1 q.2) s
  a.chain.foldl (fun s q => s.chainIssue (some x) q.1 q.2) s

/-- Data or a refusal arrives for a remote read of a procedure; none where no procedure waits under the tag. -/
def State.fillRemote (s : State) (tag : BitVec 16) (st : Byte) (data : List Byte) (poison : Bool) : Option State :=
  let hit (r : RemoteRd) : Bool := r.tag == tag && r.res.isNone
  if s.procs.procs.any (fun q => q.2.any (fun (p : Proc) => p.remote.any hit)) then
    some { s with procs := { s.procs with procs := s.procs.procs.map (fun (q : Nat × List Proc) =>
      (q.1, q.2.map (fun (p : Proc) => { p with remote := p.remote.map (fun (r : RemoteRd) =>
        if hit r then { r with res := some (st, data, poison) } else r) }))) } }
  else none

/-- A zero-length read of a procedure has completed; none where no procedure waits for it. -/
def State.hostFlushed (s : State) (port : Nat) (tag : BitVec 16) : Option State :=
  if s.procs.procs.any (fun q => q.2.any (fun (p : Proc) => p.rdPorts.contains (port, tag))) then
    some { s with procs := { s.procs with procs := s.procs.procs.map (fun (q : Nat × List Proc) =>
      (q.1, q.2.map (fun (p : Proc) => { p with rdPorts := p.rdPorts.filter (fun r => r != (port, tag)) }))) } }
  else none

end Sys2Proof.Machine
end

