-- ==== Sys2Proof/Machine/Opcodes.lean ====
section
/-! DEFINITION. The opcodes of descriptors: the checks of their fields, the sizes they declare, what each computes (spec 09
R221; 10 R230 to R254). A descriptor is the number its 64 bytes hold. -/

namespace Sys2Proof.Machine

/-! ### The header and the shared checks (spec 10 R230, R231) -/

def dOpc (d : Nat) : Nat := bits d 7 0
def dRes (d : Nat) : Bool := bit d 8
def dMark (d : Nat) : Bool := bit d 9
def dOenc (d : Nat) : Nat := bits d 19 16

/-- Whether an address is malformed or not aligned. -/
def addrBad (a n : Nat) : Bool := malformed a || a % n != 0

/-- Whether an address of a POOL field is refused. -/
def poolBad (a n : Nat) : Bool := bits a 63 60 != 0 || addrBad a n

/-- Alignment of a record: its size where that is a power of two, else that of its elements. -/
def recAlign (size elem : Nat) : Nat := if size = 2 ^ Nat.log2 size then size else elem

/-- Whether so many bytes hold whole elements of a type (spec 10 R238). -/
def wholeRow (ty n : Nat) : Bool := if isMx ty then n % 256 == 0 else n * 8 % typeBits ty == 0

/-- Whether a type is FP32, BF16 or FP16. -/
def isWide (ty : Nat) : Bool := ty ≤ 2

/-- Whether an index type is listed. -/
def idxListed (ty : Nat) : Bool := ty == 0xA || ty == 0xB || ty == 0xC

/-- Bytes of an index list's entry. -/
def idxSize (ty : Nat) (pair : Bool) : Nat := if pair then 8 else if ty == 0xC then 8 else 4

/-- Whether an address read from memory, which is no malformed one, is not aligned: those are DENIED at their use (spec 09 R211). -/
def listBad (a n : Nat) : Bool := !malformed a && a % n != 0

/-- Whether a pool range touches an extent with CMPR = 1. -/
def Env.cmprRange (e : Env) (a n : Nat) : Bool :=
  let coded (p : Nat) : Bool := let x := e.b.extent (p / 2 ^ 30); exValid x && exCmpr x
  match spaceOf a with
  | .pool p => coded p || coded (p + n - 1)
  | _ => false

/-! ### Lists of indices -/

/-- An entry of an index list (spec 10 R238). -/
structure Idx where
  hole : Bool
  x    : Int
  dep  : Bool
deriving DecidableEq, Repr

/-- Reads entry i of an index list. -/
def readIdx (e : Env) (a ty : Nat) (pair : Bool) (i : Nat) : Run Idx := do
  let n := idxSize ty pair
  let bs ← readAt e a (n * i : Nat) n
  let w := if ty == 0xC then 64 else 32
  let v := pNat (bs.take (w / 8))
  return { hole := v.1 = 2 ^ w - 1, x := if ty == 0xA then signedOf 32 v.1 else v.1, dep := v.2 }

/-- Reads the row of an index. -/
def readRow (e : Env) (base stride : Nat) (x : Int) (n : Nat) : Run (List PByte) := readAt e base (x * (stride : Int)) n

/-- Marks every byte as dependent where a control input is. -/
def steer (dep : Bool) (l : List PByte) : List PByte := if dep then l.map (fun b => (b.1, true)) else l

/-- So many bytes of one value. -/
def fillBytes (n : Nat) (b : Byte) (dep : Bool) : List PByte := List.replicate n (b, dep)

/-! ### GATHER (spec 10 R238) -/

def checkGather (d : Nat) : Bool :=
  let src := bits d 384 381
  let dst := bits d 388 385
  let conv := bits d 390 389
  let rows := bits d 376 360
  let ity := bits d 380 377
  let pair := bit d 391
  let n := rowElems src rows
  bits d 511 392 != 0 || bits d 359 336 == 0 || rows == 0 || 65536 < rows || !idxListed ity || (pair && ity != 0xB) ||
  !typeListed src || !typeListed dst || !wholeRow src rows || !countOk dst n ||
  addrBad (bits d 95 32) (idxSize ity pair) || addrBad (bits d 159 96) (typeAlign src) ||
  bits d 335 288 % typeAlign src != 0 || addrBad (bits d 223 160) (typeAlign dst) ||
  (if conv < 2 then bits d 287 224 != 0 else addrBad (bits d 287 224) 4) ||
  (match conv with
    | 0 => src != dst
    | 1 => false
    | 2 => !((src == 8 || src == 9 || src == 3 || src == 4) && isWide dst)
    | _ => !(isWide src && (dst == 8 || dst == 9 || dst == 3)))

/-- The output row and scale of one index. -/
def gatherRow (e : Env) (d i : Nat) : Run (Bool × List PByte × PNat) := do
  let src := bits d 384 381
  let dst := bits d 388 385
  let rows := bits d 376 360
  let n := rowElems src rows
  let ix ← readIdx e (bits d 95 32) (bits d 380 377) (bit d 391) i
  if ix.hole then return (true, fillBytes (rowBytes dst n) 0 ix.dep, (0, ix.dep))
  else
    let row ← readRow e (bits d 159 96) (bits d 335 288) ix.x rows
    match bits d 390 389 with
    | 0 => return (false, steer ix.dep (cleanRow src n row), (0, false))
    | 1 => return (false, steer ix.dep (convertRow src dst n row), (0, false))
    | 2 => do
      let sc ← readRow e (bits d 287 224) 4 ix.x 4
      return (false, steer ix.dep (dequantRow src dst n row (pNat sc)), (0, false))
    | _ =>
      let q := quantRow src dst n row
      return (false, steer ix.dep q.1, (q.2.1, q.2.2 || ix.dep))

def runGather (e : Env) (d : Nat) : Run Res := do
  let rs ← (List.range (bits d 359 336)).mapM (gatherRow e d)
  let out ← outAt (bits d 223 160) 0 (rs.map (fun r => r.2.1)).flatten
  let holes := (rs.filter (fun r => r.1)).length
  let dst := bits d 388 385
  let mx := if isMx dst then dst else 0
  if bits d 390 389 = 3 then
    let sc ← outAt (bits d 287 224) 0 (rs.map (fun r => pBytes 4 r.2.2)).flatten
    return { outs := [out, sc], res := [holes], mx := mx }
  else return { outs := [out], res := [holes], mx := mx }

/-! ### SCATTER (spec 10 R239) -/

def checkScatter (d : Nat) : Bool :=
  let ty := bits d 320 317
  let mode := bits d 322 321
  let rows := bits d 312 296
  let ity := bits d 316 313
  bits d 511 323 != 0 || bits d 295 272 == 0 || rows == 0 || 65536 < rows || !idxListed ity || mode == 3 ||
  !typeListed ty || (mode != 0 && !(isWide ty || ty == 0xA)) || !wholeRow ty rows ||
  addrBad (bits d 95 32) (idxSize ity false) || addrBad (bits d 159 96) (typeAlign ty) ||
  (if mode = 0 then addrBad (bits d 223 160) (typeAlign ty) else poolBad (bits d 223 160) (typeAlign ty)) ||
  bits d 271 224 % typeAlign ty != 0

/-- The log entries of a row: one for each destination line. -/
def logRow (mode ty a : Nat) (row : List PByte) (dep : Bool) : List LogEntry :=
  let first := a / 64
  (List.range ((a + row.length - 1) / 64 - first + 1)).map (fun i =>
    let lo := max a (64 * (first + i))
    let hi := min (a + row.length) (64 * (first + i) + 64)
    let part := (row.drop (lo - a)).take (hi - lo)
    { addr := lo, op := mode, ty := ty, bytes := part.map (·.1), mark := dep || part.any (·.2) })

/-- One row of a SCATTER: its output, or its log entries. -/
def scatterRow (e : Env) (d i : Nat) : Run (List (Nat × List PByte) × List LogEntry) := do
  let rows := bits d 312 296
  let mode := bits d 322 321
  let ix ← readIdx e (bits d 95 32) (bits d 316 313) false i
  if ix.hole then return ([], [])
  else
    let row ← readAt e (bits d 159 96) (rows * i : Nat) rows
    let row := if mode = 0 then cleanRow (bits d 320 317) (rowElems (bits d 320 317) rows) row else row
    let o ← outAt (bits d 223 160) (ix.x * (bits d 271 224 : Nat)) (steer ix.dep row)
    if mode = 0 then return ([o], []) else return ([], logRow mode (bits d 320 317) o.1 o.2 ix.dep)

def runScatter (e : Env) (d : Nat) : Run Res := do
  let rs ← (List.range (bits d 295 272)).mapM (scatterRow e d)
  let ty := bits d 320 317
  return { outs := (rs.map (·.1)).flatten, log := (rs.map (·.2)).flatten, mx := if isMx ty then ty else 0 }

/-! ### COPY -/

def checkCopy (d : Nat) : Bool :=
  bits d 511 183 != 0 || bits d 182 160 == 0 || 4194304 < bits d 182 160 || malformed (bits d 95 32) || malformed (bits d 159 96)

def runCopy (e : Env) (d : Nat) : Run Res := do
  let l ← readRun e (bits d 95 32) (bits d 182 160)
  let o ← outAt (bits d 159 96) 0 l
  return { outs := [o] }

/-! ### FILTER (spec 10 R240; 12 R283, R287, R289, R301) -/

def checkFilter (e : Env) (d : Nat) : Bool :=
  let rec_ := bits d 190 184
  let mode := bits d 203 202
  let core := bits d 211 204
  let off := bits d 196 191
  let len := bits d 201 197
  let osz := match mode with | 0 => 8 | 1 => 16 | _ => 4
  bits d 215 213 != 0 || bits d 511 272 != 0 || bits d 183 160 == 0 || rec_ == 0 || 64 < rec_ || len == 0 || 20 < len ||
  rec_ < off + len || mode == 3 || (mode != 0 && bits d 271 248 == 0) ||
  addrBad (bits d 95 32) (recAlign rec_ 1) || addrBad (bits d 159 96) osz ||
  (core != 0xFF && (127 < core || !bit (slCores (e.b.slice (e.s.rd CTX_BIND_SLICE e.x))) core))

/-- The lookup of one record on this device, or the chain's answer; none while the chain has not answered. -/
def filterLookup (e : Env) (unit : Nat) (scope all : Bool) (i key : Nat) : Run (Option (List Match × Nat)) := do
  let a ← get
  let cores := a.st.cascade unit scope
  if !a.st.unitsUp cores then failWith stBusyRetry
  else if a.st.unitsAsleep cores then throw .wait
  else if scope && a.st.flag FILT_CASC_STITCH unit && a.st.flag FILT_CHAIN_EN then
    if e.tenant != a.st.rd FILT_CHAIN_TENANT then failWith stDenied
    else if a.st.chainFenced then failWith stBusyRetry
    else
      let k := e.core * 2 ^ 24 + i
      match Tbl.get? a.st.filt.res k with
      | none => do
        modify (fun c => { c with chain := c.chain ++ [(k, { key := key, all := all, unit_ := unit })] })
        return none
      | some r =>
        if !r.done then
          if !a.st.filt.slots.any (fun (q : Nat × Nat) => q.2 == k) then modify (fun c => { c with chain := c.chain ++ [(k, r)] })
          return none
        else if r.st != stOk then failWith r.st
        else return some (if all then r.found else r.hit.toList, r.fh)
  else if all then
    let q := a.st.allLookup (some e.x) cores key
    set { a with st := q.1 }
    return some (q.2.1, q.2.2)
  else
    let q := a.st.bestLookup (some e.x) cores key
    set { a with st := q.1 }
    return some (q.2.1.toList, q.2.2)

/-- The entry of an ALL output. -/
def allEntry (i : Nat) (m : Match) : Nat := i + m.index * 2 ^ 32 + m.data.toNat * 2 ^ 64 + m.prio.toNat * 2 ^ 96

def runFilter (e : Env) (d : Nat) : Run Res := do
  let rec_ := bits d 190 184
  let mode := bits d 203 202
  let unit := if bits d 211 204 = 0xFF then e.core else bits d 211 204
  let scope := bit d 212
  let slice := e.b.slice (e.s.rd CTX_BIND_SLICE e.x)
  if (e.s.cascade unit scope).any (fun c => !bit (slCores slice) c) then failWith stDenied
  else
    let hits ← (List.range (bits d 183 160)).mapM (fun i => do
      let r ← readAt e (bits d 95 32) (rec_ * i : Nat) rec_
      let key := pNat ((r.drop (bits d 196 191)).take (bits d 201 197))
      let h ← filterLookup e unit scope (mode == 1) i key.1
      return (h, key.2))
    let got : List (List Match × Nat × Bool) := hits.filterMap (fun h => h.1.map (fun m => (m.1, m.2, h.2)))
    if got.length != hits.length then throw .wait
    else
      let fh := got.foldl (fun n g => n + g.2.1) 0
      let dep := got.any (fun g => g.2.2)
      if fh != 0 then modify (fun c => { c with flags := c.flags ||| flFalseHit })
      let sat (n : Nat) : Nat := min n (2 ^ 32 - 1)
      if mode = 0 then
        let o ← outAt (bits d 159 96) 0 ((got.map (fun g =>
          let v := match g.1 with | [] => 0xFFFFFFFF | m :: _ => m.index + m.data.toNat * 2 ^ 32
          pBytes 8 (v, g.2.2))).flatten)
        return { outs := [o], res := [got.length, 0, sat fh] }
      else
        let cap := bits d 271 248
        let size := if mode = 1 then 16 else 4
        let found := (got.zipIdx.foldl
          (fun (acc : List PNat × Bool) (g : (List Match × Nat × Bool) × Nat) =>
            let dp := acc.2 || g.1.2.2
            if mode = 1 then (acc.1 ++ g.1.1.map (fun m => (allEntry g.2 m, dp)), dp)
            else
              match g.1.1 with
              | [] => (acc.1, dp)
              | m :: _ => (if bit m.data.toNat 31 then acc.1 else acc.1 ++ [((bits d 247 216 + g.2) % 2 ^ 32, dp)], dp))
          (([] : List PNat), false)).1
        let kept := found.take cap
        let o ← outAt (bits d 159 96) 0
          ((kept.map (pBytes size)).flatten ++ fillBytes (size * (cap - kept.length)) 0xFF dep)
        return { outs := [o], res := [kept.length, sat found.length, sat fh] }

/-! ### SCORE (spec 10 R241) -/

def checkScore (d : Nat) : Bool :=
  let q := bits d 380 377
  let k := bits d 384 381
  let dim := bits d 372 360
  bits d 511 387 != 0 || bits d 359 336 == 0 || 1048576 < bits d 359 336 || dim == 0 || 4096 < dim || bits d 386 385 == 3 ||
  (engineK q k).isNone || !countOk q dim || !countOk k dim || addrBad (bits d 95 32) (typeAlign q) ||
  addrBad (bits d 159 96) (typeAlign k) || bits d 335 288 % typeAlign k != 0 || addrBad (bits d 223 160) 4 ||
  addrBad (bits d 287 224) 4

/-- A dot product of two rows from +0.0, as FP32; integer sums are converted (spec 08 R183, R184). -/
def dotRows (ta tb : Nat) (a b : List Elem) : Nat :=
  if isInt ta then
    toF32 (.fin (signedOf 32 (dotInt 0 ((a.zip b).map (fun p => (signedOf (typeBits ta) p.1.raw, signedOf (typeBits tb) p.2.raw))))) 0 false)
  else dotFloat ((engineK ta tb).getD 1) 0 ((a.zip b).map (fun p => (p.1.ex ta, p.2.ex tb)))

/-- A score from its dot products. -/
def scoreOf (metric dqk qq kk : Nat) : Nat :=
  match metric with
  | 0 => dqk
  | 1 => if qq % 2 ^ 31 = 0 || kk % 2 ^ 31 = 0 then 0 else fMul (fMul dqk (fRsqrt qq)) (fRsqrt kk)
  | _ => fMax (fAdd (fFma 0xC0000000 dqk qq) kk) 0

def runScore (e : Env) (d : Nat) : Run Res := do
  let qt := bits d 380 377
  let kt := bits d 384 381
  let dim := bits d 372 360
  let qs ← (List.range (bits d 376 373 + 1)).mapM (fun i => do
    let r ← readAt e (bits d 95 32) (rowBytes qt dim * i : Nat) (rowBytes qt dim)
    return rowElemsOf qt dim r)
  let cols ← (List.range (bits d 359 336)).mapM (fun (c : Nat) => do
    let ix : Idx ← if bits d 223 160 = 0 then pure { hole := false, x := Int.ofNat c, dep := false }
      else readIdx e (bits d 223 160) 0xB false c
    if ix.hole then return qs.map (fun _ => ((nan32, ix.dep) : PNat))
    else
      let r ← readRow e (bits d 159 96) (bits d 335 288) ix.x (rowBytes kt dim)
      let k := rowElemsOf kt dim r
      let kk := dotRows kt kt k k
      let kdep := ix.dep || k.any (fun x => x.dep)
      return qs.map (fun q => ((scoreOf (bits d 386 385) (dotRows qt kt q k) (dotRows qt qt q q) kk, kdep || q.any (fun x => x.dep)) : PNat)))
  let rows := (List.range qs.length).map (fun i => cols.map (fun col => (col[i]?).getD (0, false)))
  let o ← outAt (bits d 287 224) 0 ((rows.flatten).map (pBytes 4)).flatten
  return { outs := [o] }

/-! ### TOPK (spec 10 R242) -/

def checkTopk (d : Nat) : Bool :=
  let form := bits d 260 259
  bit d 263 || bits d 511 328 != 0 || bits d 247 224 == 0 || bits d 258 248 == 0 || 1024 < bits d 258 248 || form == 3 ||
  addrBad (bits d 95 32) (if form = 2 then 8 else 4) || addrBad (bits d 223 160) 8 ||
  (if form = 1 then addrBad (bits d 159 96) 4 else bits d 159 96 != 0)

def runTopk (e : Env) (d : Nat) : Run Res := do
  let form := bits d 260 259
  let small := bit d 261
  let k := bits d 258 248
  let cands ← (List.range (bits d 247 224)).mapM (fun i => do
    if form = 2 then
      let r ← readAt e (bits d 95 32) (8 * i : Nat) 8
      return ((word32 r 0).1, (word32 r 1).1, i, (pNat r).2)
    else
      let r ← readAt e (bits d 95 32) (4 * i : Nat) 4
      if form = 1 then
        let x ← readAt e (bits d 159 96) (4 * i : Nat) 4
        return ((pNat x).1, (pNat r).1, i, (pNat r).2 || (pNat x).2)
      else return ((bits d 327 296 + i) % 2 ^ 32, (pNat r).1, i, (pNat r).2))
  let dep := cands.any (fun c => c.2.2.2)
  let thresh := bits d 295 264
  let good := (cands.filter (fun c =>
    !isNan32 c.2.1 && c.1 != 0xFFFFFFFF && !(bit d 262 && scoreBetter small thresh c.2.1 && !isNan32 thresh))).map
      (fun c => (c.1, c.2.1, c.2.2.1))
  let best := (rankBy (topkBefore small) good.length good).take k
  if bit d 262 && k < good.length then modify (fun a => { a with flags := a.flags ||| flTruncated })
  let filler : Nat × Nat × Nat := (0xFFFFFFFF, if small then posInf32 else negInf32, 0)
  let out := best ++ List.replicate (k - best.length) filler
  let o ← outAt (bits d 223 160) 0 ((out.map (fun c => pBytes 8 (c.1 + c.2.1 * 2 ^ 32, dep))).flatten)
  let f := (out.head?).getD filler
  return { outs := [o], res := [best.length, min good.length (2 ^ 32 - 1), f.1, f.2.1] }

/-! ### ATTN_PARTIAL and MERGE (spec 10 R243, R244) -/

/-- The probability type of a descriptor. -/
def attnP (d : Nat) : Nat := if bit d 319 then 0 else 1

def checkAttn (d : Nat) : Bool :=
  let qt := bits d 314 311
  let kt := bits d 318 315
  let dim := bits d 306 298
  let tok := bits d 284 272
  let last := bits d 297 285
  let stride := bits d 335 320
  bits d 511 336 != 0 || bits d 271 256 == 0 || tok == 0 || 4096 < tok || last == 0 || tok < last || dim == 0 || 256 < dim ||
  !isWide qt || !(1 ≤ kt && kt ≤ 5) || (engineK qt kt).isNone || (engineK (attnP d) kt).isNone || !countOk kt dim ||
  stride < rowBytes kt dim || stride % typeAlign kt != 0 || addrBad (bits d 95 32) (typeAlign qt) ||
  addrBad (bits d 159 96) 16 || addrBad (bits d 223 160) (recAlign (4 * dim + 8) 4)

/-- The keys and values of a block, and whether the block's list entry or a key is marked. -/
def attnBlockRows (e : Env) (d : Nat) (ents : List (List PByte)) (b : Nat) : Run (List (List Elem) × List (List Elem) × Bool) := do
  let kt := bits d 318 315
  let dim := bits d 306 298
  let n := if b + 1 = bits d 271 256 then bits d 297 285 else bits d 284 272
  let ent := (ents[b]?).getD []
  let ka := word64 ent 0
  let va := word64 ent 1
  if listBad ka.1 (typeAlign kt) || listBad va.1 (typeAlign kt) then failWith stBadDescriptor
  else
    let rows (a : Nat) : Run (List (List Elem)) := (List.range n).mapM (fun t => do
      let r ← readAt e a (bits d 335 320 * t : Nat) (rowBytes kt dim)
      return rowElemsOf kt dim r)
    let ks ← rows ka.1
    let vs ← rows va.1
    return (ks, vs, ka.2 || va.2 || ks.any (fun k => k.any (fun x => x.dep)))

/-- One query row over the blocks. -/
def attnRow (d : Nat) (q : List Elem) (blocks : List (List (List Elem) × List (List Elem) × Bool)) : Partial :=
  let qt := bits d 314 311
  let kt := bits d 318 315
  let pt := attnP d
  attnEnd (blocks.foldl
    (fun st b =>
      let s := b.1.map (fun k => fMul (dotFloat ((engineK qt kt).getD 1) 0 ((q.zip k).map (fun p => (p.1.ex qt, p.2.ex kt)))) (bits d 255 224))
      attnStep ((engineK pt kt).getD 1) pt st s (b.2.1.map (fun v => v.map (fun x => x.ex kt))))
    (attnStart (bits d 306 298)))

def runAttn (e : Env) (d : Nat) : Run Res := do
  let qt := bits d 314 311
  let dim := bits d 306 298
  let qs ← (List.range (bits d 310 307 + 1)).mapM (fun i => do
    let r ← readAt e (bits d 95 32) (rowBytes qt dim * i : Nat) (rowBytes qt dim)
    return rowElemsOf qt dim r)
  let ents ← (List.range (bits d 271 256)).mapM (fun b => readAt e (bits d 159 96) (16 * b : Nat) 16)
  let blocks ← (List.range (bits d 271 256)).mapM (attnBlockRows e d ents)
  let base := blocks.any (fun b => b.2.2)
  let vdep := (List.range dim).map (fun x => blocks.any (fun b => b.2.1.any (fun v => ((v[x]?).map (fun y => y.dep)).getD false)))
  let o ← outAt (bits d 223 160) 0 ((qs.map (fun q =>
    let dep := base || q.any (fun x => x.dep)
    ((attnRow d q blocks).words.zipIdx.map (fun w => pBytes 4 (w.1, dep || (vdep[w.2]?).getD false))).flatten)).flatten)
  return { outs := [o] }

def checkMerge (d : Nat) : Bool :=
  let dim := bits d 222 214
  let final := bit d 227
  let ty := bits d 231 228
  let al := recAlign (4 * dim + 8) 4
  bits d 511 232 != 0 || dim == 0 || 256 < dim || (if final then !isWide ty else ty != 0) || addrBad (bits d 95 32) al ||
  bits d 207 160 % al != 0 || addrBad (bits d 159 96) (if final then typeAlign ty else al)

def runMerge (e : Env) (d : Nat) : Run Res := do
  let dim := bits d 222 214
  let nq := bits d 226 223 + 1
  let np := bits d 213 208 + 1
  let recd := 4 * dim + 8
  let stride := if bits d 207 160 = 0 then nq * recd else bits d 207 160
  let rows ← (List.range nq).mapM (fun i => (List.range np).mapM (fun j => do
    let r ← readAt e (bits d 95 32) (stride * j + recd * i : Nat) recd
    return (List.range (dim + 2)).map (word32 r)))
  let outRow (ps : List (List PNat)) : List PByte :=
    let m := mergePartials dim (ps.map (fun p => partialOf dim (p.map (·.1))))
    let base := ps.any (fun p => (p.drop dim).any (·.2))
    let deps := (List.range (dim + 2)).map (fun x => base || ps.any (fun p => ((p[x]?).map (·.2)).getD false))
    let ws : List PNat := (m.words.zip deps).map (fun w => (w.1, w.2))
    if bit d 227 then storeRow (bits d 231 228) (ws.take dim) else (ws.map (pBytes 4)).flatten
  let o ← outAt (bits d 159 96) 0 (rows.map outRow).flatten
  return { outs := [o] }

/-! ### REDUCE_LOCAL (spec 10 R245) -/

def checkReduce (d : Nat) : Bool :=
  let it := bits d 243 240
  let ot := bits d 247 244
  bits d 511 250 != 0 || bits d 239 216 == 0 || bits d 249 248 == 3 || !(it ≤ 4 || it == 0xA) ||
  !(isWide ot || (ot == 0xA && it == 0xA)) || addrBad (bits d 95 32) (typeAlign it) || bits d 207 160 % typeAlign it != 0 ||
  addrBad (bits d 159 96) (typeAlign ot)

def runReduce (e : Env) (d : Nat) : Run Res := do
  let it := bits d 243 240
  let ot := bits d 247 244
  let n := bits d 239 216
  let op := bits d 249 248
  let srcs ← (List.range (bits d 215 208 + 1)).mapM (fun j => do
    let r ← readAt e (bits d 95 32) (bits d 207 160 * j : Nat) (rowBytes it n)
    return rowElemsOf it n r)
  let vals (l : List Elem) : List PNat := l.map (fun x => if it = 0xA then (x.raw, x.dep) else x.f32 it)
  let zip2 (a b : List PNat) : List PNat :=
    (a.zip b).map (fun p => (if it = 0xA then redInt op p.1.1 p.2.1 else redFloat op p.1.1 p.2.1, p.1.2 || p.2.2))
  let acc := match srcs with
    | [] => []
    | s :: t => t.foldl (fun a x => zip2 a (vals x)) (vals s)
  let row := if it = 0xA then
      packRow ot (acc.map (fun v => (if ot = 0xA then v.1 else toType ot (.fin (signedOf 32 v.1) 0 false), v.2)))
    else storeRow ot acc
  let o ← outAt (bits d 159 96) 0 row
  return { outs := [o] }

/-! ### Mixture of experts (spec 10 R246, R247) -/

def checkDispatch (d : Nat) : Bool :=
  bits d 511 429 != 0 || bits d 399 384 == 0 || bits d 407 400 + 1 < bits d 410 408 + 1 || bits d 427 411 == 0 ||
  65536 < bits d 427 411 || addrBad (bits d 95 32) 4 || malformed (bits d 159 96) || addrBad (bits d 223 160) 16 ||
  addrBad (bits d 287 224) 8 || addrBad (bits d 351 288) 4

/-- What MOE_DISPATCH keeps while it goes through the tokens: slots used by expert, rows, routing records, drops, whether a
marked line has steered a choice. -/
structure Moe where
  used  : List Nat
  rows  : List (Nat × List PByte) := []
  recs  : List PNat := []
  drops : Nat := 0
  dep   : Bool := false

/-- The choices of one token: experts in rank order with their weights. -/
def moeChoose (d : Nat) (logits : List Nat) : List (Nat × Nat) :=
  let k := bits d 410 408 + 1
  let order := rankBy
    (fun (a b : Nat × Nat) =>
      if isNan32 a.2 then false
      else if isNan32 b.2 then true
      else scoreBetter false a.2 b.2) logits.length (logits.zipIdx.map (fun l => (l.2, l.1)))
  let top := order.take k
  let xmax := match logits with | [] => nan32 | x :: t => t.foldl fMax x
  let gate (x : Nat) : Nat := fExp2 (fMul (fSub x xmax) (bits d 383 352))
  let z := ((if bit d 428 then top.map (fun c => c.2) else logits).map gate).foldl fAdd 0
  top.map (fun c => (c.1, fMul (gate c.2) (fRecip z)))

/-- One choice: takes the expert's next slot and copies the row, or is dropped. -/
def moePlace (e : Env) (d t : Nat) (tab : List (PNat × PNat)) (m : Moe) (c : Nat × Nat) : Run Moe := do
  let h := bits d 427 411
  let ent := (tab[c.1]?).getD ((0, false), (0, false))
  let dep := m.dep || ent.2.2
  let slot := (m.used[c.1]?).getD 0
  let recd (s : Nat) : PNat := (c.1 + s * 2 ^ 8 + c.2 * 2 ^ 32, dep)
  if ent.2.1 ≤ slot then return { m with recs := m.recs ++ [recd 0xFFFFFF], drops := m.drops + 1 }
  else
    let row ← readAt e (bits d 159 96) (h * t : Nat) h
    let o ← outAt ent.1.1 (h * slot : Nat) (steer (dep || ent.1.2) row)
    return { m with
      used := m.used.set c.1 (slot + 1)
      rows := m.rows ++ [o]
      recs := m.recs ++ [recd slot] }

def runDispatch (e : Env) (d : Nat) : Run Res := do
  let n := bits d 407 400 + 1
  let tab ← (List.range n).mapM (fun i => do
    let r ← readAt e (bits d 223 160) (16 * i : Nat) 16
    let w := pNat (r.drop 8)
    return (word64 r 0, ((bits w.1 23 0, w.2) : PNat)))
  let m ← (List.range (bits d 399 384)).foldlM
    (fun (m : Moe) t => do
      let r ← readAt e (bits d 95 32) (4 * n * t : Nat) (4 * n)
      let ls := (List.range n).map (word32 r)
      let m := { m with dep := m.dep || ls.any (·.2) }
      (moeChoose d (ls.map (·.1))).foldlM (moePlace e d t tab) m)
    { used := List.replicate n 0 }
  let o2 ← outAt (bits d 287 224) 0 (m.recs.map (pBytes 8)).flatten
  let o3 ← outAt (bits d 351 288) 0
    ((m.used.zip tab).map (fun u => pBytes 4 (u.1, m.dep || u.2.2.2))).flatten
  return { outs := sortBy (fun (a b : Nat × List PByte) => a.1 < b.1) m.rows ++ [o2, o3], res := [m.drops] }

def checkCombine (d : Nat) : Bool :=
  let ot := bits d 331 328
  bits d 511 332 != 0 || bits d 303 288 == 0 || bits d 323 307 == 0 || 65536 < bits d 323 307 || !isWide (bits d 327 324) ||
  !isWide ot || addrBad (bits d 95 32) 8 || addrBad (bits d 159 96) 16 || addrBad (bits d 223 160) (typeAlign ot) ||
  addrBad (bits d 287 224) (typeAlign ot)

/-- One token of MOE_COMBINE. -/
def combineToken (e : Env) (d t : Nat) : Run (List PByte) := do
  let rt := bits d 327 324
  let ot := bits d 331 328
  let k := bits d 306 304 + 1
  let n := bits d 323 307
  let start : List PNat ← if bits d 287 224 = 0 then pure (List.replicate n (0, false))
    else do
      let r ← readAt e (bits d 287 224) (rowBytes ot n * t : Nat) (rowBytes ot n)
      pure ((rowElemsOf ot n r).map (fun x => x.f32 ot))
  let acc ← (List.range k).foldlM
    (fun (acc : List PNat) j => do
      let r ← readAt e (bits d 95 32) (8 * (k * t + j) : Nat) 8
      let w := pNat r
      let slot := bits w.1 31 8
      if slot = 0xFFFFFF then return acc.map (fun a => (a.1, a.2 || w.2))
      else
        let ent ← readAt e (bits d 159 96) (16 * bits w.1 7 0 : Nat) 16
        let buf := word64 ent 0
        if listBad buf.1 (typeAlign rt) then failWith stBadDescriptor
        else
          let row ← readAt e buf.1 (rowBytes rt n * slot : Nat) (rowBytes rt n)
          return (acc.zip (rowElemsOf rt n row)).map (fun p =>
            (fFma (bits w.1 63 32) (p.2.f32 rt).1 p.1.1, p.1.2 || w.2 || buf.2 || p.2.dep))) start
  return storeRow ot acc

def runCombine (e : Env) (d : Nat) : Run Res := do
  let rows ← (List.range (bits d 303 288)).mapM (combineToken e d)
  let o ← outAt (bits d 223 160) 0 rows.flatten
  return { outs := [o] }

/-! ### COMPRESS and EXPAND (spec 10 R248; 07 R163 to R168, R176, R178, R179, R465) -/

def checkCompress (e : Env) (d : Nat) : Bool :=
  let n := bits d 247 224
  let ty := bits d 253 250
  bits d 511 254 != 0 || n == 0 || 16384 < n || malformed (bits d 95 32) || malformed (bits d 159 96) || malformed (bits d 223 160) ||
  (if bit d 249 then !isMx ty else ty != 0) || e.cmprRange (bits d 159 96) (256 * n) || e.cmprRange (bits d 223 160) ((n + 1) / 2)

/-- The nibbles of a size map as bytes; the last byte's unused nibble is a value the spec does not state, the same for one
descriptor however often it runs (spec 08 R185). -/
def nibbleBytes (spare : Nat) : List PNat → List PByte
  | [] => []
  | [x] => [(BitVec.ofNat 8 (x.1 % 16 + spare % 16 * 16), x.2)]
  | x :: y :: t => (BitVec.ofNat 8 (x.1 % 16 + y.1 % 16 * 16), x.2 || y.2) :: nibbleBytes spare t

/-- Codes a block of input: its entry and coded lines. -/
def codeBlock (enc : EncSet) (raw : Bool) (block : List PByte) : Nat × List PByte :=
  if raw || block.any (·.2) then (4, block)
  else
    let r := aiskoCompress enc (pNat block).1
    if r.1 = 4 then (4, block) else (r.1, r.2.map (fun b => (b, false)))

def runCompress (e : Env) (d : Nat) : Run Res := do
  let n := bits d 247 224
  let off := dOenc d
  let enc : EncSet :=
    { exp := e.s.flag CMPR_CTL_ENC_EXP && !bit off 0
      bd := e.s.flag CMPR_CTL_ENC_BD && !bit off 1
      sparse := e.s.flag CMPR_CTL_ENC_SPARSE && !bit off 2
      mxp := if e.s.flag CMPR_CTL_ENC_MXP && !bit off 3 && bit d 249 then some (bits d 253 250) else none }
  let inp ← readRun e (bits d 95 32) (256 * n)
  let a ← get
  let bs := (List.range n).map (fun i => codeBlock enc a.cloak ((inp.drop (256 * i)).take 256))
  let places := (bs.foldl (fun (acc : List Nat × Nat) b =>
    (acc.1 ++ [acc.2], if bit d 248 then acc.2 + b.2.length else acc.2 + 256)) (([] : List Nat), 0)).1
  let outs ← (bs.zip places).mapM (fun b => outAt (bits d 159 96) (b.2 : Nat) b.1.2)
  let o ← outAt (bits d 223 160) 0 (nibbleBytes (Config.spareNibble d) (bs.map (fun b => (b.1, false))))
  return { outs := outs ++ [o], res := [bs.foldl (fun k b => k + b.1) 0] }

def checkExpand (e : Env) (d : Nat) : Bool :=
  let n := bits d 247 224
  bits d 511 254 != 0 || n == 0 || 16384 < n || malformed (bits d 95 32) || malformed (bits d 159 96) || malformed (bits d 223 160) ||
  bit d 249 || bits d 253 250 != 0 || e.cmprRange (bits d 95 32) (256 * n)

/-- Expands one block: offset of its coded lines, lines so far, whether a marked nibble has steered the offset. -/
def expandOne (e : Env) (d : Nat) (acc : List PByte × Nat × Nat × Bool) (i : Nat) : Run (List PByte × Nat × Nat × Bool) := do
  let nb ← readAt e (bits d 223 160) (i / 2 : Nat) 1
  let v := pNat nb
  let ent := bits v.1 (4 * (i % 2) + 3) (4 * (i % 2))
  let off := if bit d 248 then acc.2.1 else 256 * i
  let ln := min 4 ent
  let steered := acc.2.2.2 && bit d 248
  let more (out : List PByte) : List PByte × Nat × Nat × Bool := (acc.1 ++ steer steered out, off + 64 * ln, acc.2.2.1 + ln, acc.2.2.2 || v.2)
  if v.2 then return more (fillBytes 256 0 true)
  else
    if 5 ≤ ent then modify (fun a => { a with st := a.st.count { blk := .cmpr, code := 0x02, master := some (3, e.x), ctx := some e.x } })
    let src ← readAt e (bits d 95 32) (off : Nat) (64 * ln)
    if 4 ≤ ent then return more src
    else if src.any (·.2) then return more (fillBytes 256 0 true)
    else
      let r := aiskoExpand ent (pNat src).1
      modify (fun a => { a with flags := a.flags ||| ((if r.overrun then flOverrun else 0) + (if r.underrun then flUnderrun else 0)) })
      if (r.overrun || r.underrun) && e.s.flag CMPR_CTL_STRICT then failWith stBlockSize
      else return more (pBytes 256 (r.block, false))

def runExpand (e : Env) (d : Nat) : Run Res := do
  let r ← (List.range (bits d 247 224)).foldlM (expandOne e d) (([] : List PByte), 0, 0, false)
  let o ← outAt (bits d 159 96) 0 r.1
  return { outs := [o], res := [r.2.2.1] }

/-! ### Atomics and control (spec 10 R249 to R254) -/

def checkBatch (d : Nat) : Bool :=
  bits d 511 167 != 0 || bits d 166 160 == 0 || 64 < bits d 166 160 || malformed (bits d 95 32) || addrBad (bits d 159 96) 16

/-- One entry of an ATOMIC_BATCH, checked (R57, R118). -/
def batchEntry (e : Env) (d i : Nat) : Run LogEntry := do
  let r ← readAt e (bits d 95 32) (48 * i : Nat) 48
  let v := pNat r
  let a := bits v.1 63 0
  let op := bits v.1 67 64
  let size := bits v.1 69 68
  match spaceOf a with
  | .pool p =>
    if !atomicListed op size || p % (atomicBits size / 8) != 0 || !e.b.ctxMay e.tenant (e.b.extent (p / 2 ^ 30)) then failWith stDenied
    else return { addr := p, op := op, ty := size, signed := bit v.1 70, mark := v.2
                  bytes := bytesOf 16 (bits v.1 255 128), swap := bytesOf 16 (bits v.1 383 256) }
  | _ => failWith stDenied

def runBatch (e : Env) (d : Nat) : Run Res := do
  let l ← (List.range (bits d 166 160)).mapM (batchEntry e d)
  return { log := l }

def checkSignal (d : Nat) : Bool := bits d 511 162 != 0 || bits d 161 160 == 3 || poolBad (bits d 95 32) 8

def runSignal (e : Env) (d : Nat) : Run Res := do
  let a := bits d 95 32
  if !e.b.ctxMay e.tenant (e.b.extent (a / 2 ^ 30)) then failWith stDenied
  else
    let op := match bits d 161 160 with | 0 => 0 | 1 => 6 | _ => 2
    return { log := [{ addr := a, op := op, ty := 1, bytes := bytesOf 16 (bits d 159 96) }] }

def checkWait (d : Nat) : Bool := bits d 511 186 != 0 || bits d 161 160 == 3 || poolBad (bits d 95 32) 8

/-- Whether a WAIT's condition holds of a counter. -/
def waitHolds (d v : Nat) : Bool :=
  let c := bits d 159 96
  match bits d 161 160 with
  | 0 => c ≤ v
  | 1 => v == c
  | _ => v != c

def runWait (e : Env) (d : Nat) : Run Res := do
  let r ← readRun { e with mark := false } (bits d 95 32) 8
  let v := (pNat r).1
  if waitHolds d v then return { res := [bits v 31 0, bits v 63 32] } else return { park := true }

def checkFence (d : Nat) : Bool := bits d 511 32 != 0

/-- FENCE waits for the writes of its procedure (R250). -/
def runFence (e : Env) : Run Res := do
  if e.s.writesPending e.x e.p || !e.p.hostPorts.isEmpty then throw .wait else return {}

def checkStep (d : Nat) : Bool := bits d 511 51 != 0
def checkNop (d : Nat) : Bool := bits d 511 160 != 0

def runNop (d : Nat) : Run Res := return { res := (List.range 4).map (fun i => bits d (63 + 32 * i) (32 + 32 * i)) }

/-! ### The table of opcodes -/

/-- Whether an opcode is listed. -/
def opListed (o : Nat) : Bool := (1 ≤ o && o ≤ 0xE) || (0x10 ≤ o && o ≤ 0x13) || o == 0x1F

/-- Whether the checks of R231 refuse a descriptor. -/
def descBad (e : Env) (d : Nat) : Bool :=
  bits d 15 10 != 0 || bits d 31 20 != 0 || !opListed (dOpc d) ||
  match dOpc d with
  | 0x01 => checkGather d
  | 0x02 => checkScatter d
  | 0x03 => checkCopy d
  | 0x04 => checkFilter e d
  | 0x05 => checkScore d
  | 0x06 => checkTopk d
  | 0x07 => checkAttn d
  | 0x08 => checkMerge d
  | 0x09 => checkReduce d
  | 0x0A => checkDispatch d
  | 0x0B => checkCombine d
  | 0x0C => checkCompress e d
  | 0x0D => checkExpand e d
  | 0x0E => checkBatch d
  | 0x10 => checkFence d
  | 0x11 => checkSignal d
  | 0x12 => checkWait d
  | 0x13 => checkStep d
  | _ => checkNop d

/-- Destination lines a row of SCATTER may touch: its worst offset within a line. -/
def scatterLines (d : Nat) : Nat :=
  let g := Nat.gcd (bits d 271 224) 64
  let o := 64 - g + bits d 223 160 % g
  (o + bits d 312 296 + 63) / 64

/-- The size a descriptor declares (R232). -/
def declared (d : Nat) : Nat :=
  match dOpc d with
  | 0x01 =>
    let n := bits d 359 336
    n * rowBytes (bits d 388 385) (rowElems (bits d 384 381) (bits d 376 360)) + (if bits d 390 389 = 3 then 4 * n else 0)
  | 0x02 => if bits d 322 321 = 0 then bits d 295 272 * bits d 312 296 else bits d 295 272 * (128 * scatterLines d)
  | 0x03 => bits d 182 160
  | 0x04 => match bits d 203 202 with | 0 => 8 * bits d 183 160 | 1 => 16 * bits d 271 248 | _ => 4 * bits d 271 248
  | 0x05 => 4 * (bits d 376 373 + 1) * bits d 359 336
  | 0x06 => 8 * bits d 258 248
  | 0x07 => (bits d 310 307 + 1) * (4 * bits d 306 298 + 8)
  | 0x08 => (bits d 226 223 + 1) * (if bit d 227 then bits d 222 214 * typeBits (bits d 231 228) / 8 else 4 * bits d 222 214 + 8)
  | 0x09 => bits d 239 216 * typeBits (bits d 247 244) / 8
  | 0x0A => bits d 399 384 * (bits d 410 408 + 1) * (bits d 427 411 + 8) + 4 * (bits d 407 400 + 1)
  | 0x0B => bits d 303 288 * bits d 323 307 * typeBits (bits d 331 328) / 8
  | 0x0C => 256 * bits d 247 224 + (bits d 247 224 + 1) / 2
  | 0x0D => 256 * bits d 247 224
  | 0x0E => (if bits d 159 96 = 0 then 0 else 16 * bits d 166 160) + 64 * bits d 166 160 + 64
  | 0x11 => 128
  | _ => 0

/-- What a descriptor computes. -/
def runDesc (e : Env) (d : Nat) : Run Res :=
  match dOpc d with
  | 0x01 => runGather e d
  | 0x02 => runScatter e d
  | 0x03 => runCopy e d
  | 0x04 => runFilter e d
  | 0x05 => runScore e d
  | 0x06 => runTopk e d
  | 0x07 => runAttn e d
  | 0x08 => runMerge e d
  | 0x09 => runReduce e d
  | 0x0A => runDispatch e d
  | 0x0B => runCombine e d
  | 0x0C => runCompress e d
  | 0x0D => runExpand e d
  | 0x0E => runBatch e d
  | 0x10 => runFence e
  | 0x11 => runSignal e d
  | 0x12 => runWait e d
  | 0x1F => runNop d
  | _ => return {}

end Sys2Proof.Machine
end

