-- ==== Sys2Proof/Machine/Runs.lean ====
section
/-! DEFINITION. The life of a descriptor: its fetch, its run, its commit, parked WAITs and time limits (spec 08 R194, R198,
R199; 09 R215, R218 to R223; 10 R233 to R237, R249, R252, R253). -/

namespace Sys2Proof.Machine

/-- The setting of a procedure's run on a core. -/
def State.envOf (s : State) (x : Nat) (p : Proc) (c : Nat) : Env :=
  { s := s, x := x, p := p, core := c, b := s.bank p.epoch, tenant := s.ctxTenant x, mark := dMark p.desc }

/-- Runs over a state. -/
def Run.go {α : Type} (r : Run α) (s : State) : Except Stop α × Acc := (ExceptT.run r).run { st := s }

/-- Address of the descriptor a procedure stands at. -/
def Proc.descAddr (p : Proc) : Nat := trChain p.trig + 64 * p.idx

/-- Reads the descriptor line: denied beyond the pool, POISONED whatever its mode (R219). -/
def readDesc (e : Env) : Run Nat := do
  let l ← readRun e e.p.descAddr 64
  return (pNat l).1

/-- The fetch of a descriptor: read, checked, declared (R194, R219, R221, R231). -/
def State.descFetch (s : State) (c : Nat) : State :=
  match s.procOn c with
  | none => s
  | some (x, p) =>
    if p.fetched || s.procs.saving.contains c then s
    else
      let inj := s.injected c
      if inj.2 then inj.1
      else
        let e := { s.envOf x p c with mark := false }
        let r := (readDesc e).go s
        match r.1 with
        | .error .wait => s.askFor x p r.2
        | .error (.fail st) => (s.noteReads (s.bank p.epoch) x r.2.lines).endProc x p st p.idx r.2.flags
        | .ok d =>
          let s := s.noteReads (s.bank p.epoch) x r.2.lines
          if descBad e d || 2 ^ 22 < declared d then s.endProc x p stBadDescriptor p.idx 0
          else s.modProc x p.id (fun q => { q with
            fetched := true
            ran := false
            desc := d
            dflags := r.2.flags
            remote := [] })

/-! ### The run -/

/-- Whether a procedure may write n bytes at an address under its epoch. -/
def Env.mayWrite (e : Env) (a n : Nat) : Bool :=
  e.s.spaceMay e.b e.tenant (spaceOf a) && (n == 0 || e.s.spaceMay e.b e.tenant (spaceOf (a + n - 1)))

/-- Whether a write to a pool address touches a tainted extent. -/
def State.taintAt (s : State) (a : Nat) : Bool := match spaceOf a with | .pool p => s.isTainted (p / 2 ^ 30) | _ => false

/-- Keeps a run's results with its procedure, or parks it (R198, R215, R223, R237). -/
def State.keepRun (s : State) (x : Nat) (p : Proc) (e : Env) (r : Res) (a : Acc) : State :=
  let s := s.noteReads (s.bank p.epoch) x a.lines
  if r.park then (s.leaveCore p).modProc x p.id (fun q => { q with phase := .parked })
  else
    let batchOut := if dOpc p.desc = 0x0E then bits p.desc 159 96 else 0
    let okOuts := r.outs.all (fun o => e.mayWrite o.1 o.2.length) && r.log.all (fun l => e.mayWrite l.addr 1) &&
      (batchOut == 0 || e.mayWrite batchOut (16 * r.log.length))
    if !okOuts then s.endProc x p stDenied p.idx a.flags
    else
      let tainted := r.outs.any (fun o => s.taintAt o.1) || r.log.any (fun l => s.taintAt l.addr)
      let words := (List.range 4).map (fun i => BitVec.ofNat 32 (if a.dep then 0 else (r.res[i]?).getD 0))
      (s.dropLookups e.core).modProc x p.id (fun q => { q with
        ran := true
        staged := (r.outs.map (fun o => (o.2.zipIdx).map (fun b => { addr := o.1 + b.2, byte := b.1.1, poison := b.1.2 }))).flatten
        log := r.log
        hasLog := !r.log.isEmpty
        outAddr := batchOut
        poisoned := q.poisoned || a.dep
        dflags := q.dflags ||| a.flags ||| (if tainted then flTainted else 0)
        dres := words
        cloak := a.cloak
        oenc := dOenc p.desc
        omx := r.mx
        issued := false
        wrBad := 0
        remote := [] })

/-- Runs the descriptor on a core where it has an opcode: it ends, waits for what it reads, parks, or is ready to commit. -/
def State.runOp (s : State) (c opc : Nat) : State :=
  match s.procOn c with
  | none => s
  | some (x, p) =>
    if !p.fetched || p.ran || dOpc p.desc != opc || s.procs.saving.contains c then s
    else
      let inj := s.injected c
      if inj.2 then inj.1
      else
        let e := s.envOf x p c
        let r := (runDesc e p.desc).go s
        match r.1 with
        | .error .wait =>
          if opc = 0x10 then s.flushHosts x p p.hostPorts else s.askFor x p r.2
        | .error (.fail st) => (r.2.st.noteReads (s.bank p.epoch) x r.2.lines).endProc x p st p.idx (p.dflags ||| r.2.flags)
        | .ok res => r.2.st.keepRun x p e res r.2

/-! ### The commit -/

/-- The leading staged bytes that lie in one line, and the rest. -/
def lineGroup : List StagedByte → List StagedByte × List StagedByte
  | [] => ([], [])
  | b :: t => ((b :: t).takeWhile (fun c => c.addr / 64 == b.addr / 64), (b :: t).dropWhile (fun c => c.addr / 64 == b.addr / 64))

/-- Address of a group's line, its mask, its data, and whether it is poisoned (R223). -/
def groupLine (g : List StagedByte) : Nat × BitVec 64 × Line × Bool :=
  let r := g.foldl (fun (a : Nat × Nat) b => (a.1 ||| 2 ^ (b.addr % 64), insBits a.2 (8 * (b.addr % 64) + 7) (8 * (b.addr % 64)) b.byte.toNat)) (0, 0)
  (((g.head?).map (fun b => lineAddr b.addr)).getD 0, BitVec.ofNat 64 r.1, BitVec.ofNat 512 r.2, g.any (fun b => b.poison))

/-- Whether staged bytes cover the 256 B block of an address. -/
def wholeBlock (all : List StagedByte) (a : Nat) : Bool :=
  (List.range 256).all (fun i => all.any (fun b => b.addr == a / 256 * 256 + i))

/-- The coding of a written line: the core's compressor where the descriptor writes the whole 256 B block, RAW where it has read
cloaked data, else the home's (R235; 07 R164, R169, R176). -/
def Proc.encFor (p : Proc) (all : List StagedByte) (a : Nat) : Option (Nat × Nat × Bool) :=
  if p.cloak then some (p.oenc, 0, true) else if wholeBlock all a then some (p.oenc, p.omx, false) else none

/-- How a staged line leaves: to the home now, elsewhere now, or not yet; or it is refused. -/
inductive Exit where
  | home
  | away (sp : Space)
  | later
  | refused (st : Byte)
deriving DecidableEq, Repr

/-- The exit of a staged line of a context under its procedure's epoch: a write to a page the context stages waits for it (spec 06
R146). -/
def State.exitOf (s : State) (x epoch a : Nat) : Exit :=
  match spaceOf a with
  | .pool q =>
    match s.extentCase epoch (q / 2 ^ 30) with
    | .go => if s.prefCase x (pageNo q) == .wait then .later else .home
    | .hold => .later
    | .denied => .refused stDenied
    | .failed => .refused stHandoffFailed
    | .forward dst => .away (.peer dst q)
  | .peer f q => match s.portOfFeid f with
    | none => .refused stDenied
    | some port => if !s.enabled .port port then .refused stDenied else if s.ydUp port then .away (.peer f q) else .later
  | .host port q => if !s.enabled .port port then .refused stDenied
    else if s.linked port && !s.ydUp port then .away (.host port q) else .later
  | .bad => .refused stDenied

/-- The procedure address of a space. -/
def Space.addr : Space → Nat
  | .pool a => a
  | .peer f a => 2 ^ 60 + f.toNat * 2 ^ 44 + a
  | .host p a => 2 * 2 ^ 60 + p * 2 ^ 44 + a
  | .bad => 3 * 2 ^ 60

/-- Issues staged lines in order until one must wait (R198, R234). -/
def State.issueStaged : Nat → State → Nat → Nat → List StagedByte → State
  | 0, s, _, _, _ => s
  | n + 1, s, x, id, all =>
    match s.proc x id with
    | none => s
    | some p =>
      let g := lineGroup p.staged
      if g.1.isEmpty then s
      else
        let l := groupLine g.1
        match s.exitOf x p.epoch l.1 with
        | .later => s
        | .refused st =>
          State.issueStaged n (s.modProc x id (fun q => { q with
            staged := g.2
            issued := true
            wrBad := if q.wrBad = 0 || st.toNat < q.wrBad.toNat then st else q.wrBad })) x id all
        | .home =>
          let s := s.modProc x id (fun q => { q with staged := g.2, issued := true, wrWait := q.wrWait + 1 })
          State.issueStaged n
            (s.procWrite x id (kPlain + p.replays) (trPrio p.trig) p.epoch l.1 l.2.1 l.2.2.1 l.2.2.2 (p.encFor all l.1)
              (wholeBlock all l.1)) x id all
        | .away sp =>
          let s := s.modProc x id (fun q => { q with
            staged := g.2
            issued := true
            hostPorts := match sp with | .host port _ => setAdd q.hostPorts port | _ => q.hostPorts
            hostUsed := match sp with | .host port _ => setAdd q.hostUsed port | _ => q.hostUsed })
          State.issueStaged n (s.procWrite x id kPlain (trPrio p.trig) p.epoch sp.addr l.2.1 l.2.2.1 l.2.2.2 none false) x id all

/-- The access of a commit-log entry: an atomic, or a combine of SCATTER; a marked entry poisons its line (R239, R249). -/
def LogEntry.access (scatter : Bool) (e : LogEntry) : Access :=
  let n := e.bytes.length
  if scatter || e.mark then
    .combine e.ty e.op (BitVec.ofNat 512 (ofBytes e.bytes <<< (8 * (e.addr % 64)))) (BitVec.ofNat 64 ((2 ^ n - 1) <<< (e.addr % 64))) e.mark
  else
    .atomic (BitVec.ofNat 4 e.op) (BitVec.ofNat 2 e.ty) e.signed (e.addr % 64) (BitVec.ofNat 128 (ofBytes e.bytes))
      (BitVec.ofNat 128 (ofBytes e.swap)) none

/-- Issues a commit log in list order, each entry once; nothing is issued while an entry's extent is held (R199). -/
def State.issueLog (s : State) (x : Nat) (p : Proc) : State :=
  if p.log.any (fun e => s.exitOf x p.epoch e.addr == .later) then s
  else
    let scatter := dOpc p.desc == 0x02
    (p.log.zipIdx).foldl
      (fun s e =>
        let acc := e.1.access scatter
        if e.1.done then s
        else
          match s.exitOf x p.epoch e.1.addr with
          | .home => s.addTxn (.core x p.id e.2) acc (e.1.addr / 64) p.epoch (if p.cloak then some (p.oenc, 0, true) else none)
          | .away (.peer dst a) =>
            if scatter || e.1.mark then s.procAnswer x p.id e.2 stHandoffFailed 0
            else s.proxyYd p.epoch none dst a (.core x p.id e.2) acc
          | .refused st => s.procAnswer x p.id e.2 st 0
          | _ => s)
      (s.modProc x p.id (fun q => { q with issued := true }))

/-- CAS success bits of a batch (R249). -/
def batchRes (log : List LogEntry) : Nat :=
  (log.zipIdx).foldl
    (fun n e =>
      let w := atomicBits e.1.ty
      if e.1.op = 7 && e.1.status = stOk && ofBytes e.1.old % 2 ^ w = ofBytes e.1.bytes % 2 ^ w then n + 2 ^ e.2 else n) 0

/-- The lowest failure of a log (R229, R239, R249). -/
def logStatus (log : List LogEntry) : Byte :=
  log.foldl (fun (b : Byte) (e : LogEntry) => if e.status = stOk then b else if b = stOk || e.status.toNat < b.toNat then e.status else b) stOk

/-- The old values of a batch as output bytes; those of failed entries poisoned. -/
def batchOuts (a : Nat) (log : List LogEntry) : List StagedByte :=
  ((log.zipIdx).map (fun e =>
    (List.range 16).map (fun i =>
      ({ addr := a + 16 * e.2 + i
         byte := if i < atomicBits e.1.ty / 8 then (e.1.old[i]?).getD 0 else 0
         poison := e.1.status != stOk } : StagedByte)))).flatten

/-- The descriptor has committed: its event, its result words, its STEP, and the next descriptor or the end (R198, R220, R253;
14 R332). `st` is the status it ends with. -/
def State.committed (s : State) (c x : Nat) (p : Proc) (st : Byte) : State :=
  let s := s.count { blk := .core, code := 0x01, inst := c, master := some (3, x), ctx := some x }
  let s := if dOpc p.desc = 0x13 then
      (if bit p.desc 38 then s.stepSet x (bits p.desc 37 32) (bits p.desc 50 39) else s.stepAdvance x (bits p.desc 37 32))
    else s
  let s := s.modProc x p.id (fun q => { q with
    res := if dRes p.desc then p.dres else q.res
    flags := q.flags ||| p.dflags ||| (if p.replays = 0 then 0 else flReplayed) })
  match s.proc x p.id with
  | none => s
  | some q =>
    if st != stOk then s.endProc x q st q.idx 0
    else if q.idx + 1 = trLen q.trig then s.endProc x q (if q.poisoned then stPoisoned else stOk) q.idx 0
    else if s.ctxState x == ctxRetiring then s.endProc x q stContextGone (q.idx + 1) 0
    else
      (s.leaveCore q).modProc x q.id (fun r => { r with
        phase := .ready
        idx := r.idx + 1
        replays := 0
        fetched := false
        ran := false
        staged := []
        log := []
        hasLog := false
        logDone := false
        issued := false
        dflags := 0
        dres := [0, 0, 0, 0] })

/-- A log whose entries are all done: old values are staged, the log kept until they are ordered, or the descriptor ends (R199, R239,
R249, R251). -/
def State.logFinished (s : State) (c x : Nat) (p : Proc) : State :=
  let st := logStatus p.log
  let opc := dOpc p.desc
  let words (l : List Nat) : List Word := (List.range 4).map (fun i => BitVec.ofNat 32 (if p.poisoned then 0 else (l[i]?).getD 0))
  if opc = 0x11 then
    let old := (p.log.head?).map (fun e => ofBytes e.old)
    let v := old.getD 0
    (s.modProc x p.id (fun q => { q with hasLog := false })).committed c x { p with dres := words [bits v 31 0, bits v 63 32] } st
  else if opc = 0x0E then
    let r := batchRes p.log
    let d := words [bits r 31 0, bits r 63 32]
    if p.outAddr = 0 || (st != stOk && !dMark p.desc) then
      (s.modProc x p.id (fun q => { q with hasLog := false })).committed c x { p with dres := d } st
    else
      s.modProc x p.id (fun q => { q with
        logDone := true
        staged := batchOuts p.outAddr p.log
        dres := d
        wrBad := 0
        status := st })
  else (s.modProc x p.id (fun q => { q with hasLog := false })).committed c x p st

/-- The commit of a descriptor that has run: its log is carried out, its staged writes issued; it commits when all are ordered
(R198, R199, R234). -/
def State.descCommit (s : State) (c : Nat) : State :=
  match s.procOn c with
  | none => s
  | some (x, p) =>
    if !p.ran || s.procs.saving.contains c then s
    else if p.hasLog && !p.logDone then
      if !p.issued then s.issueLog x p
      else if p.log.all (fun e => e.done) then s.logFinished c x p
      else s
    else
      let s := State.issueStaged (p.staged.length + 1) s x p.id p.staged
      match s.proc x p.id with
      | none => s
      | some q =>
        if !q.staged.isEmpty || q.wrWait != 0 || s.peerPending q then s
        else (s.modProc x q.id (fun r => { r with hasLog := false, logDone := false })).committed c x q (if q.wrBad != 0 then q.wrBad else q.status)

/-! ### Waits (R215, R218, R252) -/

/-- The home re-reads a parked counter: a WAIT that would commit or end now becomes ready again. -/
def State.waitRecheck (s : State) (x id : Nat) : State :=
  match s.proc x id with
  | none => s
  | some p =>
    if p.phase != .parked then s
    else
      let r := (runWait (s.envOf x p 0) p.desc).go s
      match r.1 with
      | .error .wait => s.askFor x p r.2
      | .ok { park := true, .. } => s
      | _ => s.modProc x id (fun q => { q with phase := .ready })

/-- LIMIT_US passes for a WAIT that has not committed: TIMEOUT. -/
def State.waitLimit (s : State) (x id : Nat) : State :=
  match s.proc x id with
  | none => s
  | some p =>
    let live : Bool := match p.phase with | .parked | .ready | .running _ | .saved | .replay => true | _ => false
    if p.fetched && dOpc p.desc == 0x12 && live && !p.ran && bits p.desc 185 162 != 0 then s.endProc x p stTimeout p.idx 0
    else s

/-- 4 ms pass for a remote access: an unanswered read, or a write that could not be issued, ends the descriptor TIMEOUT. -/
def State.remoteTimeout (s : State) (c : Nat) : State :=
  match s.procOn c with
  | none => s
  | some (x, p) =>
    let remote (a : Nat) : Bool := match spaceOf a with | .pool _ => false | _ => true
    let unissued : Bool := p.fetched && !p.ran && (match (runDesc (s.envOf x p c) p.desc).go s with
      | (.error .wait, a) => !a.asks.isEmpty
      | _ => false)
    let unread := unissued || p.remote.any (fun r => r.res.isNone) || !p.rdPorts.isEmpty
    let unsent := p.ran && (!p.hasLog || p.logDone) && (match p.staged with | [] => false | b :: _ => remote b.addr)
    if unread || unsent then s.endProc x p stTimeout p.idx 0 else s

/-! ### Idle cores (R205, R206) -/

/-- Whether a lookup is addressed to a core: a running FILTER's cascade holds it. -/
def State.lookedUp (s : State) (c : Nat) : Bool :=
  s.procs.running.any (fun (q : Nat × Nat × Nat) =>
    match s.proc q.2.1 q.2.2 with
    | none => false
    | some p =>
      let unit := if bits p.desc 211 204 = 0xFF then q.1 else bits p.desc 211 204
      p.fetched && !p.ran && dOpc p.desc == 0x04 && (s.cascade unit (bit p.desc 212)).contains c)

/-- Whether a core is idle: it runs nothing, no saved descriptor is next for it, no lookup is addressed to it. -/
def State.coreIdle (s : State) (c : Nat) : Bool :=
  !s.flag CORE_STAT_RUNNING c && !s.lookedUp c &&
    (match s.nextFor c with | some (_, p) => p.phase != .saved | none => true)

/-- A core enters C4, which keeps nothing: the table of its disabled FILT instance is lost. -/
def State.enterC4 (s : State) (c : Nat) : State :=
  let other (q : Nat × Nat) : Bool := q.1 / 16384 != c
  s.mapFilt (fun f => { f with cam := f.cam.filter other, shadow := f.shadow.filter other })

/-- An idle core's dwell time expires: one state down, C4 only without an enabled filter table; a fenced core is held in C3; a
dwell of 0 stops the descent. -/
def State.dwell (s : State) (c : Nat) : State :=
  let ps := s.rd CORE_STAT_PSTATE c
  let field := match ps with | 0 => CORE_PWR_DWELL_C1 | 1 => CORE_PWR_DWELL_C2 | 2 => CORE_PWR_DWELL_C3 | _ => CORE_PWR_DWELL_C4
  if !s.coreIdle c || s.flag CORE_STAT_FENCED c || 4 ≤ ps || s.rd field c = 0 || (ps = 3 && s.enabled .filt c) then s
  else (if ps = 3 then s.enterC4 c else s).set CORE_STAT_PSTATE (ps + 1) c

/-! ### Drain expiry (03 R65) -/

/-- The extents a descriptor addresses: that of its own line, of the pool lines its run reads or waits for, and of what it writes. -/
def State.procExtents (s : State) (x : Nat) (p : Proc) : List Nat :=
  let pool (a : Nat) : List Nat := match spaceOf a with | .pool q => [q / 2 ^ 30] | _ => []
  let core := match p.phase with | .running c => c | _ => 0
  let r := (runDesc (s.envOf x p core) p.desc).go s
  let outs : List Nat := match r.1 with
    | .ok res => res.outs.map (fun o => o.1) ++ res.log.map (fun l => l.addr)
    | _ => []
  pool p.descAddr ++
    (if p.fetched then (r.2.lines ++ r.2.snoops).map (fun l => l / 2 ^ 24) ++ r.2.pages.map (fun q => q / 2 ^ 14) ++ outs.flatMap pool
     else []) ++
    (p.staged.map (fun b => b.addr) ++ p.log.map (fun l => l.addr)).flatMap pool

/-- Taints what the descriptors of an expired epoch address. -/
def State.taintProcs (s : State) (e : Nat) : State :=
  s.procs.procs.foldl
    (fun (t : State) (q : Nat × List Proc) =>
      (q.2.filter (fun p => p.counts e)).foldl
        (fun t p => (s.procExtents q.1 p).foldl (fun t x => t.taint x true) t) t) s

end Sys2Proof.Machine
end

