-- ==== Sys2Proof/Machine/Coll.lean ====
section
/-! DEFINITION. Collectives in the switch (spec 11): groups, contributions, the order of reduction, results, aborts. -/

namespace Sys2Proof.Machine

/-! ### Message fields (spec 11 R258) -/

abbrev copReduce : Nat := 0
abbrev copScatter : Nat := 1
abbrev copGather : Nat := 2
abbrev copBroadcast : Nat := 3
abbrev copBarrier : Nat := 4

/-- The fields of a contribution. -/
structure CollMsg where
  group  : Nat
  cop    : Nat
  rop    : Nat
  ty     : Nat
  outTy  : Nat
  dM1    : Nat
  exact  : Bool
  chunk  : Nat
  nchunk : Nat
  seq    : Nat
  data   : Line
  poison : Bool
  slots  : Nat
deriving DecidableEq, Repr

/-- The ARG of a COLL as the engine reads it; SMERGE carries D − 1 in place of the types. -/
def collMsg (arg seq : Nat) (d : Line) (poison : Bool) (slots : Nat) : CollMsg :=
  let rop := bits arg 16 15
  { group := bits arg 11 0
    cop := bits arg 14 12
    rop := rop
    ty := if rop = 3 then 0 else bits arg 20 17
    outTy := if rop = 3 then 0 else bits arg 24 21
    dM1 := if rop = 3 then bits arg 24 17 else 0
    exact := bit arg 25
    chunk := bits arg 44 26
    nchunk := bits arg 63 45 + 1
    seq := seq
    data := d
    poison := poison
    slots := slots }

/-- The ARG of a COLL the device sends towards a parent. -/
def collArg (g : Nat) (op : CollOp) (ty chunk nchunk : Nat) : Nat :=
  g + op.cop * 2 ^ 12 + op.rop * 2 ^ 15 + (if op.rop = 3 then op.dM1 * 2 ^ 17 else ty * 2 ^ 17 + op.outTy * 2 ^ 21) +
    b2n op.exact * 2 ^ 25 + chunk * 2 ^ 26 + (nchunk - 1) * 2 ^ 45

/-- The ARG of a COLL_RES. -/
def collResArg (g : Nat) (st : Byte) (chunk nchunk : Nat) : Nat := g + st.toNat * 2 ^ 12 + chunk * 2 ^ 20 + (nchunk - 1) * 2 ^ 39

/-! ### Groups -/

/-- A group of this device. -/
def State.group (s : State) (g : Nat) : Option Group := Tbl.get? s.coll g

/-- Sets a group. -/
def State.setGroup (s : State) (g : Nat) (x : Group) : State := { s with coll := Tbl.put s.coll g x }

/-- Ranks this device covers. -/
def Group.count (g : Group) : Nat := g.ents.foldl (fun n e => n + e.count) 0

/-- The root finishes operations (spec 11 R256). -/
def Group.isRoot (g : Group) : Bool := g.parent == 0xFF

/-- The entry of a port. -/
def Group.entryOf (g : Group) (p : Nat) : Option Nat := g.ents.findIdx? (fun e => e.port == p)

/-- Open operations. -/
def State.openOps (s : State) : Nat := (s.coll.filter (fun g => g.2.op.isSome)).length

/-- Chunks an entry has given the open operation. -/
def CollOp.given (op : CollOp) (i : Nat) : Nat := (op.chunks.filter (fun c => c.1 == i)).length

/-- Chunks an operation keeps in the staging memory: those of an index that some entry has not given (spec 11 R269, R270;
DESIGN CHOICE, assumption log 189). -/
def Group.staged (g : Group) : Nat :=
  match g.op with
  | none => 0
  | some op => (op.chunks.filter (fun c => (op.chunks.filter (fun x => x.2.1 == c.2.1)).length < g.ents.length)).length

/-- Whether the 16 MiB of staging memory are full (spec 11 R269). -/
def State.stagingFull (s : State) : Bool :=
  262144 ≤ (s.coll.map (fun g => (g.2.op.map (fun o => o.chunks.length)).getD 0)).sum &&
    262144 ≤ (s.coll.map (fun g => g.2.staged)).sum

/-- Whether a port is furthest ahead of the slowest entry of an operation, past the 1 KiB every entry is guaranteed (spec 11 R269). -/
def State.collAhead (s : State) (p : Nat) : Bool :=
  s.coll.any (fun q =>
    match q.2.op, q.2.entryOf p with
    | some op, some i =>
      let ns := (List.range q.2.ents.length).map op.given
      16 < op.given i && ns.all (fun n => n ≤ op.given i) && ns.any (fun n => n < op.given i)
    | _, _ => false)

/-- Whether a group's next contribution would open a 129th operation (spec 11 R269). -/
def State.collTooMany (s : State) (gid : Nat) : Bool :=
  128 ≤ s.openOps && (match s.group gid with
    | some g => g.op.isNone
    | none => false)

/-- Whether the engine withholds the class-3 credit of a contribution of a group from a port (spec 11 R269). -/
def State.collHolds (s : State) (p gid : Nat) : Bool := s.collTooMany gid || (s.stagingFull && s.collAhead p)

/-! ### Sizes (spec 11 R260, R265, R266) -/

/-- How an operation combines elements. -/
inductive CollMode where
  | ordered | int | exact | smerge | move
deriving DecidableEq, Repr

/-- The mode of an operation: FP32 sums run the ordered tree; MAX and MIN ignore EXACT (R261). -/
def collMode (cop rop ty : Nat) (exact : Bool) : CollMode :=
  if cop = copGather || cop = copBroadcast || cop = copBarrier then .move
  else if rop = 3 then .smerge
  else if ty = 0xA then .int
  else if rop = 0 && exact && ty != 0 then .exact
  else .ordered

/-- Elements in so many chunks of a type; an exact partial holds one element a chunk. -/
def collElems (ty nchunk : Nat) : Nat :=
  if ty = 0xF then nchunk else if ty = 5 then 224 * (64 * nchunk) / 256 else 64 * nchunk * 8 / typeBits ty

/-- Chunks of the whole result of a reduction. -/
def collResChunks (cop rop ty outTy nchunk : Nat) : Nat :=
  if cop = copGather || cop = copBroadcast || cop = copBarrier || rop = 3 then nchunk
  else (collElems ty nchunk * typeBits outTy / 8 + 63) / 64

/-! ### Allowed shapes (spec 11 R260, R261) -/

/-- Whether a contribution of an entry that covers `count` ranks breaks R260 or R261. -/
def collBad (g : Group) (count : Nat) (m : CollMsg) : Bool :=
  let wide := isWide m.outTy
  let n := g.size
  let shape : Bool :=
    match m.cop with
    | 0 | 1 =>
      (match m.rop with
        | 0 =>
          if m.ty = 0xA then m.outTy == 0xA && !m.exact
          else if m.ty = 0xF then g.kind && m.exact && wide
          else if m.ty = 0 then wide && (m.outTy == 0 || g.kind)
          else (1 ≤ m.ty && m.ty ≤ 5) && wide && !(g.kind)
        | 3 => !m.exact
        | _ =>
          if m.ty = 0xA then m.outTy == 0xA && !m.exact
          else m.ty ≤ 5 && wide) &&
      (m.ty != 5 || m.nchunk % 4 == 0) &&
      (m.cop != copScatter ||
        (let r := collResChunks m.cop m.rop m.ty m.outTy m.nchunk; r % n == 0)) &&
      (collMode m.cop m.rop m.ty m.exact != .exact || g.isRoot || collElems m.ty m.nchunk ≤ 524288)
    | 2 => m.rop == 0 && m.ty == 0 && m.outTy == 0 && !m.exact && m.nchunk % count == 0 && m.nchunk / count * 64 * n ≤ 2 ^ 25
    | 3 => m.rop == 0 && m.ty == 0 && m.outTy == 0 && !m.exact
    | 4 => m.rop == 0 && m.nchunk == 1 && m.slots == 1
    | _ => false
  !shape || m.nchunk ≤ m.chunk

/-! ### Exact sums (spec 11 R265) -/

/-- An exact accumulator: the sum in units of 2^−136, its flags. -/
structure Exact where
  acc  : Int := 0
  nan  : Bool := false
  pinf : Bool := false
  ninf : Bool := false
  nnz  : Bool := false
  ovf  : Bool := false
deriving DecidableEq, Repr

/-- The accumulator of one value. -/
def exactOf (x : Ex) : Exact :=
  match x with
  | .nan => { nan := true, nnz := true }
  | .inf neg => { pinf := !neg, ninf := neg, nnz := true }
  | .fin m e neg =>
    { acc := if 0 ≤ e + 136 then m * 2 ^ (e + 136).toNat else m / 2 ^ (-(e + 136)).toNat, nnz := m != 0 || !neg }

/-- Adds two accumulators; an overflow gives the infinity of the added term's sign. -/
def Exact.add (a b : Exact) : Exact :=
  let s := a.acc + b.acc
  let beyond := s < -(2 ^ 287) || 2 ^ 287 ≤ s
  { acc := if beyond then a.acc else s
    nan := a.nan || b.nan
    pinf := a.pinf || b.pinf || (beyond && 0 ≤ b.acc)
    ninf := a.ninf || b.ninf || (beyond && b.acc < 0)
    nnz := a.nnz || b.nnz
    ovf := a.ovf || b.ovf || beyond }

/-- The exact sum rounded once. -/
def Exact.round (outTy : Nat) (a : Exact) : Nat :=
  toType outTy (if a.nan || (a.pinf && a.ninf) then .nan else if a.pinf then .inf false else if a.ninf then .inf true
    else .fin a.acc (-136) (a.acc == 0 && !a.nnz))

/-- An accumulator as a partial chunk, and back. -/
def Exact.pack (a : Exact) : Nat :=
  (a.acc % 2 ^ 288).toNat + b2n a.nan * 2 ^ 288 + b2n a.pinf * 2 ^ 289 + b2n a.ninf * 2 ^ 290 + b2n a.nnz * 2 ^ 291
def Exact.unpack (v : Nat) : Exact :=
  { acc := signedOf 288 (bits v 287 0), nan := bit v 288, pinf := bit v 289, ninf := bit v 290, nnz := bit v 291 }

/-! ### The ordered tree (spec 11 R263) -/

/-- The largest power of two below n, for n of at least 2. -/
def halfBelow (n : Nat) : Nat := 2 ^ Nat.log2 (n - 1)

/-- The ordered tree over values in rank order. -/
def collTree {α : Type} (op : α → α → α) : Nat → List α → Option α
  | 0, _ => none
  | _, [] => none
  | _, [x] => some x
  | n + 1, l =>
    let h := halfBelow l.length
    match collTree op n (l.take h), collTree op n (l.drop h) with
    | some a, some b => some (op a b)
    | a, none => a
    | none, b => b

/-! ### Results from contributions -/

/-- A chunk an entry has delivered. -/
def CollOp.chunkOf (op : CollOp) (i k : Nat) : Option (Line × Bool) :=
  (op.chunks.find? (fun c => c.1 == i && c.2.1 == k)).map (fun c => (c.2.2.1, c.2.2.2))

/-- The bytes of an entry's contribution; chunks still missing read as zeros. -/
def CollOp.row (op : CollOp) (i : Nat) : List PByte :=
  ((List.range op.nchunk).map (fun k => match op.chunkOf i k with
    | some (d, p) => (lineBytes d).map (fun b => (b, p))
    | none => fillBytes 64 0 false)).flatten

/-- Chunks element x of a contribution lies in. -/
def elemChunks (ty x : Nat) : List Nat :=
  if ty = 0xF then [x]
  else if ty = 5 then
    let o := mxOff 5 (x / 32)
    [o / 64, (o + 1 + x % 32) / 64]
  else [x * typeBits ty / 8 / 64]

/-- Chunks a record of SMERGE lies in. -/
def recordChunks (d r : Nat) : List Nat :=
  let n := 4 * d + 8
  (List.range ((r * n + n - 1) / 64 - r * n / 64 + 1)).map (fun i => r * n / 64 + i)

/-- What a device makes of a contribution: chunks of its result at the root, or of its partial. -/
structure CollShape where
  mode   : CollMode
  ty     : Nat
  bytes  : Nat
  chunks : Nat
deriving DecidableEq, Repr

/-- The shape of what a device makes of an operation. -/
def CollOp.shape (g : Group) (op : CollOp) : CollShape :=
  let mode := collMode op.cop op.rop op.ty op.exact
  match mode with
  | .move =>
    if op.cop = copGather then { mode := mode, ty := 0, bytes := 64, chunks := op.nchunk * g.count }
    else { mode := mode, ty := 0, bytes := 64, chunks := op.nchunk }
  | .smerge => { mode := mode, ty := 0, bytes := 4, chunks := op.nchunk }
  | .exact =>
    if g.isRoot then { mode := mode, ty := op.outTy, bytes := typeBits op.outTy / 8, chunks := collResChunks op.cop op.rop op.ty op.outTy op.nchunk }
    else { mode := mode, ty := 0xF, bytes := 64, chunks := collElems op.ty op.nchunk }
  | .int => { mode := mode, ty := 0xA, bytes := 4, chunks := op.nchunk }
  | .ordered =>
    let t := if g.isRoot then op.outTy else 0
    { mode := mode, ty := t, bytes := typeBits t / 8, chunks := (collElems op.ty op.nchunk * typeBits t / 8 + 63) / 64 }

/-- The input chunks that output chunk j needs of every entry. -/
def CollOp.needs (op : CollOp) (sh : CollShape) (j : Nat) : List Nat :=
  match sh.mode with
  | .move => []
  | .smerge =>
    let d := op.dM1 + 1
    let total := 64 * op.nchunk / (4 * d + 8)
    ((List.range 16).map (fun w => (16 * j + w) / (d + 2))).foldl
      (fun l r => if r < total then (recordChunks d r).foldl setAdd l else l) []
  | _ =>
    let per := 64 / sh.bytes
    let total := collElems op.ty op.nchunk
    (List.range per).foldl (fun l w => if per * j + w < total then (elemChunks op.ty (per * j + w)).foldl setAdd l else l) []

/-- One element of an ordered reduction: the FP32 or INT32 values of the entries through the tree. -/
def orderedElem (op : CollOp) (rows : List (List PByte)) (x : Nat) : PNat :=
  let vs := rows.map (fun r => elemAt op.ty r x)
  let dep := vs.any (fun e => e.dep)
  if op.ty = 0xA then ((collTree (redInt op.rop) vs.length (vs.map (fun e => e.raw))).getD 0, dep)
  else ((collTree (redFloat op.rop) vs.length (vs.map (fun e => (e.f32 op.ty).1))).getD 0, dep)

/-- One element of an exact sum. -/
def exactElem (op : CollOp) (rows : List (List PByte)) (x : Nat) : Exact × Bool :=
  let one (r : List PByte) : Exact × Bool :=
    if op.ty = 0xF then
      let v := pNat ((r.drop (64 * x)).take 64)
      (Exact.unpack v.1, v.2)
    else
      let e := elemAt op.ty r x
      (exactOf (e.ex op.ty), e.dep)
  match rows.map one with
  | [] => ({}, false)
  | a :: t => t.foldl (fun (acc : Exact × Bool) b => (acc.1.add b.1, acc.2 || b.2)) a

/-- A record of SMERGE through the tree: its words with their dependencies. -/
def smergeRecord (op : CollOp) (rows : List (List PByte)) (r : Nat) : List PNat :=
  let d := op.dM1 + 1
  let recs := rows.map (fun row => (List.range (d + 2)).map (fun w => word32 (row.drop (r * (4 * d + 8))) w))
  let base := recs.any (fun p => (p.drop d).any (·.2))
  let m := (collTree (fun a b => mergePartials d [a, b]) recs.length (recs.map (fun p => partialOf d (p.map (·.1))))).getD
    { o := [], m := 0, l := 0 }
  (m.words.zipIdx).map (fun w => (w.1, base || recs.any (fun p => ((p[w.2]?).map (·.2)).getD false)))

/-- Output chunk j of a device from its entries' contributions in rank order, and whether an exact sum overflowed. -/
def CollOp.outChunk (g : Group) (op : CollOp) (sh : CollShape) (j : Nat) : Line × Bool × Bool :=
  let rows := (List.range g.ents.length).map op.row
  let pack (l : List PNat) (n : Nat) : Line × Bool :=
    (BitVec.ofNat 512 ((l.zipIdx).foldl (fun v e => v + e.1.1 % 2 ^ (8 * n) * 2 ^ (8 * n * e.2)) 0), l.any (·.2))
  match sh.mode with
  | .move => (0, false, false)
  | .smerge =>
    let d := op.dM1 + 1
    let total := 64 * op.nchunk / (4 * d + 8)
    let r := pack ((List.range 16).map (fun w =>
      let k := 16 * j + w
      if k / (d + 2) < total then ((smergeRecord op rows (k / (d + 2)))[k % (d + 2)]?).getD (0, false) else (0, false))) 4
    (r.1, r.2, false)
  | .exact =>
    let per := 64 / sh.bytes
    let total := collElems op.ty op.nchunk
    let es := ((List.range per).filter (fun w => per * j + w < total)).map (fun w => exactElem op rows (per * j + w))
    let r := pack (es.map (fun e => (if sh.ty = 0xF then e.1.pack else e.1.round sh.ty, e.2))) sh.bytes
    (r.1, r.2, es.any (fun e => e.1.ovf))
  | _ =>
    let per := 64 / sh.bytes
    let total := collElems op.ty op.nchunk
    let es := ((List.range per).filter (fun w => per * j + w < total)).map (fun w =>
      let e := orderedElem op rows (per * j + w)
      if op.ty = 0xA then e else ((if sh.ty = 0 then e.1 else toType sh.ty (f32 e.1)), e.2))
    let r := pack es sh.bytes
    (r.1, r.2, false)

/-! ### Results towards entries (spec 11 R258, R259) -/

/-- Counts an event of the collective engine for a port. -/
def State.collCount (s : State) (code p : Nat) : State :=
  s.count { blk := .coll, code := code, master := some (2, bdFeid (s.map.cur.bind p)), tenant := true }

/-- Sends a CXL.io write of a result to a HOST procedure address. -/
def State.collIo (s : State) (res off : Nat) (d : List Byte) (poison : Bool) : State :=
  match spaceOf res with
  | .host p a => s.sendW p (s.cxlTc p) (some (bdTenant (s.map.cur.bind p))) kindWrite (.ioMemWr (a + off) d poison)
  | _ => s

/-- The status line of a member on a CXL link. -/
def collStatusLine (seq : Nat) (st : Byte) (len : Nat) : List Byte := bytesOf 64 (seq % 2 ^ 16 + st.toNat * 2 ^ 16 + len * 2 ^ 32)

/-- Sends a result chunk to an entry. -/
def State.collResult (s : State) (g : Nat) (e : CollEnt) (seq chunk n : Nat) (d : Line) (poison barrier : Bool) : State :=
  if s.ydUp e.port then
    let h : Hdr := { poison := poison, dst := BitVec.ofNat 16 (s.rd PORT_LSTAT_PARTNER_FEID e.port), src := s.ownFeid,
                     tag := BitVec.ofNat 16 seq, arg := BitVec.ofNat 64 (collResArg g stOk chunk n) }
    s.sendQ e.port 2 (.yd 0x19 h (if barrier then (lineSlots d).take 1 else lineSlots d))
  else if e.resAddr = 0 then s
  else s.collIo e.resAddr (64 + 64 * chunk) (lineBytes d) poison

/-- Tells an entry the final status of an operation that gave it no whole result. -/
def State.collFail (s : State) (g : Nat) (e : CollEnt) (seq : Nat) (st : Byte) : State :=
  if s.ydUp e.port then
    let h : Hdr := { dst := BitVec.ofNat 16 (s.rd PORT_LSTAT_PARTNER_FEID e.port), src := s.ownFeid,
                     tag := BitVec.ofNat 16 seq, arg := BitVec.ofNat 64 (collResArg g st 0 1) }
    s.sendQ e.port 2 (.yd 0x19 h [0])
  else if e.resAddr = 0 then s.collCount 0x05 e.port
  else s.collIo e.resAddr 0 (collStatusLine seq st 0) false

/-- The result chunks of an entry within the device's result: first, and how many (spec 11 R260). -/
def Group.piece (g : Group) (cop total : Nat) (e : CollEnt) : Nat × Nat :=
  if cop = copScatter then
    let p := total / g.count
    ((e.rank - g.first) * p, e.count * p)
  else (0, total)

/-- Delivers chunk j of the device's result to the entries whose result it belongs to; a member's last chunk on a CXL link is
followed by its status line. -/
def State.collDeliver (s : State) (gid : Nat) (g : Group) (op : CollOp) (total j : Nat) (d : Line) (poison : Bool) : State :=
  g.ents.foldl
    (fun s e =>
      let r := g.piece op.cop total e
      if r.1 ≤ j && j < r.1 + r.2 then
        let s := s.collResult gid e op.seq (j - r.1) r.2 d poison (op.cop == copBarrier)
        let whole := (List.range r.2).all (fun k => r.1 + k == j || op.sent.contains (r.1 + k))
        if whole && !s.ydUp e.port then
          if e.resAddr = 0 then s.collCount 0x05 e.port
          else s.collIo e.resAddr 0 (collStatusLine op.seq stOk (64 * r.2)) false
        else s
      else s) s

/-- Closes an operation: the expected number advances (spec 11 R268). -/
def State.collClose (s : State) (gid : Nat) (g : Group) : State :=
  (s.count { blk := .coll, code := 0x01 }).setGroup gid { g with op := none, next := (g.next + 1) % 2 ^ 16 }

/-- Whether an entry lacks a part of its result; below the root the result's size is known from its first chunk. -/
def Group.lacks (g : Group) (op : CollOp) (e : CollEnt) : Bool :=
  let total := if g.isRoot then (op.shape g).chunks else op.total
  let r := g.piece op.cop total e
  total == 0 || (List.range r.2).any (fun k => !op.sent.contains (r.1 + k))

/-- Ends an open operation with a status towards every entry that has not its whole result (spec 11 R273, R274). -/
def State.collEnd (s : State) (gid : Nat) (st : Byte) : State :=
  match s.group gid with
  | none => s
  | some g =>
    match g.op with
    | none => s
    | some op =>
      let s := g.ents.foldl (fun s e => if g.lacks op e then s.collFail gid e op.seq st else s) s
      s.collClose gid g

/-- Chunk j of the device's result is there: it goes to the entries, and the last one closes the operation. -/
def State.collTake (s : State) (gid total j : Nat) (d : Line) (poison : Bool) : State :=
  match s.group gid with
  | none => s
  | some g =>
    match g.op with
    | none => s
    | some op =>
      if op.sent.contains j then s
      else
        let s := s.collDeliver gid g op total j d poison
        let op := { op with sent := setAdd op.sent j, total := total }
        if op.sent.length = total then
          s.collClose gid g
        else s.setGroup gid { g with op := some op }

/-- Sends a chunk of the device's partial to its parent. -/
def State.collUp (s : State) (gid : Nat) (g : Group) (op : CollOp) (ty total j : Nat) (d : Line) (poison : Bool) : State :=
  let h : Hdr := { poison := poison, dst := BitVec.ofNat 16 (s.rd PORT_LSTAT_PARTNER_FEID g.parent), src := s.ownFeid,
                   tag := BitVec.ofNat 16 op.seq, arg := BitVec.ofNat 64 (collArg gid op ty j total) }
  s.sendQ g.parent 2 (.yd 0x18 h (if op.cop = copBarrier then (lineSlots d).take 1 else lineSlots d))

/-- What of an operation's output is ready: chunk, data, poison, overflow (spec 11 R270). -/
def CollOp.ready (g : Group) (op : CollOp) (sh : CollShape) : List (Nat × Line × Bool × Bool) :=
  let got := if g.isRoot then op.sent else op.up
  match sh.mode with
  | .move =>
    if op.cop = copGather then
      op.chunks.filterMap (fun c =>
        match g.ents[c.1]? with
        | none => none
        | some e =>
          let j := (e.rank - g.first) * op.nchunk + c.2.1
          if got.contains j then none else some (j, c.2.2.1, c.2.2.2, false))
    else if op.cop = copBroadcast then
      op.chunks.filterMap (fun c => if got.contains c.2.1 then none else some (c.2.1, c.2.2.1, c.2.2.2, false))
    else if got.isEmpty && (List.range g.ents.length).all (fun i => (op.chunkOf i 0).isSome) then
      [(0, 0, op.chunks.any (fun c => c.2.2.2), false)]
    else []
  | _ =>
    (List.range sh.chunks).filterMap (fun j =>
      if got.contains j then none
      else if (op.needs sh j).all (fun k => (List.range g.ents.length).all (fun i => (op.chunkOf i k).isSome)) then
        some (j, op.outChunk g sh j)
      else none)

/-- Sends what is ready: to the entries at the root, to the parent elsewhere. -/
def State.collRun (s : State) (gid : Nat) : State :=
  match s.group gid with
  | none => s
  | some g =>
    match g.op with
    | none => s
    | some op =>
      let sh := op.shape g
      (op.ready g sh).foldl
        (fun s r =>
          let s := if r.2.2.2 then (s.count { blk := .coll, code := 0x06 }).err ⟨.coll, 0⟩ 16 else s
          if g.isRoot then s.collTake gid sh.chunks r.1 r.2.1 r.2.2.1
          else
            match s.group gid with
            | none => s
            | some g' =>
              match g'.op with
              | none => s
              | some op' =>
                (s.collUp gid g' op' sh.ty sh.chunks r.1 r.2.1 r.2.2.1).setGroup gid
                  { g' with op := some { op' with up := setAdd op'.up r.1 } }) s

/-! ### Contributions (spec 11 R257, R262, R268) -/

/-- Answers a contribution's sender with a status. -/
def State.collRefuse (s : State) (gid p : Nat) (g : Option Group) (seq : Nat) (st : Byte) : State :=
  match g.bind (fun x => (x.entryOf p).bind (fun i => x.ents[i]?)) with
  | some e => s.collFail gid e seq st
  | none =>
    if s.ydUp p then s.collFail gid { port := p, rank := 0, count := 1, resAddr := 0 } seq st else s

/-- Whether a contribution fits an open operation. -/
def CollOp.fits (op : CollOp) (count : Nat) (m : CollMsg) : Bool :=
  op.cop == m.cop && op.rop == m.rop && op.ty == m.ty && op.outTy == m.outTy && op.dM1 == m.dM1 && op.exact == m.exact &&
    (if m.cop = copGather then op.nchunk == m.nchunk / count else op.nchunk == m.nchunk)

/-- A contribution arrives at the engine from a port, judged under its epoch (spec 11 R257); none where it would open a 129th
operation and waits (R269). -/
def State.collRecv (s : State) (ep p : Nat) (m : CollMsg) : Option State :=
  let gid := m.group
  let go := s.group gid
  let denied (s : State) : State := (s.collCount 0x02 p).collRefuse gid p go m.seq stDenied
  let bd := (s.bank ep).bind p
  if !s.enabled .coll then some (denied s)
  else
    match go with
    | none => some (denied s)
    | some g =>
      let entry := g.entryOf p
      if (entry.isNone && g.parent != p) || !bdValid bd || bdTenant bd != g.tenant then some (denied s)
      else
        match entry with
        | none => some ((s.collCount 0x03 p).collRefuse gid p go m.seq stDenied)
        | some i =>
          let e := (g.ents[i]?).getD { port := p, rank := 0, count := 1, resAddr := 0 }
          if collBad g e.count m then some (s.collRefuse gid p go m.seq stDenied)
          else if m.cop == copBroadcast && !(e.rank ≤ g.bcast && g.bcast < e.rank + e.count) then
            some ((s.collCount 0x03 p).collRefuse gid p go m.seq stDenied)
          else if m.seq != g.next then some ((s.collCount 0x04 p).collRefuse gid p go m.seq stAborted)
          else if g.fenced then
            some ((g.ents.foldl (fun s e => s.collFail gid e g.next stAborted) s).collClose gid g)
          else
            let add (op : CollOp) : State :=
              if op.chunks.any (fun c => c.1 == i && c.2.1 == m.chunk) then s
              else (s.setGroup gid { g with op := some { op with chunks := op.chunks ++ [(i, m.chunk, m.data, m.poison)] } }).collRun gid
            match g.op with
            | some op =>
              if op.fits e.count m then some (add op)
              else some ((s.collCount 0x03 p).collRefuse gid p go m.seq stDenied)
            | none =>
              if 128 ≤ s.openOps then none
              else some (add
                { cop := m.cop
                  rop := m.rop
                  ty := m.ty
                  outTy := m.outTy
                  dM1 := m.dM1
                  exact := m.exact
                  nchunk := if m.cop = copGather then m.nchunk / e.count else m.nchunk
                  seq := m.seq })

/-- A COLL message. -/
def State.collYd (s : State) (ep p : Nat) (h : Hdr) (slots : List Slot) : Option State :=
  s.collRecv ep p (collMsg h.arg.toNat h.tag.toNat (BitVec.ofNat 512 (ofSlots (slots.take 4))) h.poison slots.length)

/-- A COLL_RES arrives from the parent (spec 11 R262, R274): result chunks go down, a status ends the operation; data with no
operation open opens a BROADCAST. -/
def State.collRes (s : State) (p : Nat) (h : Hdr) (slots : List Slot) : State :=
  let a := h.arg.toNat
  let gid := bits a 11 0
  let st : Byte := BitVec.ofNat 8 (bits a 19 12)
  let n := bits a 57 39 + 1
  match s.group gid with
  | none => s
  | some g =>
    if g.parent != p || !s.enabled .coll || h.tag.toNat != g.next then s
    else if st != stOk then
      match g.op with
      | some _ => s.collEnd gid st
      | none => (g.ents.foldl (fun s e => s.collFail gid e g.next st) s).collClose gid g
    else if g.fenced then (g.ents.foldl (fun s e => s.collFail gid e g.next stAborted) s).collClose gid g
    else
      let fresh : CollOp :=
        { cop := copBroadcast, rop := 0, ty := 0, outTy := 0, dM1 := 0, exact := false, nchunk := n, seq := g.next }
      let s := match g.op with
        | some _ => s
        | none => s.setGroup gid { g with op := some fresh }
      s.collTake gid n (bits a 38 20) (BitVec.ofNat 512 (ofSlots (slots.take 4))) h.poison

/-- A write to a member's collective window (spec 11 R259). -/
def State.collWindow (s : State) (ep p gid off : Nat) (d : Line) (whole poison : Bool) : Option State :=
  if !whole then some (s.collCount 0x02 p)
  else if off = 0 then
    some (s.modPort p (fun x => { x with
      collHdr := Tbl.put x.collHdr gid (bits d.toNat 63 0, bits d.toNat 79 64, 0) }))
  else
    match Tbl.get? (s.port p).collHdr gid with
    | none => some (s.collCount 0x02 p)
    | some (arg, seq, k) =>
      let s' := s.modPort p (fun x => { x with collHdr := Tbl.put x.collHdr gid (arg, seq, k + 1) })
      let m := collMsg arg seq d poison (if bits arg 14 12 = copBarrier then 1 else 4)
      s'.collRecv ep p { m with group := gid, chunk := k }

/-! ### Aborts, limits, definitions (spec 11 R256, R273, R274, R278) -/

/-- The limit of an operation passes at the root. -/
def State.collLimit (s : State) (gid : Nat) : State :=
  match s.group gid with
  | none => s
  | some g => if g.isRoot then s.collEnd gid stTimeout else s

/-- A verdict reaches the groups that use one of these ports (spec 11 R273). -/
def State.collVerdict (s : State) (hit : Nat → Bool) : State :=
  (s.coll.filter (fun (g : Nat × Group) => g.2.ents.any (fun e => hit e.port) || (!g.2.isRoot && hit g.2.parent))).foldl
    (fun s q =>
      let s := s.collEnd q.1 stAborted
      match s.group q.1 with
      | none => s
      | some g => s.setGroup q.1 { g with fenced := true }) s

/-- Ends every open operation ABORTED; definitions and sequence numbers stay (spec 11 R278). -/
def State.collAbortAll (s : State) : State := (s.coll.map (·.1)).foldl (fun s g => s.collEnd g stAborted) s

/-- A group image: n bytes at a pool address as the home holds them. -/
def State.imageBytes (s : State) (a n : Nat) : List Byte :=
  (((linesOf a n).map (fun l => lineBytes (s.readPool s.map.cur (64 * l)).data)).flatten.drop (a % 64)).take n

/-- An entry of a group image. -/
def imageEntry (v : Nat) : CollEnt := { port := bits v 7 0, rank := bits v 31 16, count := bits v 47 32 + 1, resAddr := bits v 127 64 }

/-- The group of an image. -/
def imageGroup (hd : Nat) (es : List Nat) : Group :=
  { tenant := bits hd 15 0
    kind := bit hd 24
    first := bits hd 47 32
    size := bits hd 63 48 + 1
    parent := bits hd 71 64
    bcast := bits hd 102 88
    next := bits hd 87 72
    ents := es.map imageEntry }

/-- Whether ranks rise without a gap from a first rank. -/
def ranksRun (first : Nat) : List CollEnt → Bool
  | [] => true
  | e :: t => e.rank == first && ranksRun (first + e.count) t

/-- The result of a DEFINE of an image: a refusal, or the group (spec 11 R256). -/
def State.collDefineRes (s : State) (gid a : Nat) : Nat × Option Group :=
  if a % 32 != 0 then (rcAlign, none)
  else
    let hd := ofBytes (s.imageBytes a 32)
    let n := bits hd 23 16 + 1
    let raw := (List.range n).map (fun i => ofBytes (s.imageBytes (a + 32 + 16 * i) 16))
    let g := imageGroup hd raw
    let badEnt (v : Nat) : Bool :=
      bits v 15 8 != 0 || bits v 63 48 != 0 || (!g.kind && bits v 47 32 != 0) ||
        (bits v 127 64 != 0 && (bits v 127 64 % 64 != 0 || bits v 127 124 != 2 || malformed (bits v 127 64)))
    let range := !(exValid (s.map.cur.extent (a / 2 ^ 30))) || bits hd 31 25 != 0 || bits hd 255 103 != 0 || 128 < n || 32768 < g.size ||
      raw.any badEnt || !ranksRun g.first g.ents || (g.isRoot && (g.first != 0 || g.count != g.size)) || g.size ≤ g.bcast
    let dup := (s.group gid).isSome || g.ents.any (fun e => (g.ents.filter (fun f => f.port == e.port)).length != 1)
    let role := g.ents.any (fun e => s.role e.port != (if g.kind then .trunk else .leaf)) ||
      (!g.isRoot && s.role g.parent != .trunk) ||
      (!g.kind && g.ents.any (fun e => bdTenant (s.map.cur.bind e.port) != g.tenant))
    if range then (rcFieldRange, none)
    else if dup then (rcOverlap, none)
    else if role then (rcRole, none)
    else (rcOk, some g)

/-- Address of the image a DEFINE reads. -/
def State.groupImage (s : State) : Nat := s.rd COLL_GDEF_LO_ADDR + 2 ^ 32 * s.rd COLL_GDEF_HI_ADDR

/-- Defines a group by its image, as memory holds it. -/
def State.collEnter (s : State) (gid a : Nat) : State :=
  let r := s.collDefineRes gid a
  let s := s.set COLL_GCMD_RESULT r.1
  match r.2 with
  | none => s
  | some g => s.setGroup gid g

/-- Defines a group once what leaves own of its image is in memory: the engine reads the image at the home (spec 01 R16). -/
def State.collRead (s : State) (q : Nat × Nat) : State :=
  let run := (q.2, 32 + 16 * (bits (ofBytes (s.imageBytes q.2 32)) 23 16 + 1))
  if !s.home.dir.isEmpty && s.ownedRun run || !s.home.txns.isEmpty && s.ownedRun run || !s.home.defines.isEmpty then
    let s := s.pull 1 (run.1 / 64) ((run.1 + run.2 + 63) / 64 - run.1 / 64)
    { s with home := { s.home with defines := s.home.defines ++ [q] } }
  else s.collEnter q.1 q.2

/-- Goes on with the groups whose image was being read, in order. -/
def State.collResume (s : State) : State :=
  s.home.defines.foldl State.collRead { s with home := { s.home with defines := [] } }

/-- DEFINE. -/
def State.collDefine (s : State) (gid : Nat) : State := (s.set COLL_GCMD_GROUP gid).collRead (gid, s.groupImage)

/-- DELETE. -/
def State.collDelete (s : State) (gid : Nat) : State :=
  let s := s.set COLL_GCMD_GROUP gid
  match s.group gid with
  | none => s.set COLL_GCMD_RESULT rcDependency
  | some _ =>
    let s := s.collEnd gid stAborted
    { (s.set COLL_GCMD_RESULT rcOk) with coll := Tbl.del s.coll gid }

end Sys2Proof.Machine
end

