-- ==== Sys2Proof/Machine/Live.lean ====
section
/-! DEFINITION. Liveness: heartbeats, votes, verdicts, fences, self-fencing and rejoining (spec 15; 04 R94), and the progress
accounting (15 R353, R354). -/

namespace Sys2Proof.Machine

abbrev lvSuspect : BitVec 8 := 1
abbrev lvWithdraw : BitVec 8 := 2
abbrev lvVerdict : BitVec 8 := 3
abbrev lvRejoin : BitVec 8 := 4
abbrev lvRejoinAck : BitVec 8 := 5
abbrev lvFenceEntry : BitVec 8 := 6

/-- States of LIVE_STAT.STATE. -/
abbrev lsDisabled : Nat := 0
abbrev lsJoining : Nat := 1
abbrev lsMember : Nat := 2
abbrev lsFenced : Nat := 3

/-- Changes the liveness state. -/
def State.mapLive (s : State) (f : LiveSt → LiveSt) : State := { s with live := f s.live }

/-- The FEID of the partner of a port whose YD link is up and has been introduced. -/
def State.partner (s : State) (p : Nat) : Option Feid :=
  if s.ydUp p && (s.port p).initRx then some (BitVec.ofNat 16 (s.rd PORT_LSTAT_PARTNER_FEID p)) else none

/-- Ports with a YD link up. -/
def State.ydPorts (s : State) : List Nat := (s.ports.keys).filter (fun p => (s.partner p).isSome)

/-- Device neighbours: the partners on TRUNK ports (R335). -/
def State.devNeighbours (s : State) : List Nat :=
  (s.ydPorts.filter (fun p => s.role p == .trunk)).foldl (fun l p => match s.partner p with | some f => setAdd l f.toNat | none => l) []

/-- Whether a FEID is a neighbour. -/
def State.isNeighbour (s : State) (f : Feid) : Bool := s.ydPorts.any (fun p => s.partner p == some f)

/-- The device's incarnation. -/
def State.ownIncarn (s : State) : BitVec 16 := BitVec.ofNat 16 (s.rd LIVE_INCARN_INCARN)

/-! ### Flooding (R338) -/

/-- Sends a LIVE message on a port in Q0. -/
def State.sendLive (s : State) (p : Nat) (kind : BitVec 8) (m : LiveMsg) : State :=
  match s.partner p with
  | none => s
  | some f => s.sendQ p 0 (.live kind f m)

/-- Floods a message: on TRUNK ports whose partner no verdict stands against, VERDICT and REJOIN on LEAF ports as well, never on
the ingress port. -/
def State.flood (s : State) (kind : BitVec 8) (m : LiveMsg) (ingress : Option Nat) : State :=
  s.ydPorts.foldl
    (fun s p =>
      let member : Bool := match s.partner p with | some f => !s.feidFenced f | none => false
      let far := kind == lvVerdict || kind == lvRejoin
      if some p == ingress || !member then s
      else match s.role p with
        | .trunk => s.sendLive p kind m
        | .leaf => if far then s.sendLive p kind m else s
        | _ => s) s

/-- The identity of a message. -/
def liveId (kind : BitVec 8) (m : LiveMsg) : BitVec 8 × BitVec 16 × BitVec 16 × DevId := (kind, m.subject, m.incarn, m.origin)

/-- Whether a message has been seen in the last 10 ms. -/
def State.liveSeen (s : State) (kind : BitVec 8) (m : LiveMsg) : Bool := s.live.seen.contains (liveId kind m)

/-- Remembers a message and forwards it. -/
def State.liveForward (s : State) (kind : BitVec 8) (m : LiveMsg) (ingress : Option Nat) : State :=
  (s.mapLive (fun l => { l with seen := l.seen ++ [liveId kind m] })).flood kind m ingress

/-- A message of this device. -/
def State.ownLive (s : State) (cause : BitVec 3) (subject incarn : BitVec 16) : LiveMsg :=
  { cause := cause, subject := subject, incarn := incarn, origin := s.ownDev, ts := s.ts }

/-! ### Losing a leaf (spec 04 R94) -/

/-- The commands of a port that wait in the home. -/
def cmdPort : Instr → Option Nat
  | .rd p _ | .wr p _ _ | .wrMask p _ _ _ | .atom p _ _ | .publish p _ _ | .openReq p _ _ | .close p _ _ | .replReq p _ _
  | .coll p _ _ | .memRd p _ _ _ _ | .memInv p _ _ _ | .memWr p _ _ _ _ _ _ _ | .biconflict p _ _ | .cxlIoMemWr p _ _ _ _
  | .cxlIoMemRd p _ _ _ _ | .atomicOp p _ _ _ _ _ _ _ | .collWindowWrite p _ _ _ _ _ | .cfgRd p _ _ => some p.val
  | .trigger _ p _ _ _ => some p.val
  | _ => none

/-- The sender of a YD command. -/
def cmdSrc : Instr → Option Feid
  | .rd _ h | .wr _ h _ | .wrMask _ h _ _ | .rspData _ h _ | .rsp _ h | .atom _ h _ | .atomRsp _ h _ | .atomAck _ h | .publish _ h _
  | .openReq _ h _ | .close _ h _ | .replReq _ h _ | .replInv _ h _ | .rgnInv _ h _ | .pubRsp _ h _ | .coll _ h _ | .collRes _ h _ => some h.src
  | .trigger .yd _ h _ _ => some h.src
  | .stitchKey _ h _ _ | .bestRsp _ h _ _ _ | .allRsp _ h _ _ _ | .tuckContinue _ h | .tuckEntry _ h _ _ | .tuckAck _ h
  | .tuckAbortMsg _ h => some h.src
  | .give _ m | .take _ m | .handoffCommit _ m | .commitAck _ m => some m.src
  | _ => none

/-- Discards the publication requests a test selects that are not judged yet: those behind a region's PUBLISH and a PUBLISH whose
list has not arrived. They leave no reply-cache entry (spec 05 R121). -/
def State.dropPubs (s : State) (f : Instr → Bool) : State :=
  let lists := s.pub.listWait.filter (fun w => f (.publish w.1 w.2.1 w.2.2))
  let behind := s.pub.regions.flatMap (fun (r : Nat × Region) => (r.2.waiting.map (fun w => w.cmd)).filter f)
  let heads : List Hdr := lists.map (fun w => w.2.1) ++ behind.filterMap (fun c => match c with
    | .publish _ h _ | .openReq _ h _ | .close _ h _ => some h
    | _ => none)
  let s := heads.foldl (fun s h => s.rcDrop h.src (pubIncarn h) h.tag) s
  let left := s.pub.listWait.filter (fun w => !f (.publish w.1 w.2.1 w.2.2))
  let fix (r : Region) : Region :=
    { r with waiting := r.waiting.filter (fun c => !f c.cmd), running := r.running.filter (fun w => !lists.contains w) }
  { s with pub := { s.pub with listWait := left, regions := s.pub.regions.map (fun (r : Nat × Region) => (r.1, fix r.2)) } }

/-- Drops waiting commands a test selects, wherever requests wait. -/
def State.dropWaiting (s : State) (f : Instr → Bool) : State :=
  let keep (l : List Held) : List Held := l.filter (fun c => !f c.cmd)
  let s := s.dropPubs f
  { s with
    home := { s.home with blocked := keep s.home.blocked }
    map := { s.map with
      held := keep s.map.held
      ho := s.map.ho.map (fun (h : Nat × Handover) => (h.1, { h.2 with queue := keep h.2.queue })) }
    ports := s.ports.map (fun (p : Nat × PortSt) =>
      (p.1, { p.2 with held := keep p.2.held, l1Wait := p.2.l1Wait.filter (fun c => !f c), fences := p.2.fences.map (fun g => (g.1, keep g.2)) })) }

/-- Drops the requests of a port or sender that are not yet ordered; ordered ones, write-backs, and those passed on go on without an
answer. An atomic so dropped leaves no reply-cache entry (spec 05 R121). -/
def State.dropRequests (s : State) (mine : Src → Bool) : State :=
  let goes (t : Txn) : Bool := t.running || t.acc.isWback
  let s := (s.home.txns.filter (fun t => !goes t && mine t.src)).foldl (fun s t =>
    match t.acc with
    | .atomic _ _ _ _ _ _ (some (f, i, tag)) => s.rcDrop f i tag
    | _ => s) s
  let far := s.map.proxied.filter (fun q => mine q.2.2.1)
  { s with
    home := { s.home with txns :=
      (s.home.txns.filter (fun t => goes t || !mine t.src)).map (fun t => if mine t.src then { t with src := .internal } else t) }
    map := { s.map with
      proxied := s.map.proxied.filter (fun q => !mine q.2.2.1)
      passed := s.map.passed.filter (fun q => !far.any (fun r => r.1 == q.1 && r.2.1 == q.2.1)) } }

/-- A leaf is lost: its owned lines are poisoned, its records cleared, its snoops end as if their time had passed, its unordered
requests are discarded (spec 04 R92, R94). -/
def State.leafLost (s : State) (p : Nat) : State :=
  let snoops := s.home.snoopsTo.filter (fun q => q.1 == p)
  let owned := s.home.dir.filter (fun e => e.2.st != .s && e.2.owner == p)
  let s := owned.foldl
    (fun s e => (s.spoil (64 * e.1)).count
      { blk := .home, code := 0x09, addr := some (64 * e.1), master := some (1, bdPbr (s.map.cur.bind p)) }) s
  let twin := if p < 128 then p + 128 else p - 128
  let s := (s.home.dir.filter (fun e => (s.holders e.2).contains p)).foldl
    (fun s e => if e.2.st == .s && s.linked twin then s else s.clearHolder e.1 p false) s
  let s := snoops.foldl (fun s q => s.snoopExpired p q.2) s
  let s := s.dropRequests (fun r => r.port == some p)
  let s := { s with rc := s.rc.map (fun (e : RcEntry) => { e with dups := e.dups.filter (fun q => q.val != p) }) }
  s.dropWaiting (fun c => cmdPort c == some p)

/-! ### Verdicts (R341, R342, R344) -/

/-- Latches a verdict (R341). -/
def State.latchVerdict (s : State) (feid incarn cause : Nat) (isPort : Bool) : State :=
  let s := (s.count { blk := .live, code := 0x01 }).err ⟨.live, 0⟩ 16
  let s := if s.flag LIVE_LAST_W1_VALID then s.set LIVE_LAST_W1_MORE 1 else s
  ((((s.set LIVE_LAST_W0_FEID feid).set LIVE_LAST_W0_INCARN incarn).set LIVE_LAST_W1_CAUSE cause).set
    LIVE_LAST_W1_PORT (b2n isPort)).set LIVE_LAST_W1_VALID 1

/-- Whether a message is a YD request of another sender towards a FEID. -/
def towards (f : Feid) : Msg → Bool
  | .yd _ h _ => h.dst == f
  | .handoff _ d _ => d == f
  | .stitchKey d _ _ _ => d == f
  | .bestRsp d _ _ _ _ => d == f
  | .allRsp d _ _ _ _ => d == f
  | .tuck d _ _ _ _ => d == f
  | .live k d _ => d == f && k != lvRejoinAck && k != lvFenceEntry
  | _ => false

/-- Answers DENIED to the sender of a request passed on to a FEID that a verdict fell against (R341), in the name of the FEID
it asked. -/
def State.refuseTransit (s : State) (q : Feid × Byte × Hdr) : State :=
  let h := q.2.2
  let a (arg : Nat) : Hdr := { tc := h.tc, dst := h.src, src := h.dst, tag := h.tag, arg := BitVec.ofNat 64 arg }
  let kind := pubKind h
  let region := if kind == 0x10 || kind == 0x11 then 0 else pubRegion h
  if q.2.1 = 0x0D then
    let m : Msg := .yd 0x0D (a (pubRspArg kind stDenied region false false)) [0]
    if 0x10 ≤ kind then s.sendYdQ h.src 1 m else s.sendYd h.src h.tc kindForward none m
  else s.sendYd h.src h.tc kindForward none (.yd q.2.1 (a stDenied.toNat) (if q.2.1 = 0x09 then [0] else []))

/-- Ends everything that waits on a FEID with DENIED (R341). -/
def State.endOutstanding (s : State) (f : Feid) : State :=
  let peer := 256 + f.toNat
  let mine := s.map.proxied.filter (fun q => q.1 == peer)
  let s := { s with map := { s.map with
    proxied := s.map.proxied.filter (fun q => q.1 != peer)
    passed := s.map.passed.filter (fun q => q.1 != peer && (q.1 < 2 ^ 32 || q.1 / 65536 % 65536 != f.toNat && q.1 % 65536 != f.toNat)) } }
  let s := mine.foldl (fun s q =>
    match q.2.2.1 with
    | .core x id k => s.procAnswer x id k stDenied 0
    | src => s.refuse src q.2.2.2 stDenied) s
  let gone (r : RemoteRd) : Bool := r.res.isNone && (match spaceOf r.addr with | .peer g _ => g == f | _ => false)
  let s := { s with procs := { s.procs with procs := s.procs.procs.map (fun (q : Nat × List Proc) =>
    (q.1, q.2.map (fun (p : Proc) => { p with remote := p.remote.map (fun (r : RemoteRd) =>
      if gone r then { r with res := some (stDenied, [], false) } else r) }))) } }
  let sent := s.map.transit.filter (fun q => q.1 == f)
  let s := { s with map := { s.map with transit := s.map.transit.filter (fun q => q.1 != f && q.2.2.src != f) } }
  let s := { s with ports := s.ports.map (fun (p : Nat × PortSt) =>
    (p.1, { p.2 with
      egress := p.2.egress.filter (fun e => !towards f e.msg)
      replay := p.2.replay.map (fun (r : BitVec 12 × List Queued) => (r.1, r.2.filter (fun e => !towards f e.msg))) })) }
  let s := { s with pub := { s.pub with fwd := s.pub.fwd.filter (fun (g : FwdOpen) => g.hdr.dst != f && g.hdr.src != f) } }
  sent.foldl State.refuseTransit s

/-- Chain lookups of this device end BUSY_RETRY when a member is lost (spec 12 R290). -/
def State.chainVerdict (s : State) (f : Feid) : State :=
  if s.flag FILT_CHAIN_EN && s.chainPeers.contains f then
    s.filt.slots.foldl
      (fun s q => match s.slotRes q.1 with
        | none => s
        | some (k, r) => s.chainDone q.1 k { r with st := stBusyRetry }) s
  else s

/-- Acknowledgements a FEID owes count as given (spec 04 R98, 05 R117); its replicas are gone. -/
def State.peerAcked (s : State) (f : Feid) : State :=
  let pages := (s.home.repl.invWait.filter (fun q => q.2.any (fun w => w.1 == f.toNat))).map (·.1)
  let s := pages.foldl (fun s p => s.replAcked p f.toNat) s
  let s := s.mapRepl (fun r => { r with peers := (r.peers.map (fun (q : Nat × List Nat) => (q.1, setDel q.2 f.toNat))).filter (fun q => !q.2.isEmpty) })
  let regs := (s.pub.regions.filter (fun q => q.2.invWait.contains f)).map (·.1)
  let s := regs.foldl (fun s i => s.rgnAcked i f) s
  { s with pub := { s.pub with regions := s.pub.regions.map (fun (q : Nat × Region) =>
    (q.1, { q.2 with replicas := q.2.replicas.filter (fun g => g != f) })) } }

/-- Replicas of a fenced home's pages and regions serve no more reads here, and requests for them end (spec 04 R96, 05 R117; DEDUCED,
assumption log 190). -/
def State.homeGone (s : State) (f : Feid) : State :=
  let of (k : Nat) : Bool := k / 2 ^ 36 == f.toNat
  let s := s.mapRepl (fun r => { r with
    mine := r.mine.filter (fun q => !of q.1)
    mineTag := r.mineTag.filter (fun q => !of q.1)
    asked := r.asked.filter (fun q => !of q.1)
    mineBytes := r.mineBytes.filter (fun c => !of (c.1 / 4096)) })
  { s with pub := { s.pub with replicas := s.pub.replicas.map (fun (q : Nat × RegionReplica) =>
    (q.1, if q.2.home == f then { q.2 with alive := false } else q.2)) } }

/-- The device ID of the partner with a FEID. -/
def State.devOfFeid (s : State) (f : Feid) : Option DevId :=
  (s.ports.find? (fun p => p.2.initRx && s.rd PORT_LSTAT_PARTNER_FEID p.1 == f.toNat)).map (fun p => p.2.partnerDev)

/-- Ports whose partner is a FEID. -/
def State.portsTo (s : State) (f : Feid) (p : Nat) : Bool := (s.port p).initRx && s.rd PORT_LSTAT_PARTNER_FEID p == f.toNat

/-- The hand-over queues of a device that fences itself complete HANDOFF_FAILED; a side in GIVING or AWAITING gives up (03 R76). -/
def State.hoSelfFence (s : State) : State :=
  s.map.ho.foldl
    (fun s q =>
      match q.2.st with
      | .giving => s.failQueue q.1 { q.2 with last := none } .owned
      | .awaiting => s.failQueue q.1 q.2 .failed
      | .taking => q.2.queue.foldl (fun s c => s.refuseCmd c.cmd stHandoffFailed) (s.setHo q.1 (some { q.2 with queue := [] }))
      | .givenUnconfirmed => q.2.queue.foldl (fun s c => s.refuseCmd c.cmd stHandoffFailed) (s.setHo q.1 (some { q.2 with queue := [] }))
      | _ => s) s

/-- Recalls every line that leaves hold, and starts the write-back of every dirty unit (R346). -/
def State.flush (s : State) : State :=
  let s := s.home.dir.foldl (fun s e => (s.holders e.2).foldl (fun s p => s.snoop true e.1 p) s) s
  let us := (s.tier.t1.map dirtyOf).flatten
  { s with tier := { s.tier with wbs := us.foldl (fun l u => if l.any (fun w => w.1 == u) then l else l ++ [(u, false)]) s.tier.wbs } }

/-- Whether a leaf holds a line, a write-back runs or a unit is dirty: the flush has not ended. -/
def State.flushLeft (s : State) : Bool :=
  s.home.dir.any (fun e => !(s.holders e.2).isEmpty) || s.home.txns.any (fun t => t.acc.isWback) || s.tier.t1.any (fun p => !(dirtyOf p).isEmpty)

/-- Self-fences (R345, R346): tenant traffic is refused, procedures and collectives end, the home flushes. -/
def State.selfFence (s : State) (cause : Nat) : State :=
  let s := ((s.set LIVE_STAT_STATE lsFenced).set LIVE_STAT_CAUSE cause).err ⟨.live, 0⟩ 17
  let s := (s.procs.procs.map (·.1)).foldl State.abortProcs s
  let s := s.collAbortAll.hoSelfFence
  (s.set LIVE_STAT_FLUSHING 1).flush

/-- A verdict against a participant takes effect (R341, R345). One against this device fences it where it names its current
incarnation; one against an incarnation already fenced changes nothing. -/
def State.applyVerdict (s : State) (f : Feid) (incarn : BitVec 16) (cause : Nat) : State :=
  if f == s.ownFeid then
    if incarn == s.ownIncarn && !s.selfFenced then (s.latchVerdict f.toNat incarn.toNat cause false).selfFence cause else s
  else
    match Tbl.get? s.live.fences f.toNat with
    | some (old, _) =>
      if newerThan incarn old then
        (s.mapLive (fun l => { l with fences := Tbl.put l.fences f.toNat (incarn, false) })).latchVerdict f.toNat incarn.toNat cause false
      else s
    | none =>
      let s := s.mapLive (fun l => { l with
        fences := Tbl.put l.fences f.toNat (incarn, false)
        votes := l.votes.filter (fun v => v.subject != f)
        suspects := l.suspects.filter (fun g => g != f)
        missed := Tbl.del l.missed f.toNat })
      let s := s.latchVerdict f.toNat incarn.toNat cause false
      let s := s.dropRequests (fun r => match r with | .yd _ h => h.src == f | _ => false)
      let s := s.dropWaiting (fun c => cmdSrc c == some f)
      let s := s.endOutstanding f
      let s := (s.rcFree f (fun _ => true)).releasePins f (fun _ => true)
      let s := (s.peerAcked f).homeGone f
      let s := match s.devOfFeid f with | some d => s.hoVerdict d | none => s
      let s := s.collVerdict (s.portsTo f)
      let s := s.chainVerdict f
      ((s.ports.keys).filter (fun p => s.role p == .leaf && s.portsTo f p)).foldl State.leafLost s

/-- A verdict against a port of this device (R344). -/
def State.portVerdict (s : State) (p cause : Nat) : State :=
  if s.rd PORT_FSTAT_FENCED p == 1 then s
  else
    let s := (s.set PORT_FSTAT_FENCED 1 p).err ⟨.port, p⟩ 19
    let s := s.latchVerdict p 0 cause true
    let s := (s.leafLost p).collVerdict (fun q => q == p)
    let m : LiveMsg := { (s.ownLive (BitVec.ofNat 3 cause) (BitVec.ofNat 16 p) 0) with isPort := true, subjDev := s.ownDev }
    s.liveForward lvVerdict m none

/-- The device judges a participant itself and floods its verdict (R339, R342, R343). -/
def State.judge (s : State) (f : Feid) (incarn : BitVec 16) (cause : Nat) : State :=
  (s.liveForward lvVerdict (s.ownLive (BitVec.ofNat 3 cause) f incarn) none).applyVerdict f incarn cause

/-! ### Suspicion and votes (R337, R339) -/

/-- Adds a vote. -/
def State.addVote (s : State) (v : Vote) : State :=
  s.mapLive (fun l => { l with votes := l.votes.filter (fun w => !(w.subject == v.subject && w.incarn == v.incarn && w.juror == v.juror)) ++ [v] })

/-- Judges a subject when a majority of its jury suspects it (R339). -/
def State.tallyVotes (s : State) (f : Feid) (incarn : BitVec 16) : State :=
  let vs := s.live.votes.filter (fun v => v.subject == f && v.incarn == incarn)
  let n := vs.foldl (fun m v => max m v.jury) 0
  if n != 0 && n / 2 + 1 ≤ vs.length then s.judge f incarn 1 else s

/-- This device suspects a neighbour. -/
def State.suspect (s : State) (f : Feid) : State :=
  if s.live.suspects.contains f || s.feidFenced f then s
  else
    let incarn := Tbl.get s.live.incarns f.toNat 0
    let jury := Tbl.get s.live.ndev f.toNat 0
    let m : LiveMsg := { (s.ownLive 1 f incarn) with jury := BitVec.ofNat 8 jury }
    let s := (s.mapLive (fun l => { l with suspects := l.suspects ++ [f] })).liveForward lvSuspect m none
    (s.addVote { subject := f, incarn := incarn, juror := s.ownDev, jury := jury }).tallyVotes f incarn

/-- A juror resends its SUSPECT (R338). -/
def State.suspectResend (s : State) (f : Feid) : State :=
  if s.live.suspects.contains f then
    s.flood lvSuspect { (s.ownLive 1 f (Tbl.get s.live.incarns f.toNat 0)) with jury := BitVec.ofNat 8 (Tbl.get s.live.ndev f.toNat 0) } none
  else s

/-- A suspected neighbour is heard again: WITHDRAW (R337). -/
def State.unsuspect (s : State) (f : Feid) : State :=
  if s.live.suspects.contains f then
    let incarn := Tbl.get s.live.incarns f.toNat 0
    let s := s.mapLive (fun l => { l with
      suspects := l.suspects.filter (fun g => g != f)
      votes := l.votes.filter (fun v => !(v.subject == f && v.juror == s.ownDev)) })
    s.liveForward lvWithdraw (s.ownLive 1 f incarn) none
  else s

/-- A FEID is heard with an incarnation on INIT or HB: a newer one is a verdict against the older (R342). -/
def State.hearIncarn (s : State) (f : Feid) (incarn : BitVec 16) : State :=
  match Tbl.get? s.live.incarns f.toNat with
  | none => s.seeIncarn f incarn
  | some old => if newerThan incarn old then (s.judge f old 6).seeIncarn f incarn else s

/-- Whether a message of a sender is dropped: its FEID is fenced at this incarnation or a newer one (R341). -/
def State.fencedAt (s : State) (f : Feid) (incarn : BitVec 16) : Bool :=
  match Tbl.get? s.live.fences f.toNat with
  | none => false
  | some (old, _) => !newerThan incarn old

/-- Counts a message discarded from a fenced FEID. -/
def State.dropFenced (s : State) (f : Feid) : State := s.count { blk := .live, code := 0x02, master := some (2, f.toNat) }

/-- A heartbeat arrives (R336, R337, R342). -/
def State.recvHb (s : State) (f : Feid) (incarn : BitVec 16) (ndev : BitVec 8) : State :=
  if s.fencedAt f incarn then s.dropFenced f
  else
    let s := s.hearIncarn f incarn
    let s := s.mapLive (fun l => { l with
      heard := if l.heard.contains f then l.heard else l.heard ++ [f]
      ndev := Tbl.put l.ndev f.toNat ndev.toNat })
    s.unsuspect f

/-- Sends a heartbeat on every YD link while LIVE is enabled (R336, R355). -/
def State.sendHbs (s : State) : State :=
  if !s.enabled .live then s
  else
    let n := s.devNeighbours.length
    s.ydPorts.foldl (fun s p => s.sendQ p 0 (.hb s.ownIncarn (BitVec.ofNat 8 n))) s

/-- Microseconds the cell spends in the state that holds now are added (R354). -/
def addProg (l : List Nat) (k us : Nat) : List Nat := (l.zipIdx).map (fun e => if e.2 == k then e.1 + us else e.1)

/-- The configured width of a port in the code of PORT_LSTAT.WIDTH (spec 02 R25 and R27). -/
def State.cfgWidth (s : State) (p : Nat) : Nat :=
  if 128 ≤ p then 1 else match s.rd PORT_CFG_WIDTH p with | 0 => 2 | 1 => 3 | _ => 1

/-- Whether a VALID extent of a redundancy class has a failed head or unit (R353). -/
def State.degraded (s : State) (k : Nat) : Bool :=
  !s.tier.headBad.isEmpty && s.map.cur.extents.any (fun e =>
    exValid e.2 && exRedund e.2 == k && (List.range 10).any (fun i => s.headFailed e.1 (exPlace e.2) i))

/-- The causes of R353, shown in PROG_CAUSE. Every action of a verdict ends within its command, so bit 1 is never seen set
(DEDUCED, assumption log 81). -/
def State.progCause (s : State) : Nat :=
  let st := s.rd LIVE_STAT_STATE
  let ps := (List.range 256)
  let bitsOf : List Bool := [
    !s.live.suspects.isEmpty,
    false,
    s.procs.procs.any (fun q => q.2.any (fun p => p.replays != 0 && p.phase != .ending && !p.ended)),
    s.tier.trayOps.any (fun o => o.again),
    s.map.ho.any (fun h => h.2.st == .givenUnconfirmed || h.2.st == .taking),
    s.ports.any (fun p => p.2.retraining),
    st == lsFenced || st == lsJoining,
    false,
    s.live.fences.any (fun f => !f.2.2 && (s.isNeighbour (BitVec.ofNat 16 f.1) || (s.portOfFeid (BitVec.ofNat 16 f.1)).isSome)) ||
      ps.any (fun p => s.rd PORT_FSTAT_FENCED p == 1),
    (List.range 128).any (fun c => s.flag CORE_STAT_FENCED c),
    !s.tier.lostStacks.isEmpty,
    !s.flag HOME_DIRSTAT_MIRROR_OK,
    s.degraded 1,
    s.degraded 2,
    ps.any (fun p => s.enabled .port p && s.role p == .tray && !s.linked p),
    ps.any (fun p => s.linked p && (s.rd PORT_LSTAT_WIDTH p < s.cfgWidth p || s.rd PORT_CFG_MAX_RATE p < s.rd PORT_LSTAT_RATE p))]
  (bitsOf.zipIdx).foldl (fun n b => n + b2n b.1 * 2 ^ b.2) 0

/-- The state a cause word means: 0 NORMAL, 1 DEGRADED, 2 RECOVERING. -/
def progState (c : Nat) : Nat := if c % 256 != 0 then 2 else if c != 0 then 1 else 0

/-- A heartbeat interval ends (R336, R337, R345): neighbours unheard for MISS intervals are suspected, a majority unheard for as
long isolates the device; 20 µs are accounted (R354). -/
def State.hbInterval (s : State) : State :=
  let s := s.mapLive (fun l => { l with prog := addProg l.prog (progState s.progCause) 20, interval := l.interval + 1 })
  if !s.enabled .live then s.mapLive (fun l => { l with heard := [] })
  else
    let miss := s.rd LIVE_CFG_MISS
    let known := (s.live.incarns.keys).filter (fun f => ((Tbl.get? s.live.ndev f).isSome || s.isNeighbour (BitVec.ofNat 16 f)) && !s.feidFenced (BitVec.ofNat 16 f))
    let heard := s.live.heard
    let devs := s.devNeighbours
    let s := s.mapLive (fun l => { l with
      missed := known.map (fun f => (f, if heard.contains (BitVec.ofNat 16 f) then 0 else Tbl.get l.missed f 0 + 1))
      heard := [] })
    let s := (s.live.missed.filter (fun q => miss ≤ q.2)).foldl (fun s q => s.suspect (BitVec.ofNat 16 q.1)) s
    let n := s.live.isoN
    let h := (heard.filter (fun f => (s.live.recent.any (fun q => q.1 == f.toNat)) || devs.contains f.toNat)).length
    let s := s.mapLive (fun l => { l with recent := devs.foldl (fun t f => Tbl.put t f 0) ((l.recent.filter (fun q => q.2 + 1 < miss)).map (fun q => (q.1, q.2 + 1))) })
    if s.selfFenced then s
    else if n != 0 && h < n / 2 + 1 then
      let s := s.mapLive (fun l => { l with isoMiss := l.isoMiss + 1 })
      if miss ≤ s.live.isoMiss then
        let m := s.ownLive 5 s.ownFeid s.ownIncarn
        ((s.mapLive (fun l => { l with isoMiss := 0 })).liveForward lvVerdict m none).applyVerdict s.ownFeid s.ownIncarn 5
      else s
    else s.mapLive (fun l => { l with isoMiss := 0, isoN := devs.length })

/-! ### Arriving LIVE messages -/

/-- SUSPECT: forwarded once, its vote held (R338, R339). -/
def State.recvSuspect (s : State) (p : Nat) (m : LiveMsg) : State :=
  if s.liveSeen lvSuspect m then s
  else
    let s := s.liveForward lvSuspect m (some p)
    if m.isPort || s.fencedAt m.subject m.incarn then s
    else (s.addVote { subject := m.subject, incarn := m.incarn, juror := m.origin, jury := m.jury.toNat }).tallyVotes m.subject m.incarn

/-- WITHDRAW: the vote counts no longer. -/
def State.recvWithdraw (s : State) (p : Nat) (m : LiveMsg) : State :=
  if s.liveSeen lvWithdraw m then s
  else
    let s := s.liveForward lvWithdraw m (some p)
    s.mapLive (fun l => { l with votes := l.votes.filter (fun v => !(v.subject == m.subject && v.incarn == m.incarn && v.juror == m.origin)) })

/-- VERDICT: forwarded once and applied; a port verdict of another device reaches the groups that lead to it (R341, R344). -/
def State.recvVerdict (s : State) (p : Nat) (m : LiveMsg) : State :=
  if s.liveSeen lvVerdict m then s
  else
    let s := s.liveForward lvVerdict m (some p)
    if m.isPort then
      if m.subjDev == s.ownDev then s
      else (s.latchVerdict m.subject.toNat 0 m.cause.toNat true).collVerdict (fun q => (s.port q).initRx && s.ydUp q && (s.port q).partnerDev == m.subjDev)
    else s.applyVerdict m.subject m.incarn m.cause.toNat

/-- Ends the fence of a FEID that joins under a newer incarnation (R349 to R351). -/
def State.unfence (s : State) (f : Feid) (incarn : BitVec 16) : State :=
  match Tbl.get? s.live.fences f.toNat with
  | none => s
  | some (old, _) => if newerThan incarn old then s.mapLive (fun l => { l with fences := Tbl.del l.fences f.toNat }) else s

/-- Answers a joining neighbour: REJOIN_ACK, then the fence table (R349). -/
def State.answerRejoin (s : State) (p : Nat) (f : Feid) : State :=
  let m : LiveMsg := { (s.ownLive 0 f 0) with count := BitVec.ofNat 16 (min s.live.fences.length 65535) }
  let s := s.sendQ p 0 (.live lvRejoinAck f m)
  s.live.fences.foldl
    (fun s q => s.sendQ p 0 (.live lvFenceEntry f (s.ownLive 0 (BitVec.ofNat 16 q.1) q.2.1))) s

/-- REJOIN: forwarded once; the fence ends, and a neighbouring device is answered (R349). -/
def State.recvRejoin (s : State) (p : Nat) (m : LiveMsg) : State :=
  let s := if s.liveSeen lvRejoin m then s else s.liveForward lvRejoin m (some p)
  let s := (s.unfence m.subject m.incarn).seeIncarn m.subject m.incarn
  match (s.ydPorts.filter (fun q => s.role q == .trunk)).find? (fun q => s.partner q == some m.subject) with
  | none => s
  | some q => s.answerRejoin q m.subject

/-- Enters MEMBER when enough neighbours have answered (R349). -/
def State.joinCheck (s : State) : State :=
  let n := s.devNeighbours
  let got := (n.filter (fun f => s.live.joinAcks.any (fun g => g.toNat == f))).length
  if s.rd LIVE_STAT_STATE == lsJoining && (n.isEmpty || n.length / 2 + 1 ≤ got) then s.set LIVE_STAT_STATE lsMember else s

/-- REJOIN_ACK of a neighbour. -/
def State.recvRejoinAck (s : State) (p : Nat) : State :=
  match s.partner p with
  | none => s
  | some f =>
    (s.mapLive (fun l => { l with joinAcks := if l.joinAcks.contains f then l.joinAcks else l.joinAcks ++ [f] })).joinCheck

/-- FENCE_ENTRY: entered in the joining device's own table. -/
def State.recvFenceEntry (s : State) (m : LiveMsg) : State :=
  match Tbl.get? s.live.fences m.subject.toNat with
  | some (old, _) =>
    if newerThan m.incarn old then s.mapLive (fun l => { l with fences := Tbl.put l.fences m.subject.toNat (m.incarn, false) }) else s
  | none => s.mapLive (fun l => { l with fences := Tbl.put l.fences m.subject.toNat (m.incarn, false) })

/-- LIVE is enabled: JOINING, REJOIN flooded (R349). -/
def State.startJoin (s : State) : State :=
  if s.selfFenced then s
  else
    let s := (s.set LIVE_STAT_STATE lsJoining).mapLive (fun l => { l with joinAcks := [] })
    (s.liveForward lvRejoin (s.ownLive 0 s.ownFeid s.ownIncarn) none).joinCheck

/-- REJOIN is sent again while JOINING. -/
def State.rejoinResend (s : State) : State :=
  if s.rd LIVE_STAT_STATE == lsJoining then s.flood lvRejoin (s.ownLive 0 s.ownFeid s.ownIncarn) none else s

/-- A leaf introduces itself: its fence ends under a newer incarnation, and REJOIN is flooded on its behalf (R350). -/
def State.leafInit (s : State) (f : Feid) (incarn : BitVec 16) : State :=
  let was := s.feidFenced f
  let fresh : Bool := match Tbl.get? s.live.incarns f.toNat with | some old => newerThan incarn old | none => false
  let s := (s.hearIncarn f incarn).unfence f incarn
  if was || fresh then s.liveForward lvRejoin (s.ownLive 0 f incarn) none else s

/-! ### Commands and limits (R343 to R346, R351, R354) -/

/-- Writes the result of LIVE_CMD. -/
def State.liveResult (s : State) (code : Nat) : State := s.set LIVE_CMD_STAT_RESULT code

/-- DECLARE (R343). -/
def State.declare (s : State) (isPort : Bool) (port : Nat) (f : Feid) : State :=
  if isPort then (s.liveResult rcOk).portVerdict port 4
  else if f == s.ownFeid then s.liveResult rcFieldRange
  else (s.liveResult rcOk).judge f (Tbl.get s.live.incarns f.toNat 0) 4

/-- FORGET (R351). -/
def State.forget (s : State) (f : Feid) : State :=
  match Tbl.get? s.live.fences f.toNat with
  | some (i, false) => (s.liveResult rcOk).mapLive (fun l => { l with fences := Tbl.put l.fences f.toNat (i, true) })
  | _ => s.liveResult rcDependency

/-- A CXL.io completion timeout on a port: CTO_MAX of them within 10 ms, 500 intervals, are a verdict (R344). -/
def State.portCto (s : State) (p : Nat) : State :=
  let now := s.live.interval
  let s := s.modPort p (fun x => { x with cto := x.cto.filter (fun t => now < t + 500) ++ [now] })
  if s.enabled .live && s.role p == .leaf && !s.ydUp p && s.rd LIVE_CFG_CTO_MAX ≤ (s.port p).cto.length then
    (s.modPort p (fun x => { x with cto := [] })).portVerdict p 2
  else s

/-- The flush of R346 ends once no leaf holds a line and no unit is dirty; what requests ordered before the fence have left is flushed
too. -/
def State.flushEnd (s : State) : State :=
  if s.flag LIVE_STAT_FLUSHING && s.home.snoopsTo.isEmpty && s.tier.wbs.isEmpty then
    if s.flushLeft then s.flush else s.set LIVE_STAT_FLUSHING 0
  else s

/-- PROG_CTL.SNAP and CLEAR. -/
def State.progSnap (s : State) : State :=
  let v (k : Nat) : Nat := (s.live.prog[k]?).getD 0
  (((((s.set PROG_NORMAL_LO_NORMAL (v 0 % 2 ^ 32)).set PROG_NORMAL_HI_NORMAL (v 0 / 2 ^ 32)).set PROG_DEGRADED_LO_DEGRADED (v 1 % 2 ^ 32)).set
    PROG_DEGRADED_HI_DEGRADED (v 1 / 2 ^ 32)).set PROG_RECOVERING_LO_RECOVERING (v 2 % 2 ^ 32)).set PROG_RECOVERING_HI_RECOVERING (v 2 / 2 ^ 32)
def State.progClear (s : State) : State := (s.mapLive (fun l => { l with prog := [0, 0, 0] })).progSnap

end Sys2Proof.Machine
end

