-- ==== Sys2Proof/Machine/Flit.lean ====
section
/-! DEFINITION. The YD flit (spec 02 R37 to R40, R46 to R48, R52): its CRC and FEC, messages as slots, and slots as messages.
The payload of CONTROL flits is not given by the spec; INIT, CREDIT and NAK arrive as commands of their own. -/

namespace Sys2Proof.Machine

/-! ### CRC-64 (R38) -/

/-- One step of the CRC over a message bit. -/
def crcBit (c : Nat) (b : Bool) : Nat :=
  let top := c.testBit 63 != b
  let c := (c * 2) % 2 ^ 64
  if top then c ^^^ 0x42F0E1EBA9EA3693 else c

/-- One byte, most significant bit first. -/
def crcByte (c : Nat) (b : Byte) : Nat :=
  (List.range 8).foldl (fun c i => crcBit c (b.toNat.testBit (7 - i))) c

/-- The CRC-64 of a run of bytes. -/
def crc64 (l : List Byte) : Nat := (l.foldl crcByte (2 ^ 64 - 1)) ^^^ (2 ^ 64 - 1)

/-! ### FEC (R38): two Reed-Solomon codes over GF(2^8) with check symbols for the roots 1 and α -/

/-- Multiplication by α in GF(2^8) under x^8 + x^4 + x^3 + x^2 + 1. -/
def gfX (a : Nat) : Nat := if 128 ≤ a then (2 * a) ^^^ 0x11D else 2 * a

/-- Division by α. -/
def gfXInv (a : Nat) : Nat := if a % 2 = 1 then (a ^^^ 0x11D) / 2 else a / 2

/-- Product in GF(2^8). -/
def gfMul (a b : Nat) : Nat :=
  ((List.range 8).foldl (fun (r : Nat × Nat) i => (if b.testBit i then r.1 ^^^ r.2 else r.1, gfX r.2)) (0, a)).1

/-- Syndromes of a codeword, highest power first: its values at 1 and at α. -/
def syndromes (l : List Byte) : Nat × Nat :=
  l.foldl (fun (s : Nat × Nat) b => (s.1 ^^^ b.toNat, gfX s.2 ^^^ b.toNat)) (0, 0)

/-- The two check bytes of a code's data bytes: the coefficients of x and of 1, the first sent first (DEDUCED, assumption log
24). -/
def checkBytes (l : List Byte) : List Byte :=
  let s := syndromes (l ++ [0, 0])
  -- c1 + c0 = s0 and α c1 + c0 = s1, so c1 = (s0 + s1) / (1 + α); the inverse of 1 + α is 0xF4
  let c1 := gfMul (s.1 ^^^ s.2) 0xF4
  [BitVec.ofNat 8 c1, BitVec.ofNat 8 (s.1 ^^^ c1)]

/-- Power of α by which the second syndrome exceeds the first, below a bound: the place of a single wrong byte. -/
def errorPlace : Nat → Nat → Nat → Nat → Option Nat
  | 0, _, _, _ => none
  | fuel + 1, j, a, b => if a = b then some j else errorPlace fuel (j + 1) (gfX a) b

/-- Corrects one byte of a codeword; none where more than one is wrong. Answers whether it corrected one. -/
def fecFix (l : List Byte) : Option (List Byte × Bool) :=
  let s := syndromes l
  if s.1 = 0 && s.2 = 0 then some (l, false)
  else if s.1 = 0 || s.2 = 0 then none
  else
    match errorPlace l.length 0 s.1 s.2 with
    | none => none
    | some j =>
      let i := l.length - 1 - j
      some (l.set i (BitVec.ofNat 8 (((l[i]?).getD 0).toNat ^^^ s.1)), true)

/-- The elements at even, or at odd, places. -/
def everyOther : List Byte → List Byte
  | [] => []
  | [a] => [a]
  | a :: _ :: t => a :: everyOther t

/-- Two lists taken in turn. -/
def interleave : List Byte → List Byte → List Byte
  | [], l => l
  | a :: t, l => a :: (match l with | [] => t | b :: u => b :: interleave t u)

/-- FEC of a received flit's 256 bytes: the 252 bytes it covers and whether a byte was corrected, none where it fails. -/
def fecDecode (l : List Byte) : Option (List Byte × Bool) :=
  let e := everyOther (l.take 252) ++ (l.drop 252).take 2
  let o := everyOther ((l.take 252).drop 1) ++ (l.drop 254).take 2
  match fecFix e, fecFix o with
  | some x, some y => some (interleave (x.1.take 126) (y.1.take 126), x.2 || y.2)
  | _, _ => none

/-- The four FEC check bytes of a flit's first 252 bytes. -/
def fecBytes (l : List Byte) : List Byte := checkBytes (everyOther l) ++ checkBytes (everyOther (l.drop 1))

/-- The EDB marker of a stomped flit (R46). -/
def edb : List Byte := [0xE7, 0xE7, 0xE7, 0xE7]

/-- Whether a flit reads as stomped (R47). -/
def stomped (flit : List Byte) : Bool := flit.drop 252 == edb

/-- CRC and FEC of a flit's first 244 bytes. -/
def closeBody (body : List Byte) : List Byte :=
  let l := body ++ bytesOf 8 (crc64 body)
  l ++ fecBytes l

/-- Sets ALT, bit 29 of the link header. -/
def withAlt (body : List Byte) : List Byte := body.set 3 (((body[3]?).getD 0) ||| 0x20)

/-- A whole flit from its first 244 bytes; ALT is set where it would otherwise read as stomped (R48). -/
def closeFlit (body : List Byte) : List Byte :=
  let f := closeBody body
  if stomped f then closeBody (withAlt body) else f

/-! ### Messages as slots (R39) -/

/-- A header slot. -/
def hdrSlot (opc : Byte) (dlen : Nat) (h : Hdr) : Slot :=
  BitVec.ofNat 128 (opc.toNat + dlen * 2 ^ 8 + b2n h.poison * 2 ^ 11 + h.tc.toNat * 2 ^ 12 + h.dst.toNat * 2 ^ 16
    + h.src.toNat * 2 ^ 32 + h.tag.toNat * 2 ^ 48 + h.arg.toNat * 2 ^ 64)

/-- A message as header and data slots. -/
def wholeMsg (opc : Byte) (h : Hdr) (data : List Slot) : List Slot := hdrSlot opc data.length h :: data

/-- ARG of the STITCH_KEY kinds (12 R288). -/
def stitchArg (kind : Nat) (h : StitchHdr) (more : Nat) : Nat :=
  kind + h.slot.toNat * 2 ^ 2 + h.pos.toNat * 2 ^ 10 + h.chain.toNat * 2 ^ 12 + h.status.toNat * 2 ^ 20 + more

/-- A match as a data slot (12 R288). -/
def matchSlot (m : Match) (flag : Bool) (fh : Nat) : Slot :=
  BitVec.ofNat 128 (m.index % 2 ^ 32 + m.data.toNat * 2 ^ 32 + m.prio.toNat * 2 ^ 64 + b2n flag * 2 ^ 72 + fh * 2 ^ 73)

/-- The slots of a YD message; `own` and `to` are the device's FEID and the partner's. -/
def msgToSlots (own dest : Feid) : Msg → List Slot
  | .yd opc h d => wholeMsg opc h d
  | .hb incarn ndev =>
    wholeMsg 0x28 { dst := dest, src := own, tag := 0, arg := BitVec.ofNat 64 (incarn.toNat + ndev.toNat * 2 ^ 16) } []
  | .live kind dst m =>
    wholeMsg 0x29
      { dst := dst, src := own, tag := 0
        arg := BitVec.ofNat 64 (kind.toNat + b2n m.isPort * 2 ^ 8 + m.cause.toNat * 2 ^ 9 + m.subject.toNat * 2 ^ 16
          + m.incarn.toNat * 2 ^ 32 + m.origin.toNat * 2 ^ 48) }
      [BitVec.ofNat 128 (m.subjDev.toNat + m.jury.toNat * 2 ^ 12 + m.count.toNat * 2 ^ 32 + m.ts.toNat * 2 ^ 64)]
  | .handoff kind dst m =>
    wholeMsg 0x30
      { dst := dst, src := m.src, tag := 0
        arg := BitVec.ofNat 64 (kind.toNat + m.status.toNat * 2 ^ 8 + m.xfer.toNat * 2 ^ 16) }
      [BitVec.ofNat 128 (m.sumAddr.toNat + m.sumLen.toNat * 2 ^ 64 + m.queued.toNat * 2 ^ 96)]
  | .stitchKey dst h all key =>
    wholeMsg 0x38 { dst := dst, src := h.src, tag := h.tag, arg := BitVec.ofNat 64 (stitchArg 0 h (b2n all * 2 ^ 28)) }
      [BitVec.ofNat 128 key.toNat, BitVec.ofNat 128 (key.toNat >>> 128)]
  | .bestRsp dst h hit m fh =>
    wholeMsg 0x38 { dst := dst, src := h.src, tag := h.tag, arg := BitVec.ofNat 64 (stitchArg 1 h 0) } [matchSlot m hit fh.toNat, 0]
  | .allRsp dst h last count ms =>
    let one (i : Nat) : Slot := match ms[i]? with | some m => matchSlot m true 0 | none => 0
    wholeMsg 0x38
      { dst := dst, src := h.src, tag := h.tag, arg := BitVec.ofNat 64 (stitchArg 2 h (b2n last * 2 ^ 29 + count % 2 ^ 24 * 2 ^ 30)) }
      [one 0, one 1]
  | .tuck dst h op part half =>
    wholeMsg 0x38
      { dst := dst, src := h.src, tag := h.tag, arg := BitVec.ofNat 64 (stitchArg 3 h (op.toNat * 2 ^ 30 + b2n part * 2 ^ 33)) }
      [BitVec.ofNat 128 half.toNat, BitVec.ofNat 128 (half.toNat >>> 128)]
  | _ => []

/-- The first 244 bytes of a PAYLOAD flit: link header, fifteen slots padded with EMPTY (R37). -/
def flitBody (seq ack : BitVec 12) (slots : List Slot) : List Byte :=
  let head := 1 + seq.toNat * 2 ^ 4 + ack.toNat * 2 ^ 16
  bytesOf 4 head ++ ((slots ++ List.replicate (15 - slots.length) 0).map (fun (x : Slot) => bytesOf 16 x.toNat)).flatten

/-- A PAYLOAD flit of a list of slots, with CRC and FEC (R37, R48). -/
def payloadFlit (seq ack : BitVec 12) (slots : List Slot) : BitVec 2048 := BitVec.ofNat 2048 (ofBytes (closeFlit (flitBody seq ack slots)))

/-- The same flit ended as a stomp: the complement of its CRC, then the EDB marker (R22, R46). -/
def stompFlit (seq ack : BitVec 12) (slots : List Slot) : BitVec 2048 :=
  let body := flitBody seq ack slots
  BitVec.ofNat 2048 (ofBytes (body ++ bytesOf 8 (crc64 body ^^^ (2 ^ 64 - 1)) ++ edb))

/-! ### Slots as messages (R39, R40) -/

/-- Fields of a header slot. -/
def slotHdr (x : Nat) : Hdr :=
  { poison := bit x 11
    tc := BitVec.ofNat 4 (bits x 15 12)
    dst := BitVec.ofNat 16 (bits x 31 16)
    src := BitVec.ofNat 16 (bits x 47 32)
    tag := BitVec.ofNat 16 (bits x 63 48)
    arg := BitVec.ofNat 64 (bits x 127 64) }

/-- Whether an opcode is listed with a DLEN (R39). -/
def opcDlen (opc dlen : Nat) : Bool :=
  match opc with
  | 0x00 | 0x01 | 0x04 | 0x06 | 0x0A | 0x20 | 0x28 => dlen == 0
  | 0x02 | 0x03 | 0x05 | 0x10 => dlen == 4
  | 0x08 => dlen == 2 || dlen == 3
  | 0x09 => dlen == 1 || dlen == 2
  | 0x0C | 0x18 | 0x19 => 1 ≤ dlen && dlen ≤ 4
  | 0x0D | 0x29 | 0x30 => dlen == 1
  | 0x38 => dlen == 2
  | _ => false

/-- Fields of a LIVE message (15 R340). -/
def liveFields (h : Hdr) (d : Nat) : LiveMsg :=
  let a := h.arg.toNat
  { isPort := bit a 8
    cause := BitVec.ofNat 3 (bits a 11 9)
    subject := BitVec.ofNat 16 (bits a 31 16)
    incarn := BitVec.ofNat 16 (bits a 47 32)
    origin := BitVec.ofNat 12 (bits a 59 48)
    subjDev := BitVec.ofNat 12 (bits d 11 0)
    jury := BitVec.ofNat 8 (bits d 19 12)
    count := BitVec.ofNat 16 (bits d 47 32)
    ts := BitVec.ofNat 64 (bits d 127 64) }

/-- Fields of a HANDOFF message (03 R77). -/
def handFields (h : Hdr) (d : Nat) : HandMsg :=
  let a := h.arg.toNat
  { src := h.src
    status := BitVec.ofNat 8 (bits a 15 8)
    xfer := BitVec.ofNat 32 (bits a 47 16)
    sumAddr := BitVec.ofNat 64 (bits d 63 0)
    sumLen := BitVec.ofNat 32 (bits d 95 64)
    queued := BitVec.ofNat 32 (bits d 127 96)
    dst := some h.dst }

/-- Common fields of STITCH_KEY (12 R288). -/
def stitchFields (h : Hdr) : StitchHdr :=
  let a := h.arg.toNat
  { src := h.src
    tag := h.tag
    slot := BitVec.ofNat 8 (bits a 9 2)
    pos := BitVec.ofNat 2 (bits a 11 10)
    chain := BitVec.ofNat 8 (bits a 19 12)
    status := BitVec.ofNat 8 (bits a 27 20)
    dst := some h.dst }

/-- A match of a data slot. -/
def slotMatch (d : Nat) : Match :=
  { index := bits d 31 0
    data := BitVec.ofNat 32 (bits d 63 32)
    prio := BitVec.ofNat 8 (bits d 71 64) }

/-- A message of its header and data slots; a kind no chapter lists has no effect (DESIGN CHOICE, assumption log 25). A WR_MASK
comes with its mask. -/
def msgOf (p : PortId) (opc : Nat) (h : Hdr) (d : List Slot) (mask : BitVec 64) : Option Instr :=
  let d0 := ((d[0]?).getD 0).toNat
  let d1 := ((d[1]?).getD 0).toNat
  let line := BitVec.ofNat 512 (ofSlots d)
  let a := h.arg.toNat
  match opc with
  | 0x01 => some (.rd p h)
  | 0x02 => some (.wr p h line)
  | 0x03 => some (.wrMask p h mask line)
  | 0x05 => some (.rspData p h line)
  | 0x06 => some (.rsp p h)
  | 0x08 => some (.atom p h d)
  | 0x09 => some (.atomRsp p h d)
  | 0x0A => some (.atomAck p h)
  | 0x0C =>
    match bits a 7 0 with
    | 0x02 => some (.openReq p h d)
    | 0x03 => some (.close p h d)
    | 0x10 => some (.replReq p h d)
    | 0x11 => some (.replInv p h d)
    | 0x12 => some (.rgnInv p h d)
    | _ => some (.publish p h d)
  | 0x0D => some (.pubRsp p h d)
  | 0x10 => some (.trigger .yd p h line true)
  | 0x18 => some (.coll p h d)
  | 0x19 => some (.collRes p h d)
  | 0x20 => some (.ydFence p h.src)
  | 0x28 => some (.hb p h.src (BitVec.ofNat 16 (bits a 15 0)) (BitVec.ofNat 8 (bits a 23 16)))
  | 0x29 =>
    let m := liveFields h d0
    match bits a 7 0 with
    | 1 => some (.suspect p m)
    | 2 => some (.withdraw p m)
    | 3 => some (.verdict p m)
    | 4 => some (.rejoin p m)
    | 5 => some (.rejoinAck p m)
    | 6 => some (.fenceEntry p m)
    | _ => none
  | 0x30 =>
    let m := handFields h d0
    match bits a 7 0 with
    | 1 => some (.give p m)
    | 2 => some (.take p m)
    | 3 => some (.handoffCommit p m)
    | 4 => some (.commitAck p m)
    | _ => none
  | 0x38 =>
    let f := stitchFields h
    match bits a 1 0 with
    | 0 => some (.stitchKey p f (bit a 28) (BitVec.ofNat 160 (d0 + 2 ^ 128 * d1)))
    | 1 => some (.bestRsp p f (bit d0 72) (slotMatch d0) (BitVec.ofNat 8 (bits d0 80 73)))
    | 2 =>
      let ms := (d.filter (fun x => bit x.toNat 72)).map (fun x => slotMatch x.toNat)
      some (.allRsp p f (bit a 29) (BitVec.ofNat 24 (bits a 53 30)) ms)
    | _ =>
      match bits a 32 30 with
      | 1 => some (.tuckContinue p f)
      | 2 => some (.tuckEntry p f (bit a 33) (BitVec.ofNat 256 (d0 + 2 ^ 128 * d1)))
      | 3 => some (.tuckAck p f)
      | 4 => some (.tuckAbortMsg p f)
      | _ => none
  | _ => none

/-- One message taken from a flit: its opcode, header and data, or a malformed one. -/
inductive Taken where
  | good (opc : Nat) (h : Hdr) (data : List Slot) (mask : BitVec 64)
  | bad
deriving DecidableEq, Repr

/-- Whether the slots start with a well-formed WR_MASK. -/
def maskFollows : List Slot → Bool
  | [] => false
  | x :: t => bits x.toNat 7 0 == 0x03 && bits x.toNat 10 8 == 4 && 4 ≤ t.length

/-- The messages of a flit's slots in order (R39, R40). A message whose data slots reach past the flit's last slot is malformed
(DESIGN CHOICE, assumption log 155). -/
def takeSlots : Nat → Option (BitVec 64) → List Slot → List Taken
  | 0, _, _ => []
  | _ + 1, _, [] => []
  | fuel + 1, mask, x :: t =>
    let opc := bits x.toNat 7 0
    let dlen := bits x.toNat 10 8
    let rest := t.drop dlen
    if opc = 0 then takeSlots fuel none t
    else if !opcDlen opc dlen || t.length < dlen then .bad :: takeSlots fuel none rest
    else if opc = 0x04 then
      if maskFollows t then takeSlots fuel (some (slotHdr x.toNat).arg) t else .bad :: takeSlots fuel none t
    else if opc = 0x03 then
      match mask with
      | some k => .good opc (slotHdr x.toNat) (t.take dlen) k :: takeSlots fuel none rest
      | none => .bad :: takeSlots fuel none rest
    else .good opc (slotHdr x.toNat) (t.take dlen) 0 :: takeSlots fuel none rest

/-- The slots of a flit's 244 bytes: fifteen, or fourteen with the IDE slot (R37, R52). -/
def flitSlots (ide : Bool) (body : List Byte) : List Slot :=
  (List.range (if ide then 14 else 15)).map (fun i => BitVec.ofNat 128 (ofBytes ((body.drop (4 + 16 * i)).take 16)))

end Sys2Proof.Machine
end

