-- ==== Sys2Proof/Machine/Qos.lean ====
section
/-! DEFINITION. The egress scheduler and its shapers (spec 13): which waiting message a port sends next. A message is sent in
a flit of its own (DESIGN CHOICE, assumption log 22); tokens are added in steps of the heartbeat interval (log 23). -/

namespace Sys2Proof.Machine

/-! ### Messages -/

/-- Slots a message occupies, its header slot included (R308; 02 R39). A CXL message counts one slot and one for each 16 B of
data (DESIGN CHOICE, assumption log 22). -/
def msgSlots : Msg → Nat
  | .yd _ _ slots => 1 + slots.length
  | .live _ _ _ | .handoff _ _ _ => 2
  | .stitchKey _ _ _ _ | .bestRsp _ _ _ _ _ | .allRsp _ _ _ _ _ | .tuck _ _ _ _ _ => 3
  | .memData _ _ _ => 5
  | .ioCpl _ _ d _ => 1 + (d.length + 15) / 16
  | .ioMemWr _ d _ => 1 + (d.length + 15) / 16
  | .ioFetchAdd _ _ _ | .ioCfg _ _ _ => 2
  | .trayWr _ _ ls _ => 1 + 4 * ls.length
  | .mctp d | .ideKm d => 1 + (d.length + 15) / 16
  | _ => 1

/-- Whether a message is a CONTROL flit. -/
def msgControl : Msg → Bool
  | .ydInit _ _ _ | .ydCredit _ _ | .ydNak _ | .ydStomp => true
  | _ => false

/-- Whether a message is traffic a port without its IDE stream holds back (02 R50, R52); `strict` under IDE_REQ, else only
tenant traffic counts. A Configuration Request Retry Status leaves on every port before the device is ready (R55). -/
def msgHeldByIde (strict : Bool) : Msg → Bool
  | .ydInit _ _ _ | .ydCredit _ _ | .ydNak _ | .ydStomp | .ideKm _ => false
  | .ioCpl _ st _ _ => st != 2
  | .hb _ _ | .live _ _ _ | .handoff _ _ _ | .ioCfg _ _ _ | .ioAer _ _ | .mctp _ => strict
  | _ => true

/-- Whether a self-fenced or joining device's TRUNK port may carry a message (15 R346, R349). -/
def msgLiveness : Msg → Bool
  | .ydInit _ _ _ | .ydCredit _ _ | .ydNak _ | .ydStomp | .hb _ _ | .live _ _ _ | .mctp _ | .ideKm _ => true
  | _ => false

/-- Credit class of a YD message (02 R42); FENCE and ATOM_ACK are taken as requests (DESIGN CHOICE, assumption log 135). -/
def creditClass : Msg → Nat
  | .yd opc _ _ =>
    if opc = 0x05 || opc = 0x06 || opc = 0x09 || opc = 0x0D then 2
    else if opc = 0x10 || opc = 0x18 || opc = 0x19 then 3
    else 1
  | .stitchKey _ _ _ _ | .bestRsp _ _ _ _ _ | .allRsp _ _ _ _ _ | .tuck _ _ _ _ _ => 1
  | _ => 0

/-- The master of a message for event counting (19 R406). -/
def msgMaster : Msg → Option (Nat × Nat)
  | .yd _ h _ => some (2, h.src.toNat)
  | _ => none

/-! ### Shapers (R310, R311) -/

/-- The 40-bit field of a shaper of a port by its key: 0 the port's, 1 to 15 a queue's, 16 + 5n a tenant node's, the next four
its classes'. -/
def shaperField (entry : Nat → Nat) (p k : Nat) : Nat :=
  let a := entry (qosAKey p)
  if k = 0 then bits a 215 176
  else if k < 4 then (a >>> (216 + 40 * (k - 1))) % 2 ^ 40
  else if k < 16 then (entry (qosBKey p) >>> (40 * (k - 4))) % 2 ^ 40
  else (entry (qosNodeKey p ((k - 16) / 5)) >>> (64 + 40 * ((k - 16) % 5))) % 2 ^ 40

/-- The shaper in force. -/
def State.shaper (s : State) (p k : Nat) : Nat := shaperField s.qosInForce p k

def shRate (f : Nat) : Nat := f % 2 ^ 24
def shBurst (f : Nat) : Nat := f / 2 ^ 24

/-- Tokens in a bucket: full where the table lists none. -/
def State.tokens (s : State) (p k : Nat) : Nat := Tbl.get (s.port p).bucket k (64 * shBurst (s.shaper p k))

/-- Whether a shaper lets a message of a cost pass. -/
def State.shaperAllows (s : State) (p cost k : Nat) : Bool := shRate (s.shaper p k) == 0 || cost ≤ s.tokens p k

/-- Takes a message's cost from a bucket. -/
def State.charge (s : State) (p cost k : Nat) : State :=
  if shRate (s.shaper p k) == 0 then s
  else s.modPort p (fun x => { x with bucket := Tbl.put x.bucket k (s.tokens p k - cost) })

/-- Shapers on a message's path; Q0 has none. -/
def shapersOf (e : Queued) : List Nat :=
  if e.q = 0 then [] else if e.q < 16 then [e.q, 0] else [17 + 5 * e.node + e.sc, 16 + 5 * e.node, 0]

/-- Resets the bucket of a shaper whose field in force has changed. -/
def State.resetBucket (s : State) (p k : Nat) : State :=
  let b : Tbl Nat := if s.flag QOS_CTL_TOK_ON_CFG then Tbl.put (s.port p).bucket k 0 else Tbl.del (s.port p).bucket k
  s.modPort p (fun x => { x with bucket := b })

/-- Resets the buckets of a port whose fields in force differ from those before. -/
def State.rebucket (old s : State) (p : Nat) (ks : List Nat) : State :=
  (ks.filter (fun k => old.shaper p k != s.shaper p k)).foldl (fun s k => s.resetBucket p k) s

/-- Shaper keys of a tenant node. -/
def nodeKeys (n : Nat) : List Nat := (List.range 5).map (fun i => 16 + 5 * n + i)

/-- Ports with entries of their own in the QOS-node table. -/
def State.qosPorts (s : State) : List Nat :=
  s.qos.keys.foldl (fun l k => setAdd l (if k < 512 then k / 2 else (k - 512) / 4096)) []

/-- Tenant nodes of a port with entries of their own. -/
def State.writtenNodes (s : State) (p : Nat) : List Nat :=
  (s.qos.keys.filter (fun k => qosNodeKey p 0 ≤ k && k < qosNodeKey (p + 1) 0)).map (fun k => k - qosNodeKey p 0)

/-- After QOS is enabled or disabled: every bucket whose field in force changed is reset (R311, R315). -/
def State.qosSwitched (old s : State) : State :=
  s.qosPorts.foldl (fun s p => State.rebucket old s p (List.range 16 ++ ((s.writtenNodes p).map nodeKeys).flatten)) s

/-- Adds the tokens of `us` microseconds to every bucket: RATE × 10 MB/s is 10 B in each microsecond (R310). -/
def State.refill (s : State) (us : Nat) : State :=
  let fill (p : Nat) (b : Nat × Nat) : Nat × Nat :=
    (b.1, min (64 * shBurst (s.shaper p b.1)) (b.2 + 10 * us * shRate (s.shaper p b.1)))
  let notFull (p : Nat) (b : Nat × Nat) : Bool := b.2 != 64 * shBurst (s.shaper p b.1)
  { s with ports := s.ports.map (fun (q : Nat × PortSt) =>
    (q.1, { q.2 with bucket := (q.2.bucket.map (fill q.1)).filter (notFull q.1) })) }

/-! ### Eligible messages (R307, 02 R42, R43, R50) -/

/-- A WR_MASK_EN leaves with the WR_MASK behind it in its queue (02 R40). -/
def withMask (l : List Queued) (e : Queued) : List Queued :=
  match e.msg with
  | .yd opc _ _ =>
    if opc = 0x04 then
      e :: (((l.erase e).find? (fun f => f.q == e.q && f.node == e.node && f.sc == e.sc)).toList.filter (fun f =>
        match f.msg with
        | .yd o _ _ => o == 0x03
        | _ => false))
    else [e]
  | _ => [e]

/-- Slots of a group of messages. -/
def groupSlots (l : List Queued) : Nat := (l.map (fun e => msgSlots e.msg)).sum

/-- Whether the link may carry a message now, credit aside; before READY it carries link control and configuration answers only
(16 R377). -/
def State.linkMay (s : State) (p : Nat) (m : Msg) : Bool :=
  let x := s.port p
  let early : Bool := match m with
    | .ydCredit _ _ | .ydNak _ | .ioCpl _ _ _ _ => true
    | _ => false
  let l0 := s.up p && !x.retraining && (s.flag RST_STAT_READY || early)
  let ide := s.rd PORT_LSTAT_IDE_ACTIVE p == 1
  let held := (s.rd PORT_CFG_IDE_REQ p == 1 && !ide && msgHeldByIde true m) ||
    (s.rd PORT_FSTAT_IDE_INSECURE p == 1 && msgHeldByIde false m)
  let yd := s.rd PORT_LSTAT_MODE p == 1
  let ydOk := !yd || msgControl m || (x.initRx && x.replay.length < 512)
  let st := s.rd LIVE_STAT_STATE
  let live := s.role p != .trunk || !(st == lsJoining || st == lsFenced) || msgLiveness m
  l0 && !held && ydOk && live

/-- Whether the link has credit for a message (02 R42): YD classes 1 to 3. -/
def State.creditFor (s : State) (p : Nat) (m : Msg) (slots : Nat) : Bool :=
  s.rd PORT_LSTAT_MODE p == 0 || creditClass m == 0 || slots ≤ ((s.port p).credit[creditClass m]?).getD 0

/-- Whether a waiting message is eligible. -/
def State.eligible (s : State) (p : Nat) (e : Queued) : Bool :=
  let n := groupSlots (withMask (s.port p).egress e)
  s.linkMay p e.msg && s.creditFor p e.msg n && (shapersOf e).all (s.shaperAllows p (16 * n))

/-! ### The choice of the next message (R307 to R309) -/

/-- The head of a strict queue. -/
def State.strictHead (s : State) (p q : Nat) : Option Queued := (s.port p).egress.find? (fun e => e.q == q)

/-- Weighted-side key of a message: its queue, or 16 + its tenant node. -/
def wkey (e : Queued) : Nat := if e.q = 16 then 16 + e.node else e.q

/-- The eligible message a weighted key would send: the lowest class with an eligible head. -/
def State.wHead (s : State) (p k : Nat) : Option Queued :=
  let l := (s.port p).egress.filter (fun e => wkey e == k)
  (List.range 4).findSome? (fun c => (l.find? (fun e => e.sc == c)).filter (s.eligible p))

/-- Weighted keys that hold messages, in rising order. -/
def State.wKeys (s : State) (p : Nat) : List Nat :=
  ((s.port p).egress.filter (fun e => 4 ≤ e.q)).foldl (fun l e => setAdd l (wkey e)) []

/-- Weight of a key. -/
def State.weightOf (s : State) (p k : Nat) : Nat :=
  if k < 16 then (s.qosInForce (qosAKey p) >>> (64 + 8 * (k - 4))) % 256
  else bits (s.qosInForce (qosNodeKey p (k - 16))) 39 32

/-- Cost of sending a message from a port. -/
def State.costOf (s : State) (p : Nat) (e : Queued) : Nat := 16 * groupSlots (withMask (s.port p).egress e)

/-- A key's deficit. -/
def State.deficitOf (s : State) (p k : Nat) : Nat := Tbl.get (s.port p).deficit k 0

/-- Sets a key's deficit. -/
def State.setDeficit (s : State) (p k v : Nat) : State :=
  s.modPort p (fun x => { x with deficit := Tbl.putD x.deficit k 0 v })

/-- Walks the keys of the round robin until one may send: a key whose head is not eligible keeps its deficit, another one
gets its quantum (R308). -/
def State.drrWalk (p : Nat) : List Nat → State → State × Option Queued
  | [], s => (s, none)
  | k :: ks, s =>
    match s.wHead p k with
    | none => State.drrWalk p ks s
    | some e =>
      let d := s.deficitOf p k + 64 * s.weightOf p k
      let s := s.setDeficit p k d
      if s.costOf p e ≤ d then (s.modPort p (fun x => { x with rr := k + 1 }), some e) else State.drrWalk p ks s

/-- Keys after a key in turn, then those up to it: one round. -/
def roundFrom (keys : List Nat) (rr : Nat) : List Nat := keys.filter (fun k => rr ≤ k) ++ keys.filter (fun k => k < rr)

/-- The next message of the weighted side: the key in turn while its deficit lasts, else the next key that may send. The
deficits of empty keys are 0. -/
def State.drrNext (s : State) (p : Nat) : State × Option Queued :=
  let keys := s.wKeys p
  let s := s.modPort p (fun x => { x with deficit := x.deficit.filter (fun d => keys.contains d.1) })
  let rr := (s.port p).rr
  let turn : Option Queued := if rr = 0 then none else (s.wHead p (rr - 1)).filter (fun e => s.costOf p e ≤ s.deficitOf p (rr - 1))
  match turn with
  | some e => (s, some e)
  | none =>
    let most := (keys.filterMap (s.wHead p)).foldl (fun n e => max n (s.costOf p e)) 0
    State.drrWalk p (List.replicate (most / 64 + 2) (roundFrom keys rr)).flatten s

/-- The first of Q1 to Q3 with an eligible head. -/
def State.strictNext (s : State) (p : Nat) : Option Queued :=
  [1, 2, 3].findSome? (fun q => (s.strictHead p q).filter (s.eligible p))

/-- The next message of a port, with the guard and the round robin moved on (R307). -/
def State.pickNext (s : State) (p : Nat) : State × Option Queued :=
  match (s.strictHead p 0).filter (s.eligible p) with
  | some e => (s, some e)
  | none =>
    let weighted := (s.wKeys p).any (fun k => (s.wHead p k).isSome)
    let guardAt := bits (s.qosInForce (qosAKey p)) 167 164
    let takeW (s : State) : State × Option Queued :=
      let r := s.drrNext p
      (r.1.modPort p (fun x => { x with guard := 0 }), r.2)
    if weighted && guardAt ≤ (s.port p).guard then takeW s
    else
      match s.strictNext p with
      | some e => (if weighted then s.modPort p (fun x => { x with guard := x.guard + 1 }) else s, some e)
      | none => if weighted then takeW s else (s, none)

/-! ### Sending -/

/-- Takes credit of a YD link. -/
def takeCredit (credit : List Nat) (cls n : Nat) : List Nat := credit.zipIdx.map (fun c => if c.2 = cls then c.1 - n else c.1)

/-- Records a sent flit, wrong where PORT_INJ asks for it (21 R440), and counts it (19 R412). -/
def State.txFlit (s : State) (p : Nat) (seq : BitVec 12) (ms : List Msg) (slots : Nat) : State :=
  let bad := s.rd PORT_INJ_TX_CRC p == 1
  let byte := s.rd PORT_INJ_TX_BYTE p == 1
  let s : State := if bad || byte then ms.foldl (fun s m => s.emit (.txBad p m (!bad))) s else ms.foldl (fun s m => s.emit (.tx p m)) s
  let plain := !bad && !byte && s.rd PORT_LSTAT_MODE p == 1 && s.rd PORT_LSTAT_IDE_ACTIVE p == 0 && !ms.any msgControl
  let dest : Feid := BitVec.ofNat 16 (s.rd PORT_LSTAT_PARTNER_FEID p)
  let s : State := if plain then
      s.emit (.flit p (payloadFlit seq ((s.port p).rxSeq - 1) ((ms.map (msgToSlots s.ownFeid dest)).flatten)))
    else s
  let s := (s.set PORT_INJ_TX_CRC 0 p).set PORT_INJ_TX_BYTE 0 p
  let s := s.count { blk := .port, code := 0x02, inst := p }
  s.count { blk := .port, code := 0x03, inst := p, n := slots, master := (ms.head?).bind msgMaster }

/-- Whether the messages of a flit go into the replay buffer: all but stomps on YD (02 R43, R46). -/
def State.replays (s : State) (p : Nat) (ms : List Msg) : Bool := s.rd PORT_LSTAT_MODE p == 1 && !ms.contains .ydStomp

/-- Puts a flit into the replay buffer under the next sequence number (02 R37). -/
def PortSt.sent (x : PortSt) (g : List Queued) : PortSt :=
  { x with
    replay := x.replay ++ [(x.txSeq, g)]
    txSeq := x.txSeq + 1 }

/-- Sends a chosen message. -/
def State.sendOff (s : State) (p : Nat) (e : Queued) : State :=
  let g := withMask (s.port p).egress e
  let n := groupSlots g
  let s := (shapersOf e).foldl (fun s k => s.charge p (16 * n) k) s
  let yd := s.rd PORT_LSTAT_MODE p == 1
  let more := (g.foldl (fun l f => l.erase f) (s.port p).egress).any (fun f => wkey f == wkey e)
  let s := if 4 ≤ e.q then s.setDeficit p (wkey e) (if more then s.deficitOf p (wkey e) - 16 * n else 0) else s
  let ms := g.map (fun f => f.msg)
  let rep := s.replays p ms
  let ide := s.rd PORT_LSTAT_IDE_ACTIVE p == 1
  let seq := (s.port p).txSeq
  let s := s.modPort p (fun x =>
    let x := { x with egress := g.foldl (fun l f => l.erase f) x.egress }
    let x := if yd && creditClass e.msg != 0 then { x with credit := takeCredit x.credit (creditClass e.msg) n } else x
    let x := if rep then x.sent g else x
    if ide then { x with ideCount := x.ideCount + 1 } else x)
  s.txFlit p seq ms n

/-- Whether some queue head waits only for credit. -/
def State.creditStalled (s : State) (p : Nat) : Bool :=
  (s.port p).egress.any (fun e =>
    let n := groupSlots (withMask (s.port p).egress e)
    s.linkMay p e.msg && !s.creditFor p e.msg n && (shapersOf e).all (s.shaperAllows p (16 * n)))

/-- A message boundary of an egress port: the next message is sent, where one is eligible. A head that waits only for credit
counts CREDIT_STALL, for as many cycles as the spec does not say. -/
def State.schedule (s : State) (p : Nat) : State :=
  match s.pickNext p with
  | (s, some e) => s.sendOff p e
  | (s, none) =>
    if s.creditStalled p then
      let r := s.fresh
      r.2.count { blk := .port, code := 0x04, inst := p, n := r.1 }
    else s

end Sys2Proof.Machine
end

