-- ==== Sys2Proof/Machine/Link.lean ====
section
/-! DEFINITION. Links (spec 02; 16 R369, R371): training, link-down, L1 and L0p, introduction, credits, replay, and the
reception of YD flits. -/

namespace Sys2Proof.Machine

/-- Puts messages in front of a port's egress, each in front of its own queue. -/
def PortSt.front (x : PortSt) (g : List Queued) : PortSt := { x with egress := g ++ x.egress }

/-- A queue's credits, one class added to. -/
def addCredit (credit : List Nat) (cls n : Nat) : List Nat := credit.zipIdx.map (fun c => if c.2 = cls then c.1 + n else c.1)

/-! ### Training (R25 to R27, R33 to R36) -/

/-- Whether a port may train now: its page is enabled and in no reset, its die calibrated and reached (spec 16 R375, R376, 21 R442). -/
def State.mayTrain (s : State) (p : Nat) : Bool :=
  s.enabled .port p && s.enabled .pdie (p % 128 / 16) && s.hrd ⟨.port, p⟩ PG_CTL_SOFT_RESET == 0 && s.rd CDIE_LINK_PDIE_UP (p % 128 / 16) == 1 && s.power.supply == .on
    && !s.power.refLost

/-- Whether a link that reaches L0 runs YD (R27, R34, R35). -/
def State.trainsYd (s : State) (p : Nat) (partnerYd : Bool) : Bool :=
  (s.role p == .leaf || s.role p == .trunk) && s.flag PORT_CFG_YD_EN p && partnerYd && !(s.port p).ydDeclined && s.ownFeid != 0

/-- Advertises the first credits of the three classes that need them; how many the spec does not say (R42). -/
def State.firstCredits (s : State) (p : Nat) : State :=
  [1, 2, 3].foldl (fun s c =>
    let r := s.fresh
    r.2.sendQ p 0 (.ydCredit (BitVec.ofNat 2 c) r.1)) s

/-- Writes PORT_LSTAT for a link in L0. -/
def State.setUp (s : State) (p width rate : Nat) (yd reversed : Bool) : State :=
  (((((s.set PORT_LSTAT_UP 1 p).set PORT_LSTAT_RATE rate p).set PORT_LSTAT_WIDTH width p).set PORT_LSTAT_MODE (b2n yd) p).set
    PORT_LSTAT_REVERSED (b2n reversed) p).set PORT_LSTAT_PM 0 p

/-- A fresh YD link: sequence numbers and credits start again, unconfirmed messages wait in front of the queues they were in, INIT
and the first credits go out. -/
def State.startYd (s : State) (p : Nat) : State :=
  let s := s.modPort p (fun x =>
    let again := (x.replay.map (·.2)).flatten.filter (fun e => !msgControl e.msg)
    { (x.front again) with
      txSeq := 0
      rxSeq := 0
      replay := []
      awaitReplay := false
      nakCount := 0
      initRx := false
      credit := [0, 0, 0, 0]
      owed := [0, 0, 0, 0] })
  let s := s.modPort p (fun x => x.front [{ q := 0, msg := .ydInit s.ownFeid s.ownDev s.ownIncarn }])
  s.firstCredits p

/-- Sends every unconfirmed flit again, in order (R43, R52: each flit advances the IDE invocation counter). -/
def State.resend (s : State) (p : Nat) : State :=
  let ide := s.rd PORT_LSTAT_IDE_ACTIVE p == 1
  (s.port p).replay.foldl
    (fun s r =>
      let s := if ide then s.modPort p (fun x => { x with ideCount := x.ideCount + 1 }) else s
      s.txFlit p r.1 (r.2.map (·.msg)) (groupSlots r.2)) s

/-- Training ends in L0 at a width and rate (codes of PORT_LSTAT). A retrain keeps mode and credits and sends the unconfirmed flits
again (R43), without a new INIT (DESIGN CHOICE, assumption log 158); a POD_EDGE port without YD stays down (R33). -/
def State.linkUp (s : State) (p width rate : Nat) (partnerYd reversed : Bool) : State :=
  if !s.mayTrain p || (s.linked p && !(s.port p).retraining) || rate = 3 then s
  else
    let w := min width (s.cfgWidth p)
    let r := max rate (s.rd PORT_CFG_MAX_RATE p)
    if (s.port p).retraining then
      ((s.setUp p w r (s.rd PORT_LSTAT_MODE p == 1) reversed).modPort p (fun x => { x with
        retraining := false
        nakCount := 0
        trained := w })).resend p
    else
      let yd := s.trainsYd p partnerYd
      if !yd && s.role p == .trunk && s.flag PORT_CFG_POD_EDGE p then s.set PORT_LSTAT_YD_FALLBACK 1 p
      else
        let s := ((s.setUp p w r yd reversed).set PORT_LSTAT_IDE_ACTIVE 0 p).set PORT_FSTAT_FENCED 0 p
        let s := s.modPort p (fun x => { x with trained := w })
        if yd then (s.set PORT_LSTAT_YD_FALLBACK 0 p).startYd p else s

/-- A YD link that failed three times is retrained in CXL mode (R33, R35); one that was retraining is not handled as a link-down
(DESIGN CHOICE, assumption log 160). -/
def State.ydFallback (s : State) (p : Nat) : State :=
  if s.mayTrain p && !s.up p && s.flag PORT_CFG_YD_EN p && (s.role p == .leaf || s.role p == .trunk) then
    (s.set PORT_LSTAT_YD_FALLBACK 1 p).modPort p (fun x => { x with
      ydDeclined := true
      retraining := false })
  else s

/-! ### Link-down (R31, R466; 15 R344; 04 R94) -/

/-- Whether a link-down now is quiesced (R466). -/
def State.quiescedDown (s : State) (p : Nat) : Bool :=
  let g : Page := ⟨.port, p⟩
  (s.hrd g PG_STAT_QUIESCED == 1 && s.hrd g PG_CTL_QUIESCE == 1) || s.hrd g PG_CTL_ENABLE == 0 || s.hrd g PG_CTL_SOFT_RESET == 1

/-- A tray has failed: its accesses go to what can serve them (R31; 06 R148, R151, R468). -/
def State.trayPortLost (s : State) (p : Nat) : State :=
  let s := (s.tier.trayOps.filter (fun o => o.port == p)).foldl (fun s o => s.trayFailed o) s
  let live := s.tier.trayOps.map (fun o => o.id)
  s.modPort p (fun x => { x with egress := x.egress.filter (fun e =>
    match e.msg with
    | .trayRd id _ _ => live.contains id
    | .trayWr id _ _ _ => live.contains id
    | _ => true) })

/-- The link leaves L0, L0p and L1. -/
def State.takeDown (s : State) (p : Nat) : State :=
  (((s.set PORT_LSTAT_UP 0 p).set PORT_LSTAT_PM 0 p).set PORT_LSTAT_IDE_ACTIVE 0 p).modPort p (fun x => { x with
    initRx := false
    retraining := false
    awaitReplay := false
    nakCount := 0 })

/-- A link-down: one that is not quiesced is latched and costs what its role says. -/
def State.linkDown (s : State) (p : Nat) : State :=
  if !s.linked p then s
  else
    let quiesced := s.quiescedDown p
    let yd := s.rd PORT_LSTAT_MODE p == 1
    let s := s.takeDown p
    if quiesced then s
    else
      let s := (s.set PORT_FSTAT_DOWN_UNQUIESCED 1 p).err ⟨.port, p⟩ 18
      match s.role p with
      | .leaf => if !yd && s.enabled .live then s.portVerdict p 3 else s.leafLost p
      | .tray => s.trayPortLost p
      | _ => s

/-- PORT_RESET (16 R371): the link goes down and trains again, the port's requests end as a link-down ends them, a port fence
ends, YD is offered again. -/
def State.portReset (s : State) (p : Nat) : State :=
  let s := (s.linkDown p).set PORT_FSTAT_FENCED 0 p
  let s := s.dropWaiting (fun c => cmdPort c == some p)
  let s := s.set PORT_LSTAT_YD_FALLBACK 0 p
  s.modPort p (fun x => { x with
    ydDeclined := false
    held := []
    l1Wait := []
    fences := [] })

/-! ### L1 and L0p (R29, R30; 16 R362, R369) -/

/-- A CXL link enters L1. -/
def State.l1Entry (s : State) (p : Nat) : State :=
  if s.up p && s.rd PORT_LSTAT_MODE p == 0 && s.flag PORT_CFG_L1_EN p then (s.set PORT_LSTAT_PM 2 p).set PORT_LSTAT_UP 0 p else s

/-- A port in L1 is back in L0; answers the requests that waited for the exit. -/
def State.l1Exit (s : State) (p : Nat) : State × List Instr :=
  if s.rd PORT_LSTAT_PM p == 2 then
    let w := (s.port p).l1Wait
    (((s.set PORT_LSTAT_PM 0 p).set PORT_LSTAT_UP 1 p).modPort p (fun x => { x with l1Wait := [] }), w)
  else (s, [])

/-- Whether a width code is an L0p step of a link: x8, x4, x2 on an x8 port; x16, x8, x4 on an x16 port (R29). -/
def State.l0pStep (s : State) (p width : Nat) : Bool :=
  match s.cfgWidth p with
  | 3 => 1 ≤ width && width ≤ 3
  | 2 => width ≤ 2
  | _ => false

/-- Whether a port die holds its links at half width (16 R362). -/
def State.dieHot (s : State) (p : Nat) : Bool := (Tbl.get? s.power.thermDuty (1 + (p % 128) / 16)).isSome

/-- An L0p width change. -/
def State.l0pChange (s : State) (p width : Nat) : State :=
  let t := (s.port p).trained
  let cap := if s.dieHot p && (s.role p == .leaf || s.role p == .trunk) then t - 1 else t
  if s.up p && s.flag PORT_CFG_L0P_EN p && s.l0pStep p width && width ≤ cap then
    (s.set PORT_LSTAT_WIDTH width p).set PORT_LSTAT_PM (if width < t then 1 else 0) p
  else s

/-! ### Introduction, credits, replay (R36, R42, R43) -/

/-- INIT of the partner. -/
def State.recvInit (s : State) (p : Nat) (f : Feid) (dev : DevId) (incarn : BitVec 16) : State :=
  if !s.ydUp p then s
  else
    let s := (s.set PORT_LSTAT_PARTNER_FEID f.toNat p).modPort p (fun x => { x with
      initRx := true
      partnerDev := dev
      partnerIncarn := incarn })
    if s.role p == .leaf then s.leafInit f incarn else s.hearIncarn f incarn

/-- Credits of a class return. -/
def State.recvCredit (s : State) (p cls n : Nat) : State :=
  if s.ydUp p && cls != 0 then s.modPort p (fun x => { x with credit := addCredit x.credit cls n }) else s

/-- Whether a sequence number lies at or before an ACK, among the last 4,096. -/
def ackCovers (ack seq : BitVec 12) : Bool := (ack - seq).toNat < 2048

/-- Frees the replay buffer up to an ACK. -/
def State.acked (s : State) (p : Nat) (ack : BitVec 12) : State :=
  s.modPort p (fun x => { x with replay := x.replay.filter (fun r => !ackCovers ack r.1) })

/-- A NAK: every flit from ACK + 1 on is sent again in order; the eighth NAK in a row for one number retrains the link (R43). -/
def State.recvNak (s : State) (p : Nat) (ack : BitVec 12) : State :=
  if !s.ydUp p then s
  else
    let s := s.acked p ack
    let n := if (s.port p).nakAck = ack then (s.port p).nakCount + 1 else 1
    let s := s.modPort p (fun x => { x with
      nakAck := ack
      nakCount := n })
    let s := s.addSat PORT_ERRS_REPLAYS 1 p
    if 8 ≤ n then
      (s.set PORT_LSTAT_UP 0 p).modPort p (fun x => { x with
        retraining := true
        nakCount := 0 })
    else
      s.resend p

/-! ### Reception of a YD flit (R38 to R49, R52) -/

/-- Lane rate of a link: lanes in use × rate, in units of x1 at 32 GT/s. -/
def State.linkSpeed (s : State) (p : Nat) : Nat := 2 ^ (s.rd PORT_LSTAT_WIDTH p + 1) * 2 ^ (2 - s.rd PORT_LSTAT_RATE p)

/-- Credit class of an opcode. -/
def takenClass (opc : Nat) : Nat := creditClass (.yd (BitVec.ofNat 8 opc) { dst := 0, src := 0, tag := 0 } [])

/-- Slots of a class that the messages of a flit take. -/
def takenSlots (c : Nat) (l : List Taken) : Nat :=
  (l.map (fun t =>
    match t with
    | .good opc _ d _ => if takenClass opc = c then 1 + d.length + (if opc = 0x03 then 1 else 0) else 0
    | .bad => 0)).sum

/-- The place a message cut through would take at its egress port (13 R305, R309). -/
def State.cutPlace (s : State) (p e opc : Nat) (h : Hdr) : Queued :=
  let m : Msg := .yd (BitVec.ofNat 8 opc) h []
  match strictQ (BitVec.ofNat 8 opc) h with
  | some q => { q := q, msg := m }
  | none => s.placeW e h.tc.toNat (some (bdTenant (s.map.cur.bind p))) kindForward m

/-- Whether the shapers of an egress port allow every message of a flit (13 R310). -/
def State.cutShaped (s : State) (p e : Nat) (l : List Taken) : Bool :=
  l.all (fun t =>
    match t with
    | .good opc h d _ => (shapersOf (s.cutPlace p e opc h)).all (s.shaperAllows e (16 * (1 + d.length + (if opc = 0x03 then 1 else 0))))
    | .bad => true)

/-- The egress port a flit is cut through to (R44): the next PAYLOAD flit in sequence, both links YD, the bindings let it pass (01
R15), the egress no faster, its queue empty, with credit for every slot and its shapers allowing every message (13 R310). Its first message names the egress of them all (DESIGN
CHOICE, assumption log 159). -/
def State.cutThrough (s : State) (p : Nat) (body : List Byte) (slots : List Slot) : Option Nat :=
  let head := ofBytes (body.take 4)
  let begun := bits head 3 0 == 1 && BitVec.ofNat 12 (bits head 15 4) == (s.port p).rxSeq && !(s.port p).awaitReplay
  match slots.find? (fun x => bits x.toNat 7 0 != 0) with
  | none => none
  | some x =>
    let dst : Feid := BitVec.ofNat 16 (bits x.toNat 31 16)
    let l := takeSlots 16 none slots
    if !begun || dst == s.ownFeid then none
    else (s.portOfFeid dst).filter (fun e =>
      e != p && s.ydUp e && s.mayPass p e && s.linkSpeed e ≤ s.linkSpeed p && (s.port e).egress.isEmpty &&
        s.linkMay e (.yd 0x01 (slotHdr x.toNat) []) && s.cutShaped p e l &&
        [1, 2, 3].all (fun c => takenSlots c l ≤ ((s.port e).credit[c]?).getD 0))

/-- Ends an egress flit that has begun as a stomp: it takes no sequence number and enters no replay buffer (R22, R46). -/
def State.stomp (s : State) (slots : List Slot) (e : Nat) : State :=
  let x := s.port e
  let s := s.emit (.tx e .ydStomp)
  let s := if s.rd PORT_LSTAT_IDE_ACTIVE e == 1 then s else s.emit (.flit e (stompFlit x.txSeq (x.rxSeq - 1) slots))
  (s.count { blk := .port, code := 0x06, inst := e }).count { blk := .port, code := 0x02, inst := e }

/-- Stomps the egress flit a cut-through ingress flit has begun (R46, R49). -/
def State.stompCut (s : State) (p : Nat) (body : List Byte) (slots : List Slot) : State :=
  ((s.cutThrough p body slots).map (s.stomp slots)).getD s

/-- A good cut-through flit whose egress copy would read as stomped is found so only at its end: it is ended as a stomp, and its
content goes again with ALT set (R48). -/
def State.altStomp (s : State) (p : Nat) (body : List Byte) (slots : List Slot) : State :=
  match s.cutThrough p body slots with
  | none => s
  | some e =>
    let x := s.port e
    if s.rd PORT_LSTAT_IDE_ACTIVE e != 1 && stomped (closeBody (flitBody x.txSeq (x.rxSeq - 1) slots)) then s.stomp slots e else s

/-- A flit failed its FEC, CRC or MAC: it is not confirmed, a NAK goes out, and a cut-through copy is stomped (R46, R52). -/
def State.flitFailed (s : State) (p : Nat) (body : List Byte) (slots : List Slot) (mac : Bool) : State :=
  let s := (s.count { blk := .port, code := 0x05, inst := p }).addSat PORT_ERRS_CRC_ERRS 1 p
  let s := s.stompCut p body slots
  let s : State := if mac then (s.set PORT_FSTAT_IDE_INSECURE 1 p).err ⟨.port, p⟩ 17 else s
  let s := s.sendQ p 0 (.ydNak ((s.port p).rxSeq - 1))
  s.modPort p (fun x => { x with awaitReplay := true })

/-- Whether a quiescing port holds a message (R466). -/
def heldOpcode (opc : Nat) : Bool :=
  opc == 0x01 || opc == 0x02 || opc == 0x03 || opc == 0x08 || opc == 0x0C || opc == 0x10 || opc == 0x18 || opc == 0x38

/-- Whether the home has no transaction tracker left for a message (04 R85). -/
def State.trackersFull (s : State) (opc : Nat) : Bool :=
  16384 ≤ s.home.txns.length && (opc == 0x01 || opc == 0x02 || opc == 0x03 || opc == 0x08)

/-- Whether a message's credit is withheld: its port holds it, the home has no tracker for it, or the collective engine takes no more
from its port (R466; 04 R85; 11 R269). -/
def State.keepsCredit (s : State) (p opc : Nat) (h : Hdr) : Bool :=
  (s.quiescing .port p && heldOpcode opc) || s.trackersFull opc || (opc == 0x18 && s.collHolds p (bits h.arg.toNat 11 0))

/-- Returns the credit of a message a flit brought, where it is not withheld (R42). -/
def State.returnCredit (s : State) (p opc slots : Nat) (h : Hdr) : State :=
  let c := if opc == 0x28 || opc == 0x29 || opc == 0x30 then 0 else takenClass opc
  if c = 0 then s
  else if s.keepsCredit p opc h then s.modPort p (fun x => { x with owed := addCredit x.owed c slots })
  else s.sendQ p 0 (.ydCredit (BitVec.ofNat 2 c) slots)

/-- Whether a port's withheld class-3 credit stays withheld: a contribution of it waits to open an operation, or it is ahead in a full
staging memory (11 R269). -/
def State.collWaits (s : State) (p : Nat) : Bool :=
  (s.stagingFull && s.collAhead p) ||
    s.home.blocked.any (fun x => match x.cmd with
      | .coll q h _ => q.val == p && s.collTooMany (bits h.arg.toNat 11 0)
      | _ => false)

/-- Returns the withheld credit of the classes that nothing withholds any more. -/
def State.payOwed (s : State) (p : Nat) : State :=
  let o := (s.port p).owed
  let cs := (if s.trackersFull 0x01 then [] else [1]) ++ [2] ++ (if s.collWaits p then [] else [3])
  let s := s.modPort p (fun x => { x with
    owed := x.owed.mapIdx (fun c n => if cs.contains c then 0 else n) })
  cs.foldl (fun s c =>
    let n := (o[c]?).getD 0
    if n = 0 then s else s.sendQ p 0 (.ydCredit (BitVec.ofNat 2 c) n)) s

/-- A malformed message (R40). -/
def State.badMsg (s : State) (p : Nat) : State := (s.count { blk := .port, code := 0x08, inst := p }).err ⟨.port, p⟩ 16

/-- The messages of a confirmed flit. -/
def State.takeFlit (s : State) (p : PortId) (type : Nat) (slots : List Slot) : State × List Taken :=
  let s := s.modPort p.val (fun x => { x with
    rxSeq := x.rxSeq + 1
    awaitReplay := false })
  let s := s.count { blk := .port, code := 0x01, inst := p.val }
  (s, if type = 1 then takeSlots 16 none slots else [])

/-- A whole YD flit arrives; answers its messages, in slot order. A repeated flit is dropped; one that comes too early is answered
with NAK once. Under IDE each flit advances the ingress invocation counter (R52). -/
def State.rxFlit (s : State) (p : PortId) (flit : BitVec 2048) (macOk : Bool) : State × List Taken :=
  let l := bytesOf 256 flit.toNat
  let ide := s.rd PORT_LSTAT_IDE_ACTIVE p.val == 1
  if !s.ydUp p.val || s.rd PORT_LSTAT_UP p.val == 0 then (s, [])
  else if stomped l then (s.count { blk := .port, code := 0x07, inst := p.val }, [])
  else
    let inj := s.rd PORT_INJ_RX_CRC p.val == 1
    let s := s.set PORT_INJ_RX_CRC 0 p.val
    let s := if ide then s.modPort p.val (fun x => { x with ideRx := x.ideRx + 1 }) else s
    match fecDecode l with
    | none => (s.flitFailed p.val (l.take 244) (flitSlots ide l) false, [])
    | some (b, fixed) =>
      let body := b.take 244
      let crcOk := crc64 body == ofBytes ((b.drop 244).take 8) && !inj
      let slots := flitSlots ide body
      if !crcOk then (s.flitFailed p.val body slots false, [])
      else if ide && !macOk then (s.flitFailed p.val body slots true, [])
      else
        let head := ofBytes (body.take 4)
        let type := bits head 3 0
        let seq : BitVec 12 := BitVec.ofNat 12 (bits head 15 4)
        let ack : BitVec 12 := BitVec.ofNat 12 (bits head 27 16)
        let s := if bit head 28 then s.recvNak p.val ack else s.acked p.val ack
        let want := (s.port p.val).rxSeq
        if seq = want then
          if type = 0 then (s, [])
          else
            let s := if fixed then s.stompCut p.val body slots else s.altStomp p.val body slots
            s.takeFlit p type slots
        else if ackCovers (want - 1) seq || (s.port p.val).awaitReplay then (s, [])
        else
          ((s.sendQ p.val 0 (.ydNak (want - 1))).modPort p.val (fun x => { x with awaitReplay := true }), [])

end Sys2Proof.Machine
end

