-- ==== Sys2Proof/Machine/Tenancy.lean ====
section
/-! DEFINITION. Contexts, key slots and attestation (spec 14), with IDE_KM (spec 02 R50 to R52). Signatures, key unwrapping and
certificates come as outcomes of commands or as free values; SPDM response codes are DSP0274's (PRESUMED, assumption log 26). -/

namespace Sys2Proof.Machine

/-- The management subsystem runs: step 3 of start-up has ended (16 R375; 02 R55). -/
def State.mgmtUp (s : State) : Bool := (s.power.supply == .on || s.power.supply == .holdup) && 4 ≤ s.rd RST_STAT_STEP && !s.power.refLost

/-- Security profiles (R325). -/
abbrev profileU : Nat := 1
abbrev profileF : Nat := 2

/-- SEC_PROFILE.PROFILE. -/
def State.profile (s : State) : Nat := s.rd SEC_PROFILE_PROFILE

/-! ### Key slots (R320 to R324) -/

/-- Operations tagged with a slot (CTX_DRAIN.COUNT, R321): its context's, and its tenant's where it is the home slot. -/
def State.drainCount (s : State) (x : Nat) : Nat :=
  let tenant := s.ctxTenant x
  let own := (s.home.txns.filter (fun t => match t.src with | .core y _ _ => y == x | _ => false)).length
  let others := (s.home.txns.filter (fun t =>
    (match t.src with | .core _ _ _ => false | _ => true) && (s.bank t.epoch).tenantOf (s.txnExtent t) == tenant)).length
  let moves := (s.tier.t4Reads.filter (fun r => s.map.cur.tenantOf (s.map.cur.extent (r.1 / 2 ^ 14)) == tenant)).length
  let reads := ((s.procsOf x).map (fun p => (p.remote.filter (fun r => r.res.isNone)).length)).sum
  own + reads + (if s.homeSlot tenant == some x then others + moves else 0)

/-- CTX_OWNER of a context. -/
def State.ctxOwner (s : State) (x : Nat) : Nat :=
  (List.range 12).foldl (fun n i => n + s.rd CTX_OWNER_DIGEST x i * 2 ^ (32 * i)) 0

/-- An SPDM session that FINISH has completed. -/
def State.session (s : State) (id : Nat) : Option Session := s.sec.sessions.find? (fun q => q.id == id && q.done)

/-- Whether an extent of a tenant is VALID with CMPR = 1 in a bank. -/
def Bank.tenantCmpr (b : Bank) (tenant : Nat) : Bool :=
  b.extents.any (fun e => exValid e.2 && exCmpr e.2 && b.tenantOf e.2 == tenant)

/-- Result codes of a key load (20 R427). -/
abbrev rcKeySession : Nat := 0x1101
abbrev rcKeyUnwrap : Nat := 0x1102
abbrev rcKeyMismatch : Nat := 0x1103

/-- The outcome of a key load: the first ground of R324 that applies, else OK. -/
def State.keyLoadResult (s : State) (k : KeyLoad) : Nat :=
  let x := k.ctx.val
  let tenant := s.ctxTenant x
  let owner := if s.profile = profileF then s.sec.opDigest.toNat else s.ctxOwner x
  let noCmpr := s.profile = profileU && k.noCmpr
  let known : Bool := match s.session k.session with | some q => q.digest.toNat == owner | none => false
  if !k.rsvdZero then rcFieldRange
  else if s.ctxState x != ctxFree || s.flag CTX_STAT_COOLING x then rcLocked
  else if !known then rcKeySession
  else if !k.unwrapOk then rcKeyUnwrap
  else if s.sec.slots.any (fun q => s.ctxTenant q.1 == tenant && (q.2.pair != k.pair || q.2.noCmpr != noCmpr)) then rcKeyMismatch
  else if noCmpr && (s.map.cur.tenantCmpr tenant || s.map.pend.tenantCmpr tenant) then rcProfile
  else rcOk

/-- Notes the outcome of a load. -/
def State.keyLoadStat (s : State) (x code : Nat) : State :=
  ((s.set KEYS_LOAD_STAT_RESULT code).set KEYS_LOAD_STAT_CTX x).set KEYS_LOAD_STAT_VALID 1

/-- A key-load entry is complete: the key enters the slot and the context READY, or nothing changes but the outcome. -/
def State.loadKey (s : State) (k : KeyLoad) : State :=
  let x := k.ctx.val
  let code := s.keyLoadResult k
  let s := s.keyLoadStat x code
  if code != rcOk then s.err ⟨.keys, 0⟩ 16
  else
    let slot : Slot_ := { pair := k.pair, noCmpr := s.profile = profileU && k.noCmpr }
    let s := { s with sec := { s.sec with slots := Tbl.put s.sec.slots x slot } }
    let fromFree := s.ctxState x == ctxFree
    let s := ((s.set CTX_STAT_STATE ctxReady x).set CTX_STAT_KEYED 1 x).set CTX_KEYID_KEY_ID k.keyId.toNat x
    if !fromFree then s
    else
      let s := { s with pmon := { s.pmon with vcnt := s.pmon.vcnt.filter (fun (c : Nat × Nat) => c.1 / 4 != x) } }
      (s.set CTX_ENERGY_LO_UWH 0 x).set CTX_ENERGY_HI_UWH 0 x

/-! ### Retirement (R332 to R334) -/

/-- RETIRE on a READY context; ignored in any other state. -/
def State.retire (s : State) (x : Nat) : State :=
  if s.ctxState x != ctxReady then s else (s.set CTX_STAT_STATE ctxRetiring x).retireProcs x

/-- Counts data that arrives for an operation its slot no longer decrypts (R333). -/
def State.keyStale (s : State) : State := (s.count { blk := .keys, code := 0x02 }).err ⟨.keys, 0⟩ 17

/-- Ends a transaction of a tenant without keys; its tray accesses stay outstanding, and their data will be stale. An owner's
write-back leaves its line poisoned (R322), an atomic leaves no reply-cache entry (05 R121). -/
def State.dropKeyless (s : State) (t : Txn) : State :=
  let ops := s.tier.trayOps
  let s : State := match t.acc with
    | .evict | .pull => s
    | .readShared | .readOwn _ | .readUnc _ _ => s.refuse t.src t.acc stContextGone
    | .wback _ _ _ => (s.keyPoison (exCmpr (s.txnExtent t)) t.line).answerWrite t.src t.acc stOk 0 false
    | _ => s.discardWrite t.src t.acc stContextGone
  let s := s.dropTxn t.id
  { s with tier := { s.tier with trayOps := ops } }

/-- The key pair is zeroised: descriptors still running end, GEN moves on, and operations without a slot are dropped. -/
def State.zeroise (s : State) (x : Nat) : State :=
  if s.ctxState x != ctxRetiring then s
  else
    let tenant := s.ctxTenant x
    let s := s.endProcs x (fun p => match p.phase with | .ending | .recorded | .refused => false | _ => true) stContextGone
    let s := { s with sec := { s.sec with slots := Tbl.del s.sec.slots x } }
    let gen := s.rd CTX_STAT_GEN x
    let s := (((s.set CTX_STAT_STATE ctxFree x).set CTX_STAT_KEYED 0 x).set CTX_STAT_COOLING 1 x).set CTX_STAT_GEN ((gen + 1) % 256) x
    if (s.homeSlot tenant).isSome then s
    else
      let gone := s.home.txns.filter (fun t => t.acc != .evict && (s.bank t.epoch).tenantOf (s.txnExtent t) == tenant)
      gone.foldl State.dropKeyless s

/-- The cooling of a slot ends. -/
def State.coolEnd (s : State) (x : Nat) : State := s.set CTX_STAT_COOLING 0 x

/-- CTX_RESET on a READY context: its work ends at once. -/
def State.ctxResetWork (s : State) (x : Nat) : State :=
  if s.ctxState x != ctxReady then s else (s.abortProcs x).prefDropCtx x

/-- Every slot is zeroised and every context FREE and cooling, at DEV_RESET: the retained generation of a context whose slot may
have held a key goes on. -/
def nextGen (gen : Nat) : Nat := (gen + 1) % 256

/-! ### SPDM (R328, R329) -/

/-- SPDM response codes. -/
abbrev spVersion : Byte := 0x04
abbrev spCapabilities : Byte := 0x61
abbrev spAlgorithms : Byte := 0x63
abbrev spDigests : Byte := 0x01
abbrev spCertificate : Byte := 0x02
abbrev spChallengeAuth : Byte := 0x03
abbrev spMeasurements : Byte := 0x60
abbrev spKeyExchangeRsp : Byte := 0x64
abbrev spFinishRsp : Byte := 0x65
abbrev spHeartbeatAck : Byte := 0x68
abbrev spKeyUpdateAck : Byte := 0x69
abbrev spEndSessionAck : Byte := 0x6C
abbrev spVendorRsp : Byte := 0x7E
abbrev spError : Byte := 0x7F

/-- SPDM error codes. -/
abbrev seInvalidRequest : Nat := 0x01
abbrev seInvalidSession : Nat := 0x02
abbrev seBusy : Nat := 0x03
abbrev seDecrypt : Nat := 0x06
abbrev seUnsupported : Nat := 0x07

/-- Answers an SPDM request, while the management subsystem runs. -/
def State.spdmAnswer (s : State) (r : SpdmReq) (code : Byte) (payload : List Nat) : State :=
  if s.mgmtUp then s.emit (.spdm r.req code payload) else s

/-- Answers with ERROR. -/
def State.spdmError (s : State) (r : SpdmReq) (code : Nat) : State := s.spdmAnswer r spError [code]

/-- Answers with one value the spec does not give: a digest, certificate or signature. -/
def State.spdmFree (s : State) (r : SpdmReq) (code : Byte) (fields : List Nat) : State :=
  let v := s.fresh
  v.2.spdmAnswer r code (fields ++ [v.1])

/-- Whether a measurement block is for a requester (R329). -/
def State.mayMeasure (s : State) (q : Session) (i : Nat) : Bool :=
  match q.kind with
  | .operator => 1 ≤ i && i ≤ 6
  | .tenant => s.profile == profileU && ((1 ≤ i && i ≤ 5) || i == 0x10)
  | .linkPartner => false

/-- Manifest of a requester's contexts: CTX, TENANT, SLICE, STATE, KEY_ID, GEN, NO_CMPR, CORE_MASK, CLOAKED extents (R329). -/
def State.manifest (s : State) (digest : Nat) : List Nat :=
  ((List.range 4096).filter (fun x => s.ctxOwner x == digest && digest != 0)).flatMap (fun x =>
    let t := s.ctxTenant x
    [x, t, s.rd CTX_BIND_SLICE x, s.ctxState x, s.rd CTX_KEYID_KEY_ID x, s.rd CTX_STAT_GEN x,
      b2n (match Tbl.get? s.sec.slots x with | some k => k.noCmpr | none => false),
      slCores (s.map.cur.slice (s.rd CTX_BIND_SLICE x)),
      (s.map.cur.extents.filter (fun e => exValid e.2 && exCloaked e.2 && s.map.cur.tenantOf e.2 == t)).length])

/-- Content of a measurement block; digests are free values. -/
def State.measurement (s : State) (q : Session) (i : Nat) : List Nat × State :=
  match i with
  | 3 => ([i, s.rd FW_STAT_ACTIVE, s.rd FW_STAT_SVN_FUSE, Tbl.get s.fw.svn (s.rd FW_STAT_ACTIVE) 0], s)
  | 4 => ([i, s.profile, s.rd FW_STAT_SVN_FUSE, 0], s)
  | 6 => ([i, s.fw.secSeq.toNat, s.sec.opDigest.toNat], s)
  | 0x10 => (i :: s.manifest q.digest.toNat, s)
  | _ => ([i, s.fresh.1], s.fresh.2)

/-- GET_MEASUREMENTS in a session: one block, their number (index 0), or all the requester may see (index 0xFF). -/
def State.measure (s : State) (r : SpdmReq) (i : Nat) : State :=
  match s.session r.session with
  | none => s.spdmError r seInvalidRequest
  | some q =>
    let all := [1, 2, 3, 4, 5, 6, 0x10].filter (s.mayMeasure q)
    let want := if i = 0xFF then all else [i]
    if all.isEmpty then s.spdmError r seInvalidRequest
    else if i = 0 then s.spdmAnswer r spMeasurements [all.length]
    else if want.all (s.mayMeasure q) then
      let c := want.foldl (fun (a : List Nat × State) j => let m := a.2.measurement q j; (a.1 ++ m.1, m.2)) ([], s)
      c.2.spdmFree r spMeasurements c.1
    else s.spdmError r seInvalidRequest

/-- KEY_EXCHANGE: refused to tenants in PROFILE_F, Busy at 64 sessions, else a new session. -/
def State.keyExchange (s : State) (r : SpdmReq) : State :=
  if !s.mgmtUp then s
  else if s.profile == profileF && r.kind == .tenant then s.spdmError r seInvalidRequest
  else if 64 ≤ s.sec.sessions.length then s.spdmError r seBusy
  else
    let id := s.sec.nextSess
    let q : Session := { id := id, kind := r.kind, digest := r.digest }
    let s := { s with sec := { s.sec with sessions := s.sec.sessions ++ [q], nextSess := id + 1 } }
    s.spdmFree r spKeyExchangeRsp [id]

/-- Drops a session. -/
def State.dropSession (s : State) (id : Nat) : State :=
  { s with sec := { s.sec with sessions := s.sec.sessions.filter (fun q => q.id != id) } }

/-- FINISH with the outcome of its checks. -/
def State.finishSession (s : State) (r : SpdmReq) (ok : Bool) : State :=
  if !s.mgmtUp then s
  else if !s.sec.sessions.any (fun q => q.id == r.session && !q.done) then s.spdmError r seInvalidSession
  else if ok then
    ({ s with sec := { s.sec with sessions := s.sec.sessions.map (fun (q : Session) =>
      if q.id == r.session then { q with done := true } else q) } }).spdmAnswer r spFinishRsp []
  else (s.dropSession r.session).spdmError r seDecrypt

/-- A request inside a session. -/
def State.inSession (s : State) (r : SpdmReq) (code : Byte) : State :=
  if (s.session r.session).isSome then s.spdmAnswer r code [] else s.spdmError r seInvalidSession

/-- END_SESSION. -/
def State.endSession (s : State) (r : SpdmReq) : State :=
  if !s.mgmtUp then s
  else if (s.session r.session).isSome then (s.dropSession r.session).spdmAnswer r spEndSessionAck []
  else s.spdmError r seInvalidSession

/-! ### IDE_KM (02 R50, R51): `ideKeySet` holds the programmed key sets in bits 0 and 1, the set in use in bit 2 -/

/-- One IDE_KM step of a link. Skid mode is refused; a set goes into use once it has a key. -/
def State.ideKm (s : State) (p : Nat) (k : IdeKm) : State × Option Nat :=
  let x := (s.port p).ideKeySet
  match k with
  | .query => (s, some x)
  | .keyProg set => (s.modPort p (fun q => { q with ideKeySet := x ||| (if set then 2 else 1) }), some 0)
  | .kSetGo set skid =>
    if skid || !bit x (b2n set) || !s.linked p then (s, none)
    else
      let s := s.modPort p (fun q => { q with
        ideKeySet := x % 4 + 4 * b2n set
        ideCount := 0
        ideRx := 0 })
      ((s.set PORT_LSTAT_IDE_ACTIVE 1 p).set PORT_FSTAT_IDE_INSECURE 0 p, some 0)
  | .kSetStop set =>
    let s := if bits x 2 2 = b2n set then s.set PORT_LSTAT_IDE_ACTIVE 0 p else s
    (s.modPort p (fun q => { q with ideKeySet := q.ideKeySet &&& (if set then 5 else 6) }), some 0)

/-- Whether the device is the IDE_KM requester of a link: towards trays, and on a TRUNK link where its device ID is the lower (02
R50). -/
def State.ideRequester (s : State) (p : Nat) : Bool :=
  match s.role p with
  | .tray => true
  | .trunk => (s.port p).initRx && s.ownDev.toNat < (s.port p).partnerDev.toNat
  | _ => false

/-- An IDE_KM step the device takes as requester: its request goes to the partner over the link, in a session of its own (DESIGN
CHOICE, assumption log 166). It never asks for skid mode (02 R51). -/
def State.ideRequest (s : State) (p : Nat) (k : IdeKm) : State :=
  match s.ideKm p k with
  | (_, none) => s
  | (s, some _) => let r := s.fresh; r.2.sendQ p 3 (.ideKm (bytesOf 64 r.1))

/-- VENDOR_DEFINED_REQUEST: IDE_KM in a secured session; on a link whose requester the device is, its own exchange. -/
def State.vendorRequest (s : State) (r : SpdmReq) (p : Nat) (k : IdeKm) : State :=
  if !s.mgmtUp then s
  else if s.ideRequester p then s.ideRequest p k
  else if (s.session r.session).isNone then s.spdmError r seInvalidSession
  else
    match s.ideKm p k with
    | (s, some v) => s.spdmAnswer r spVendorRsp [v]
    | (s, none) => s.spdmError r seInvalidRequest

end Sys2Proof.Machine
end

