-- ==== Sys2Proof/Machine/Pocket.lean ====
section
/-! DEFINITION. The Pocket (spec 17): its energy registers, records and their signing, the mirror page and the doorbell,
the seal, the log, the pulse output and the optical test port. -/

namespace Sys2Proof.Machine

/-- Changes the Pocket's own state. -/
def State.mapPocket (s : State) (f : PocketSt → PocketSt) : State := { s with pocket := f s.pocket }

/-- Record kinds (spec 17 R383) and the kinds of event entries of the log (R382; the model's own numbers). -/
abbrev pkPeriodic : Nat := 1
abbrev pkRequested : Nat := 2
abbrev pkSeal : Nat := 3
abbrev peSeal : Nat := 0x10
abbrev peFeedUp : Nat := 0x11
abbrev peFeedDown : Nat := 0x12
abbrev peOverrange : Nat := 0x13
abbrev peXtal : Nat := 0x14
abbrev pePowerLoss : Nat := 0x15

/-- Entries the log holds (spec 17 R382). -/
abbrev pocketLogSize : Nat := 40960

/-- Record flags as they stand (spec 17 R383); a feed is present while the front end judges it good (DESIGN CHOICE,
assumption log 27). -/
def State.pocketFlags (s : State) : Nat :=
  s.rd PWR_STAT_A_GOOD + 2 * s.rd PWR_STAT_B_GOOD + 4 * b2n s.pocket.overRange + 8 * b2n s.pocket.xtal
    + 16 * b2n (!s.pocket.rtcSet) + 32 * b2n s.pocket.wrapped

/-- A record of this moment (spec 17 R384). -/
def State.pocketNow (s : State) (kind nonce : Nat) : PocketRec :=
  let k := s.pocket
  { kind, flags := s.pocketFlags, rtc := k.rtc, eA := k.eA, eB := k.eB, sealCnt := k.sealCnt, nonce }

/-- The 128 bytes of a record as a number (spec 17 R383). -/
def pocketWord (id : Nat) (r : PocketRec) : Nat :=
  1 + r.kind * 2 ^ 8 + (r.flags % 2 ^ 6) * 2 ^ 16 + (r.seq % 2 ^ 32) * 2 ^ 32 + (r.rtc % 2 ^ 64) * 2 ^ 64
    + (r.eA % 2 ^ 64) * 2 ^ 128 + (r.eB % 2 ^ 64) * 2 ^ 192 + (r.sealCnt % 2 ^ 16) * 2 ^ 256 + (id % 2 ^ 64) * 2 ^ 320
    + (r.nonce % 2 ^ 128) * 2 ^ 384 + r.sig * 2 ^ 512

/-- Keeps an entry in the log; the oldest is overwritten when it is full (spec 17 R382). -/
def State.pocketLog (s : State) (r : PocketRec) : State :=
  s.mapPocket (fun k =>
    if k.log.length < pocketLogSize then { k with log := k.log ++ [r] }
    else { k with log := k.log.drop 1 ++ [r], wrapped := true })

/-- An event entry (spec 17 R382). -/
def State.pocketEvent (s : State) (kind : Nat) : State := s.pocketLog (s.pocketNow kind 0)

/-- The rank of a kind among records that fall due in one second (spec 17 R384). -/
def pocketRank (kind : Nat) : Nat := if kind == pkSeal then 0 else if kind == pkPeriodic then 1 else 2

/-- Whether a record falls due before another (spec 17 R384). -/
def pocketBefore (a b : PocketRec) : Bool := a.rtc < b.rtc || (a.rtc == b.rtc && pocketRank a.kind < pocketRank b.kind)

/-- Starts to sign the record that fell due first, where none is being signed (spec 17 R383, R384). -/
def PocketSt.startSigning (k : PocketSt) : PocketSt :=
  match k.signing, k.due with
  | none, r :: t => if k.powered then { k with signing := some { r with seq := k.seq + 1 }, seq := k.seq + 1, due := t } else k
  | _, _ => k

/-- A record falls due (spec 17 R384); OVERRANGE covers the time since the last record (R383). -/
def State.pocketDue (s : State) (kind nonce : Nat) : State :=
  let r := s.pocketNow kind nonce
  s.mapPocket (fun k =>
    let k := { k with due := sortBy pocketBefore (k.due ++ [r]), overRange := false }
    k.startSigning)

/-- A 15-minute boundary of the RTC (spec 17 R383). -/
def State.pocketPeriodic (s : State) : State :=
  if s.pocket.powered then
    (s.mapPocket (fun k => { k with rtc := (k.rtc / 900 + 1) * 900, tenths := 0 })).pocketDue pkPeriodic 0
  else s

/-- The lid is opened (spec 17 R389): counted even without power, the record at once or at the next power-up. -/
def State.sealBreak (s : State) : State :=
  let s := s.mapPocket (fun k => { k with sealCnt := min (k.sealCnt + 1) 65535 })
  let s := s.pocketEvent peSeal
  if s.pocket.powered then s.pocketDue pkSeal 0
  else s.mapPocket (fun k => { k with sealDue := k.sealDue + 1 })

/-- The nonce of the next ring (spec 17 R387). -/
def State.pocketNonce (s : State) : Nat :=
  (List.range 4).foldl (fun a i => a + s.rd POCKET_NONCE_NONCE 0 i * 2 ^ (32 * i)) 0

/-- POCKET_DB.RING is written with 1 (spec 17 R387). -/
def State.pocketRing (s : State) : State :=
  if s.flag POCKET_DB_PENDING then s.set POCKET_DB_DROPPED 1
  else (s.set POCKET_DB_PENDING 1).pocketDue pkRequested s.pocketNonce

/-- A signature is computed (spec 17 R384): periodic and requested records enter the log (R382). -/
def State.pocketSigned (s : State) (r t : BitVec 256) : State :=
  match s.pocket.signing with
  | none => s
  | some q =>
    let q := { q with sig := r.toNat + 2 ^ 256 * t.toNat }
    let s := if q.kind == pkSeal then s else s.pocketLog q
    s.mapPocket (fun k => { k with signing := none, ready := k.ready ++ [q] }.startSigning)

/-- Writes the 32 words of a record into its registers. -/
def State.showRecord (s : State) (f : BlockField) (w : Nat) : State :=
  (List.range 32).foldl (fun s i => s.set f ((w >>> (32 * i)) % 2 ^ 32) 0 i) s

/-- A signed record appears on the page (spec 17 R387, POCKET_LASTREC and POCKET_REQREC). -/
def State.showReady (s : State) (r : PocketRec) : State :=
  let w := pocketWord s.pocket.id r
  if r.kind == pkRequested then ((s.showRecord POCKET_REQREC_REC w).set POCKET_DB_PENDING 0).set POCKET_DB_DONE 1
  else s.showRecord POCKET_LASTREC_REC w

/-- Adds to a context's CTX_ENERGY (spec 17 R391). -/
def State.addEnergy (s : State) (x uwh : Nat) : State :=
  let e := s.rd CTX_ENERGY_LO_UWH x + 2 ^ 32 * s.rd CTX_ENERGY_HI_UWH x + uwh
  (s.set CTX_ENERGY_LO_UWH (e % 2 ^ 32) x).set CTX_ENERGY_HI_UWH (e / 2 ^ 32 % 2 ^ 32) x

/-- Divides an interval's energy among the contexts (spec 17 R391): the shares are free, their sum is the increase, what
remains is the idle share. -/
def shareEnergy : List Nat → Nat → State → State
  | [], _, s => s
  | x :: t, left, s =>
    let f := s.fresh
    let part := f.1 % (left + 1)
    shareEnergy t (left - part) (f.2.addEnergy x part)

/-- Writes a 64-bit value into a pair of page registers. -/
def State.setPair (s : State) (lo hi : BlockField) (v : Nat) : State :=
  (s.set lo (v % 2 ^ 32)).set hi (v / 2 ^ 32 % 2 ^ 32)

/-- 100 ms pass in the powered Pocket: the energies of the interval are added, ten intervals make a second of the RTC, and at a
15-minute boundary a periodic record falls due (spec 17 R379, R383). -/
def State.pocketTick (s : State) (mwhA mwhB : Nat) : State :=
  let s := s.mapPocket (fun k =>
    { k with
      eA := k.eA + mwhA
      eB := k.eB + mwhB
      tenths := (k.tenths + 1) % 10
      rtc := k.rtc + (k.tenths + 1) / 10 })
  if s.pocket.tenths = 0 && s.pocket.rtc % 900 = 0 then s.pocketDue pkPeriodic 0 else s

/-- The Pocket writes the mirror page after the energies of one interval (spec 17 R379, R385 to R387, R391). Voltages and currents
are free. -/
def State.mirrorWrite (s : State) (mwhA mwhB : Nat) : State :=
  if !s.pocket.powered then s
  else
    let s := s.pocketTick mwhA mwhB
    if s.power.supply == .off || s.power.supply == .tripped then s
    else
      let s := s.setPair POCKET_EA_LO_V POCKET_EA_HI_V s.pocket.eA
      let s := s.setPair POCKET_EB_LO_V POCKET_EB_HI_V s.pocket.eB
      let s := s.setPair POCKET_RTC_LO_V POCKET_RTC_HI_V s.pocket.rtc
      let s := s.set POCKET_SEAL_COUNT s.pocket.sealCnt
      let va := s.fresh
      let vb := va.2.fresh
      let s := (vb.2.setReg (POCKET_VIA_CV.ref.at { blk := .pocket }) (va.1 % 2 ^ 32)).setReg
        (POCKET_VIB_CV.ref.at { blk := .pocket }) (vb.1 % 2 ^ 32)
      let s := s.set POCKET_STAT_FLAGS (s.pocketFlags % 32)
      let s := s.pocket.ready.foldl State.showReady s
      let s := s.mapPocket (fun k => { k with ready := [] })
      let s := s.set POCKET_MSEQ_SEQ ((s.rd POCKET_MSEQ_SEQ + 2) % 2 ^ 32)
      let s := s.set POCKET_STAT_ALIVE 1
      shareEnergy s.sec.slots.keys ((mwhA + mwhB) * 1000) s

/-- No page write for 300 ms (spec 17 R386, 21 R444). -/
def State.aliveTimeout (s : State) : State :=
  if s.flag POCKET_STAT_ALIVE then (s.set POCKET_STAT_ALIVE 0).err { blk := .pocket } 16 else s

/-- Both feeds fall below 100 V (spec 17 R381). -/
def State.pocketPowerLoss (s : State) : State :=
  if s.pocket.powered then (s.pocketEvent pePowerLoss).mapPocket (fun k => { k with powered := false }) else s

/-- The Pocket has power again (spec 17 R384, R389): a record for each break that waits. -/
def State.pocketPowerUp (s : State) : State :=
  if s.pocket.powered then s
  else
    let n := s.pocket.sealDue
    let s := s.mapPocket (fun k => { k with powered := true, sealDue := 0 }.startSigning)
    (List.range n).foldl (fun s _ => s.pocketDue pkSeal 0) s

/-- A pulse at the contact (spec 17 R388): one for each 100 mWh of E_A + E_B. -/
def State.pocketPulse (s : State) : State :=
  if s.pocket.pulseAt + 100 ≤ s.pocket.eA + s.pocket.eB then
    (s.mapPocket (fun k => { k with pulseAt := k.pulseAt + 100 })).emit .pocketPulse
  else s

/-- What a verifier reads through the optical test port (spec 17 R390). -/
def State.opticalItem (s : State) : OpticalItem → List Nat
  | .registers => [s.pocketFlags, s.pocket.eA, s.pocket.eB, s.pocket.rtc, s.pocket.sealCnt, s.pocket.seq]
  | .log => s.pocket.log.map (pocketWord s.pocket.id)
  | .certificate => (List.range 256).map (fun i => s.rd POCKET_CERT_DER 0 i)

/-- A read at the optical test port (spec 17 R390): it works whenever the Pocket is powered. -/
def State.opticalRead (s : State) (what : OpticalItem) : State :=
  if s.pocket.powered then s.emit (.optical what (s.opticalItem what)) else s

/-- The RTC is adjusted through the optical test port (spec 17 R380). -/
def State.rtcAdjust (s : State) (seconds : Nat) : State :=
  if s.pocket.powered then s.mapPocket (fun k => { k with rtc := seconds, rtcSet := true, tenths := 0 }) else s

/-- The crystal fails (spec 17 R382, R383). -/
def State.xtalFault (s : State) : State :=
  if s.pocket.powered then (s.mapPocket (fun k => { k with xtal := true })).pocketEvent peXtal else s

/-- A reading saturates (spec 17 R378, R382). -/
def State.overrange (s : State) : State :=
  if s.pocket.powered then (s.mapPocket (fun k => { k with overRange := true })).pocketEvent peOverrange else s

/-- A feed appears or disappears (spec 17 R382). -/
def State.pocketFeed (s : State) (up : Bool) : State :=
  if s.pocket.powered then s.pocketEvent (if up then peFeedUp else peFeedDown) else s

end Sys2Proof.Machine
end

