-- ==== Sys2Proof/Machine/Firmware.lean ====
section
/-! DEFINITION. Firmware slots and their commands, the anti-rollback counter (spec 18), and what a save of the settings
holds (spec 21 R434). -/

namespace Sys2Proof.Machine

/-- Changes flash, fuses and boot state. -/
def State.mapFw (s : State) (f : FwSt → FwSt) : State := { s with fw := f s.fw }

/-- FW_STAT of a slot's validity: 0 = slot A, 1 = slot B. -/
def validField (slot : Nat) : BlockField := if slot = 0 then FW_STAT_A_VALID else FW_STAT_B_VALID

/-- Whether a slot is valid (spec 18 R394). -/
def State.slotValid (s : State) (slot : Nat) : Bool := s.flag (validField slot)

/-- SVN of a slot's image. -/
def State.slotSvn (s : State) (slot : Nat) : Nat := Tbl.get s.fw.svn slot 0

/-- Settings format of a slot's image. -/
def State.slotFmt (s : State) (slot : Nat) : Nat × Nat := Tbl.get s.fw.fmt slot (1, 0)

/-- The slot that does not run. -/
def State.inactiveSlot (s : State) : Nat := 1 - s.rd FW_STAT_ACTIVE

/-- Ends a firmware command with a reason code. -/
def State.fwResult (s : State) (code : Nat) : State := s.set FW_STAT_RESULT code

/-- OP = STAGE (spec 18 R396, R398). -/
def State.fwStage (s : State) : State :=
  let len := s.rd FW_LEN_BYTES
  if len < 8 * 1024 || 224 * 2 ^ 20 < len || s.rd FW_SRC_LO_ADDR % 64 != 0 then s.fwResult rcFieldRange
  else
    let s := s.set FW_STAT_NEXT (s.rd FW_STAT_ACTIVE)
    ((s.set (validField s.inactiveSlot) 0).set FW_STAT_BUSY 1).set FW_CTL_GO 1

/-- OP = ACTIVATE (spec 18 R397, R398). -/
def State.fwActivate (s : State) : State :=
  let slot := s.inactiveSlot
  if !s.slotValid slot || s.slotSvn slot < s.rd FW_STAT_SVN_FUSE then s.fwResult rcDependency
  else (s.set FW_STAT_NEXT slot).fwResult rcOk

/-- Advances the anti-rollback counter to the running image's SVN; images below it become invalid (spec 18 R395). -/
def State.advanceSvn (s : State) : State :=
  let s := s.set FW_STAT_SVN_FUSE (max (s.rd FW_STAT_SVN_FUSE) (min (s.slotSvn (s.rd FW_STAT_ACTIVE)) 64))
  [0, 1].foldl (fun s k => if s.slotSvn k < s.rd FW_STAT_SVN_FUSE then s.set (validField k) 0 else s) s

/-- OP = COMMIT_SVN (spec 18 R395): only an image that has booted to READY (DESIGN CHOICE of the reason, assumption log 28). -/
def State.fwCommitSvn (s : State) : State :=
  if s.flag RST_STAT_READY then s.advanceSvn.fwResult rcOk else s.fwResult rcDependency

/-- FW_CTL.GO is written with 1 (spec 18 R396 to R398). -/
def State.fwGo (s : State) (op : Nat) : State :=
  if s.flag FW_STAT_BUSY then s.fwResult rcExhausted
  else match op with
    | 1 => s.fwStage
    | 2 => s.fwActivate
    | 3 => s.fwCommitSvn
    | _ => s.fwResult rcFieldRange

/-- A running STAGE ends: the code of the failed check, or 0 and the image's SVN and settings format (spec 18 R394, R396). -/
def State.fwStageDone (s : State) (code svn major minor : Nat) : State :=
  if !s.flag FW_STAT_BUSY then s
  else
    let s := (s.set FW_STAT_BUSY 0).set FW_CTL_GO 0
    if code != 0 then s.fwResult code
    else if svn < s.rd FW_STAT_SVN_FUSE then s.fwResult 0x0505
    else
      let k := s.inactiveSlot
      let s := s.mapFw (fun f => { f with svn := Tbl.put f.svn k svn, fmt := Tbl.put f.fmt k (major, minor) })
      (s.set (validField k) 1).fwResult rcOk

/-- A STAGE that a reset or a loss of power ends: its slot stays invalid (spec 18 R398). -/
def State.stageLost (s : State) : State := (s.set FW_STAT_BUSY 0).set FW_CTL_GO 0

/-! ### Settings (spec 21 R434) -/

/-- Registers whose RW and RWL fields a save leaves out: ring HEAD and TAIL indices, PMON counters and the registers PMON_IDX
banks, the tuck registers (retained, no configuration), CTX_PREF_LO and CTX_PREF_HI. -/
def unsaved (addr : Nat) : Bool :=
  addr == 0xB128 || addr == 0x131B4 || addr == 0x131B8 || (0x13800 ≤ addr && addr < 0x14000)
    || (0x13108 ≤ addr && addr ≤ 0x13120)
    || (0x2801A0 ≤ addr && addr ≤ 0x2801FF)
    || (0x1000000 ≤ addr && addr < 0x2000000 && (addr % 0x1000 == 0x184 || addr % 0x1000 == 0x188))

/-- The bits of a field. -/
def Fld.mask (f : Fld) : Nat := (2 ^ (f.hi + 1 - f.lo) - 1) <<< f.lo

/-- The bits of the fields of some types. -/
def maskOf (fs : List Fld) (p : FTy → Bool) : Nat := fs.foldl (fun a f => if p f.ty then a ||| f.mask else a) 0

/-- The savable bits of a register. -/
def savableMask (addr : Nat) : Nat :=
  if unsaved addr then 0
  else match regAt addr with
    | none => 0
    | some r => maskOf r.2.flds (fun t => t == .rw || t == .rwl)

/-- Where a save keeps banked register k of counter i. -/
def bankedKey (i k : Nat) : Nat := 0x4000000 + 8 * i + k

/-- What a save taken now holds. -/
def State.settingsNow (s : State) : Settings :=
  let own := s.regs.filterMap (fun (r : Nat × Word) =>
    let m := savableMask r.1
    let v := r.2.toNat &&& m
    if v == regReset r.1 &&& m then none else some (r.1, BitVec.ofNat 32 v))
  let banked := s.pmon.cfg.flatMap (fun (c : Nat × List Word) =>
    (List.range 7).filterMap (fun k =>
      let v := (c.2[k]?).getD 0
      if v == (pmonCfgReset[k]?).getD 0 then none else some (bankedKey c.1 k, v)))
  { regs := own ++ banked, qos := s.qos, fmt := s.slotFmt (s.rd FW_STAT_ACTIVE) }

/-- DEV_STATUS.UNSAVED: a savable field differs from the saved settings. -/
def State.settingsUnsaved (s : State) : Bool :=
  let n := s.settingsNow
  n.regs != s.fw.saved.regs || n.qos != s.fw.saved.qos

/-- DEV_SAVE.GO: a save starts, or one further save is booked (R434). -/
def State.settingsGo (s : State) : State :=
  let n := s.settingsNow
  if !s.flag DEV_SAVE_BUSY then ((s.set DEV_SAVE_GO 1).set DEV_SAVE_BUSY 1).mapFw (fun f => { f with snap := some n })
  else if s.fw.booked.isSome then s
  else s.mapFw (fun f => { f with booked := some n })

/-- A save ends (R434): the newer copy is the one just written, or the older copy stands. -/
def State.settingsDone (s : State) (ok : Bool) : State :=
  match s.fw.snap with
  | none => s
  | some n =>
    let s := if ok then s.mapFw (fun f => { f with saved := n }) else s.set DEV_SAVE_FAILED 1
    let next := s.fw.booked
    let s := s.mapFw (fun f => { f with snap := next, booked := none })
    if next.isSome then s else (s.set DEV_SAVE_BUSY 0).set DEV_SAVE_GO 0

/-- How the firmware takes the saved settings at step 7 (spec 18 R401): none where the major format differs. -/
def Settings.forFmt (t : Settings) (fmt : Nat × Nat) : Option Settings := if t.fmt.1 = fmt.1 then some t else none

end Sys2Proof.Machine
end

