-- ==== Sys2Proof/Machine/Pmon.lean ====
section
/-! DEFINITION. Performance monitoring (spec 19): the event list, counter registers, and the sampler with its ring. -/

namespace Sys2Proof.Machine

/-- Changes the counters' and sampler's own state. -/
def State.mapPmon (s : State) (f : PmonSt → PmonSt) : State := { s with pmon := f s.pmon }

/-- How many events of the list a block type has, by block code (spec 19 R412). -/
def eventCount : Nat → Nat
  | 0x03 => 2 | 0x07 => 1 | 0x08 => 2 | 0x09 => 2 | 0x0A => 10 | 0x0B => 2 | 0x0C => 2 | 0x0D => 4 | 0x0E => 8 | 0x0F => 2
  | 0x10 => 2 | 0x11 => 2 | 0x12 => 6 | 0x14 => 2 | 0x20 => 9 | 0x21 => 6 | 0x22 => 6 | 0x23 => 3 | 0x24 => 2 | 0x30 => 6
  | _ => 0

/-- Whether the event list holds a combination of BLOCK and EVENT (spec 19 R405, R412). -/
def eventListed (blk ev : Nat) : Bool := 1 ≤ ev && ev ≤ eventCount blk

/-- Whether the list marks an event X (spec 19 R411, R412). -/
def eventX (blk ev : Nat) : Bool :=
  match blk with
  | 0x0A => ev == 1 || ev == 4
  | 0x0B => ev == 1
  | 0x0D => ev == 1
  | 0x0F => ev == 1 || ev == 2
  | 0x10 => ev == 2
  | 0x20 => ev == 3 || ev == 9
  | 0x21 => ev == 1 || ev == 2 || ev == 3
  | 0x22 => ev == 1 || ev == 2
  | 0x30 => 1 ≤ ev && ev ≤ 6
  | _ => false

/-- Whether PMON_CFG may take a value: its event is listed, or none is named (assumption log 29). -/
def pmonCfgOk (v : Nat) : Bool := eventListed (bits v 31 24) (bits v 23 16) || bits v 31 16 == 0

/-- Whether CTX_VCFG may take a value (spec 19 R411, assumption log 29). -/
def vcfgOk (v : Nat) : Bool := eventX (bits v 15 8) (bits v 7 0) || bits v 15 0 == 0

/-- The registers 0x108 to 0x120 of a counter. -/
def State.pmonCfg (s : State) (i : Nat) : List Word := Tbl.get s.pmon.cfg i pmonCfgReset

/-- Sets register k of counter i's bank. -/
def State.setPmonCfg (s : State) (i k v : Nat) : State :=
  s.mapPmon (fun m =>
    { m with cfg := Tbl.putD m.cfg i pmonCfgReset ((Tbl.get m.cfg i pmonCfgReset).set k (BitVec.ofNat 32 v)) })

/-- A write of PMON_CNT_LO stages its value (spec 19 R404). -/
def State.stageCount (s : State) (i v : Nat) : State :=
  s.mapPmon (fun m => { m with stagedLo := Tbl.put m.stagedLo i (BitVec.ofNat 32 v) })

/-- A write of PMON_CNT_HI loads all 48 bits (spec 19 R404): with nothing staged, the low half is the count's own. -/
def State.loadCount (s : State) (i hi : Nat) : State :=
  s.mapPmon (fun m =>
    let lo := (Tbl.get m.stagedLo i (BitVec.ofNat 32 (Tbl.get m.cnt i 0))).toNat
    { m with
      cnt := Tbl.putD m.cnt i 0 (lo + 2 ^ 32 * (hi % 2 ^ 16))
      stagedLo := Tbl.del m.stagedLo i })

/-- PMON_CTL.CLEAR_ALL: all counters and PMON_OVF are zero (spec 19, PMON registers). -/
def State.clearAll (s : State) : State :=
  let s := s.mapPmon (fun m => { m with cnt := [], stagedLo := [] })
  (List.range 8).foldl (fun s i => s.set PMON_OVF_OVF 0 0 i) s

/-! ### Sampling (spec 19 R408 to R410) -/

/-- A step of the sampler's register: x^32 + x^22 + x^2 + x + 1, shifted to the left (DEDUCED, assumption log 30). -/
def lfsrStep (v : Word) : Word :=
  let b := v.getLsbD 31 ^^ v.getLsbD 21 ^^ v.getLsbD 1 ^^ v.getLsbD 0
  (v <<< 1) ||| (if b then 1 else 0)

/-- The sampler loads its register at enable. -/
def State.loadSeed (s : State) : State :=
  s.mapPmon (fun m => { m with lfsr := BitVec.ofNat 32 (s.rd PMON_SMP_SEED_SEED) })

/-- Whether the sampler considers items of a kind. -/
def State.sampling (s : State) (kind : Nat) : Bool :=
  s.enabled .pmon && s.flag PMON_SMP_CTL_EN && s.rd PMON_SMP_CTL_KIND == kind

/-- Whether an item is a candidate: it passes the filters of counter FLT. -/
def State.candidate (s : State) (kind : Nat) (o : Occ) : Bool :=
  s.sampling kind && pmonFilters (s.pmonCfg (s.rd PMON_SMP_CTL_FLT)) o

/-- A candidate steps the register; where the low N bits are all 0 it is to be tagged, or counted in MISSED while 64 are in flight
(spec 19 R408). -/
def State.selects (s : State) : State × Bool :=
  let v := lfsrStep s.pmon.lfsr
  let s := s.mapPmon (fun m => { m with lfsr := v })
  if v.toNat % 2 ^ s.rd PMON_SMP_CTL_N != 0 then (s, false)
  else if 64 ≤ s.pmon.tagged.length then (s.addSat PMON_SMP_STAT_MISSED, false)
  else (s, true)

/-- Considers a candidate, tagged under a key with what its record starts with. -/
def State.consider (s : State) (key base : Nat) : State :=
  match s.selects with
  | (s, true) => s.mapPmon (fun m => { m with tagged := Tbl.put m.tagged key base })
  | (s, false) => s

/-- Start of a record: KIND, CLASS, CTX, MASTER, PORT, OPC, ADDR (spec 19 R409). -/
def sampleBase (kind cls ctx master port opc addr : Nat) : Nat :=
  kind + cls * 2 ^ 2 + (ctx % 2 ^ 12) * 2 ^ 16 + (master % 2 ^ 16) * 2 ^ 32 + (port % 2 ^ 8) * 2 ^ 48 + (opc % 2 ^ 8) * 2 ^ 56
    + (addr % 2 ^ 48) * 2 ^ 64

/-- The whole record as a number, SPEC included: the time of its first point is CLK_TS, the delays between points are free (assumption log 31),
points not reached or not enabled read 0xFFFFFFFF. -/
def State.sampleRecord (s : State) (base status spec reached : Nat) : Nat × State :=
  let pts := s.rd PMON_SMP_CTL_POINTS &&& reached
  let head := base + pts * 2 ^ 8 + status * 2 ^ 112 + spec * 2 ^ 120 + s.ts.toNat * 2 ^ 128
  (List.range 8).foldl (fun (a : Nat × State) p =>
    if bit pts p then
      if pts % 2 ^ p == 0 then a
      else
        let f := a.2.fresh
        (a.1 + f.1 % (2 ^ 32 - 1) * 2 ^ (192 + 32 * p), f.2)
    else (a.1 + (2 ^ 32 - 1) * 2 ^ (192 + 32 * p), a.2)) (head, s)

/-- Writes a record at HEAD, or drops it while the ring is full or its write would be denied (spec 19 R410). -/
def State.writeSample (s : State) (w : Nat) : State :=
  let size := 2 ^ s.rd PMON_RING_SIZE_LOG2
  let head := s.rd PMON_RING_HEAD_HEAD
  let a := s.rd PMON_RING_LO_BASE + 2 ^ 32 * s.rd PMON_RING_HI_BASE + 64 * head
  let next := (head + 1) % size
  let e := s.map.cur.extent (a / 2 ^ 30)
  if next == s.rd PMON_RING_TAIL_TAIL % size || !exValid e || !s.enabled .home then s.dropSample
  else
    let s := s.set PMON_RING_HEAD_HEAD next
    s.addTxn (.engine 4) (.write (BitVec.ofNat 512 w) fullMask false) (a / 64) s.epoch

/-- A tagged item ends with a status. -/
def State.endSample (s : State) (key status reached : Nat) : State :=
  match Tbl.get? s.pmon.tagged key with
  | none => s
  | some base =>
    let spec := Tbl.get s.pmon.specOf key 0
    let s := s.mapPmon (fun m => { m with tagged := Tbl.del m.tagged key, specOf := Tbl.del m.specOf key })
    let r := s.sampleRecord base status spec reached
    r.2.writeSample r.1

/-- Key of a tagged descriptor by its procedure. -/
def procKey (x id idx : Nat) : Nat := 2 ^ 24 + (x * 2 ^ 32 + id % 2 ^ 32) * 2 ^ 16 + idx

/-- A request as a candidate: port, tag, opcode, class, and the address it names (spec 19 R406, R408; CXL opcodes PRESUMED,
assumption log 32). -/
def sampleReq : Instr → Option (Nat × BitVec 16 × Nat × Nat × Nat)
  | .rd p h => some (p.val, h.tag, 0x01, 0, h.arg.toNat)
  | .wr p h _ => some (p.val, h.tag, 0x02, 1, h.arg.toNat)
  | .wrMask p h _ _ => some (p.val, h.tag, 0x03, 1, h.arg.toNat)
  | .atom p h _ => some (p.val, h.tag, 0x08, 2, h.arg.toNat)
  | .publish p h _ | .openReq p h _ | .close p h _ | .replReq p h _ => some (p.val, h.tag, 0x0C, 1, 0)
  | .trigger .yd p h _ _ => some (p.val, h.tag, 0x10, 4, h.arg.toNat)
  | .coll p h _ => some (p.val, h.tag, 0x18, 5, 0)
  | .memRd p tag a _ _ => some (p.val, tag, 0x01, 0, a.toNat)
  | .memInv p tag a _ => some (p.val, tag, 0x00, 0, a.toNat)
  | .memWr p tag a _ _ _ _ _ => some (p.val, tag, 0x01, 1, a.toNat)
  | .trigger .cxlMem p h _ _ => some (p.val, h.tag, 0x01, 4, h.arg.toNat)
  | .cxlIoMemRd p tag a _ _ => some (p.val, tag, 0x20, 0, a.toNat)
  | .atomicOp p tag a _ _ _ _ _ => some (p.val, tag, 0x6C, 2, a.toNat)
  | _ => none

/-- A posted write as a candidate: port, class and address. -/
def samplePosted : Instr → Option (Nat × Nat × Nat)
  | .cxlIoMemWr p a _ _ _ => some (p.val, 1, a.toNat)
  | .trigger .cxlIo p h _ _ => some (p.val, 4, h.arg.toNat)
  | .collWindowWrite p _ _ _ _ _ => some (p.val, 5, 0)
  | _ => none

/-- A request of a port and what its record starts with, where the sampler considers it. -/
def State.sampleItem (s : State) (c : Instr) (p opc cls a : Nat) : Option Nat :=
  let b := s.map.cur.bind p
  let m : Nat × Nat := match cmdSrc c with
    | some f => (2, f.toNat)
    | none => (1, bdPbr b)
  let o : Occ := { blk := .port, code := 0, inst := p, master := some m, addr := some a, cls := some cls, tenant := bdValid b }
  if s.candidate 0 o then some (sampleBase 1 cls 0 m.2 p opc a) else none

/-- A request enters a port: a candidate where sampling considers requests (spec 19 R408). A posted write gets no answer: its item ends
where it is ordered or routed, at P2 (DESIGN CHOICE, assumption log 31). -/
def State.sampleRequest (s : State) (c : Instr) : State :=
  match sampleReq c with
  | some (p, tag, opc, cls, a) => ((s.sampleItem c p opc cls a).map (s.consider (reqKey p tag))).getD s
  | none =>
    match (samplePosted c).bind (fun q => s.sampleItem c q.1 0x60 q.2.1 q.2.2) with
    | none => s
    | some base =>
      match s.selects with
      | (s, true) => let r := s.sampleRecord base 0 0 0x07; r.2.writeSample r.1
      | (s, false) => s

/-- The status a message answers a request of its port with, by tag. -/
def sampleAnswer (tag : BitVec 16) : Msg → Option Nat
  | .yd opc h _ =>
    let o := opc.toNat
    if h.tag == tag && (o == 0x05 || o == 0x06 || o == 0x09 || o == 0x0D || o == 0x19) then some (bits h.arg.toNat 7 0) else none
  | .memData t _ poison => if t == tag then some (if poison then stPoisoned.toNat else 0) else none
  | .memCmp t _ => if t == tag then some 0 else none
  | .ioCpl t st _ poison =>
    if t == tag then some (if st != 0 then stDenied.toNat else if poison then stPoisoned.toNat else 0) else none
  | _ => none

/-- Ends the tagged items whose answer waits at their port, and the descriptors that no longer run (spec 19 R409). -/
def State.endSamples (s : State) : State :=
  s.pmon.tagged.foldl (fun s (t : Nat × Nat) =>
    if t.1 < 2 ^ 24 then
      match (s.port (t.1 / 65536)).egress.findSome? (fun q => sampleAnswer (BitVec.ofNat 16 (t.1 % 65536)) q.msg) with
      | some st => s.endSample t.1 st 0xFF
      | none => s
    else
      let k := t.1 - 2 ^ 24
      let idx := k % 2 ^ 16
      let id := k / 2 ^ 16 % 2 ^ 32
      match s.proc (k / 2 ^ 48) id with
      | none => s.endSample t.1 0 0xFF
      | some p =>
        if p.idx != idx then s.endSample t.1 0 0x3F
        else if p.phase == .ending || p.ended then s.endSample t.1 p.status.toNat 0xFF
        else s) s

/-- A descriptor starts on a core: a candidate where sampling considers descriptors (spec 19 R408). -/
def State.sampleDesc (s : State) (c : Nat) : State :=
  match s.procOn c with
  | none => s
  | some (x, p) =>
    let o : Occ := { blk := .core, code := 0, inst := c, master := some (3, x), cls := some 4, ctx := some x }
    if s.candidate 1 o then
      s.consider (procKey x p.id p.idx) (sampleBase 2 4 x 0 0xFF (dOpc p.desc) (trChain p.trig + 64 * p.idx))
    else s

end Sys2Proof.Machine
end

