-- ==== Sys2Proof/Machine/Pages.lean ====
section
/-! DEFINITION. Register pages: dependencies, the consistency check of an enable, disable, quiesce and soft reset (spec 01 R19,
R20, 16 R372, 20 R418 to R425). -/

namespace Sys2Proof.Machine

/-! ### Dependencies (spec 01 R19) -/

/-- The pages a page requires enabled (spec 01 R19). -/
def State.requires (s : State) (g : Page) : List Page :=
  match g.blk with
  | .home => [⟨.map, 0⟩] ++ (List.range 8).map (fun i => ⟨.hbm, i⟩) ++ [⟨.keys, 0⟩]
  | .repl | .pub | .tier => [⟨.home, 0⟩]
  | .pref => [⟨.tier, 0⟩]
  | .atom => [⟨.home, 0⟩, ⟨.live, 0⟩]
  | .core => [⟨.cmpr, 0⟩, ⟨.keys, 0⟩, ⟨.home, 0⟩]
  | .filt => [⟨.core, g.inst⟩]
  | .coll => [⟨.live, 0⟩]
  | .ctx => ⟨.qos, 0⟩ :: (s.coresOf (s.rd CTX_BIND_SLICE g.inst)).map (fun c => ⟨.core, c⟩)
  | .dev | .clk | .pwr | .rst | .fw | .pocket | .sec | .live | .map | .cmpr | .keys | .qos | .pmon | .win | .port | .hbm
  | .cdie | .pdie => []

/-- Whether a page depends on another, directly or through others (the table's chains have at most three links). -/
def State.dependsOn (s : State) : Nat → Page → Page → Bool
  | 0, _, _ => false
  | n + 1, g, t => (s.requires g).any (fun r => r == t || s.dependsOn n r t)

/-- The place of a block in the reverse of the dependency order (spec 01 R20). -/
def disableRank : Block → Nat
  | .ctx => 0 | .coll => 1 | .filt => 2 | .core => 3 | .atom => 4 | .pref => 5 | .tier => 6 | .pub => 7 | .repl => 8
  | .home => 9 | _ => 10

/-- The pages that are enabled, those always enabled aside. -/
def State.enabledPages (s : State) : List Page :=
  s.regs.filterMap (fun (r : Nat × Word) =>
    match pageOf r.1 with
    | some g => if r.1 % 0x1000 = 0x00C && !alwaysOn g.blk && s.enabled g.blk g.inst then some g else none
    | none => none)

/-- The enabled pages that depend on a page, in the order in which they are disabled (spec 01 R20). -/
def State.dependents (s : State) (g : Page) : List Page :=
  sortBy (fun a b => disableRank a.blk < disableRank b.blk) (s.enabledPages.filter (fun p => s.dependsOn 4 p g))

/-! ### What keeps a page busy (spec 20 R422) -/

/-- A consistency check runs. -/
def State.checking (s : State) (g : Page) : Bool :=
  s.hrd g PG_CTL_ENABLE == 1 && s.hrd g PG_STAT_ENABLED == 0 && s.hrd g PG_STAT_BUSY == 1

/-- A soft reset runs. -/
def State.resetting (s : State) (g : Page) : Bool := s.hrd g PG_CTL_SOFT_RESET == 1

/-- Every write to the page other than to PG_ERR is held. -/
def State.holdsWrites (s : State) (g : Page) : Bool := s.checking g || s.resetting g

/-- A command runs on the page. -/
def State.commanding (s : State) (g : Page) : Bool :=
  match g.blk with
  | .fw => s.flag FW_STAT_BUSY
  | .dev => s.flag DEV_SAVE_BUSY
  | .sec => s.flag SEC_BATCH_CMD_GO
  | .map => s.flag MAP_COMMIT_COMMIT
  | .tier => s.flag TIER_REBUILD_STAT_BUSY
  | _ => false

/-- PG_STAT.BUSY. -/
def State.pageBusy (s : State) (g : Page) : Bool := s.hrd g PG_STAT_BUSY == 1 || s.commanding g

/-! ### Grounds of the consistency check -/

/-- A ground: the offset of the field it is charged to, 0x008 where it concerns no field of the page, and its code. -/
abbrev Ground := Nat × Nat

/-- The grounds that hold, of a list with their conditions. -/
def grounds (l : List (Bool × Ground)) : List Ground := l.filterMap (fun g => if g.1 then some g.2 else none)

/-- The ground PG_REASON reports: those that concern no field first, then the lowest offset, then the lowest code (spec 20
R421). -/
def firstGround : List Ground → Option Ground
  | [] => none
  | g :: t =>
    match firstGround t with
    | none => some g
    | some h => if h.1 < g.1 || (h.1 = g.1 && h.2 < g.2) then some h else some g

/-- Grounds against a PORT page (spec 02 R25, R28; a port whose die is not calibrated, spec 16 R376): lanes of an enabled neighbour
are those of the native port beside it and of both upper halves. -/
def State.portGrounds (s : State) (n : Nat) : List Ground :=
  let w := s.rd PORT_CFG_WIDTH n
  let under (m : Nat) : Bool := m % 2 == 1 && s.enabled .port (m - 1) && s.rd PORT_CFG_WIDTH (m - 1) == 1
  let taken := if n < 128 then
      under n || (w != 2 && s.enabled .port (n + 128))
        || (n % 2 == 0 && w == 1 && (s.enabled .port (n + 1) || s.enabled .port (n + 129)))
    else s.rd PORT_CFG_WIDTH (n - 128) != 2 || under (n - 128)
  let r := s.role n
  grounds [
    (!s.enabled .pdie (n % 128 / 16), (0x008, rcDependency)),
    ((w == 1 && (n % 2 == 1 || 128 ≤ n)) || (w != 0 && 128 ≤ n) || s.rd PORT_CFG_MAX_RATE n == 3 || w == 3, (0x100, rcFieldRange)),
    (taken, (0x100, rcOverlap)),
    (r == .mgmt && allPorts.any (fun p => p != n && s.enabled .port p && s.role p == .mgmt), (0x100, rcExhausted)),
    ((r == .mgmt && w == 1) || (s.flag PORT_CFG_POD_EDGE n && r != .trunk), (0x100, rcRole)),
    (!s.flag PORT_CFG_IDE_REQ n && (r == .leaf || r == .tray) && s.profile == profileU, (0x100, rcProfile))]

/-- A size-map copy's range on its tray port. -/
def State.smapRange (s : State) (port off : BlockField) : Option (Nat × Nat × Nat) :=
  let p := s.rd port
  let o := s.rd off
  if p = 0xFF || s.rd CMPR_SMAP_SIZE_GIB = 0 then none
  else some (p, o * 2 ^ 30, (o + s.rd CMPR_SMAP_SIZE_GIB) * 2 ^ 30)

/-- Grounds against the CMPR page (spec 07 R180). -/
def State.cmprGrounds (s : State) : List Ground :=
  let a := s.rd CMPR_SMAP_A_PORT
  let b := s.rd CMPR_SMAP_B_PORT
  let meets := match s.smapRange CMPR_SMAP_A_PORT CMPR_SMAP_A_OFFSET_GIB, s.smapRange CMPR_SMAP_B_PORT CMPR_SMAP_B_OFFSET_GIB with
    | some x, some y => rangesMeet x y
    | _, _ => false
  grounds [
    (a != 0xFF && s.role a != .tray, (0x104, rcRole)),
    (b != 0xFF && s.role b != .tray, (0x108, rcRole)),
    ((0 < s.rd CMPR_SMAP_SIZE_GIB || b != 0xFF) && a == 0xFF, (0x104, rcFieldRange)),
    (meets, (0x104, rcOverlap))]

/-- Ranges of the frame store and the page-table area with the offset of the register that places each. -/
def State.tierPlaced (s : State) : List (Nat × Nat × Nat × Nat) :=
  let pt := s.rd TIER_PT_PORT
  let o := s.rd TIER_PT_OFFSET_GIB
  (if pt = 0xFF then [] else [(0x110, pt, o * 2 ^ 30, (o + 32) * 2 ^ 30)]) ++
    s.areas.map (fun a =>
      let f := s.rd TIER_AREA_W0_OFFSET_GIB 0 a.1
      (0x180 + 8 * a.1, a.2.1, f * 2 ^ 30, f * 2 ^ 30 + a.2.2.2 * 4096))

/-- Grounds against the TIER page (spec 06 R154, 07 R180). Port 0xFF names none: it is refused for T4 where a policy uses T4. -/
def State.tierGrounds (s : State) : List Ground :=
  let rs := s.tierPlaced
  let smap := (s.smapRange CMPR_SMAP_A_PORT CMPR_SMAP_A_OFFSET_GIB).toList
    ++ (s.smapRange CMPR_SMAP_B_PORT CMPR_SMAP_B_OFFSET_GIB).toList
  let beyond := rs.filterMap (fun r =>
    if rs.any (fun q => q.1 != r.1 && rangesMeet q.2 r.2) || smap.any (fun q => rangesMeet q r.2) then some (r.1, rcOverlap)
    else none)
  let named : List (Nat × Nat) := (0x110, s.rd TIER_PT_PORT) :: (List.range 16).map (fun a => (0x180 + 8 * a, s.rd TIER_AREA_W0_PORT 0 a))
  let roles := named.filterMap (fun r => if r.2 != 0xFF && s.role r.2 != .tray then some (r.1, rcRole) else none)
  let uses := s.rd TIER_T4_CFG_SIZE_GIB != 0 && (List.range 16).any (fun k => s.rd TIER_POL_A_T4_EN 0 k == 1)
  let t4 := s.rd TIER_T4_CFG_PORT
  let pols := (List.range 16).flatMap (fun k => grounds [
    ((s.rd TIER_POL_A_PAGED 0 k == 1 && s.rd TIER_PT_PORT == 0xFF), (0x110, rcDependency)),
    ((s.rd TIER_POL_A_T3_EN 0 k == 1 && s.areas.isEmpty), (0x180, rcDependency)),
    ((s.rd TIER_POL_A_T4_EN 0 k == 1 && s.rd TIER_T4_CFG_SIZE_GIB == 0), (0x11C, rcDependency))])
  beyond ++ roles ++ pols ++ grounds [
    (if t4 == 0xFF then uses else !(s.role t4 == .leaf || s.role t4 == .mgmt), (0x11C, rcRole)),
    (s.rd TIER_T4_BASE_LO_BASE % 65536 != 0, (0x114, rcAlign))]

/-- Whether the sampling ring lies wholly in VALID extents with CMPR = 0 (spec 19 R413). -/
def State.ringPlaced (s : State) : Bool :=
  let base := s.rd PMON_RING_LO_BASE + 2 ^ 32 * s.rd PMON_RING_HI_BASE
  let last := base + 64 * 2 ^ s.rd PMON_RING_SIZE_LOG2 - 1
  (List.range (last / 2 ^ 30 - base / 2 ^ 30 + 1)).all (fun i =>
    let e := s.map.cur.extent (base / 2 ^ 30 + i)
    exValid e && !exCmpr e)

/-- Grounds against the PMON page (spec 19 R413). -/
def State.pmonGrounds (s : State) : List Ground :=
  grounds [
    (s.rd PMON_RING_LO_BASE % 4096 != 0, (0x1A8, rcAlign)),
    (s.flag PMON_SMP_CTL_EN && !s.ringPlaced, (0x1A0, rcFieldRange))]

/-- Grounds against a CTX page (spec 14 R317). -/
def State.ctxGrounds (s : State) (x : Nat) : List Ground :=
  let e := s.map.cur.slice (s.rd CTX_BIND_SLICE x)
  grounds [
    (s.profile == 0, (0x008, rcProfile)),
    (s.ctxState x == ctxFree, (0x108, rcDependency)),
    (s.ctxState x == ctxRetiring, (0x108, rcLocked)),
    (!slValid e || slTenant e != s.rd CTX_BIND_TENANT x, (0x100, rcRole))]

/-- Grounds against a FILT page (spec 12 R301, R303). -/
def State.filtGrounds (s : State) (c : Nat) : List Ground :=
  let first := s.rd FILT_CASC_FIRST c
  let count := s.rd FILT_CASC_COUNT c
  let mine := s.sliceOfCore c
  grounds [
    (s.tuckState == tuckHeld, (0x008, rcMoving)),
    (127 < first + count || c < first || first + count < c, (0x104, rcFieldRange)),
    ((List.range (count + 1)).any (fun i => s.sliceOfCore (first + i) != mine), (0x104, rcRole)),
    (c == 0 && s.rd FILT_CHAIN_LEN < s.rd FILT_CHAIN_POS, (0x180, rcFieldRange)),
    (c == 0 && s.flag FILT_CHAIN_EN &&
      (List.range (s.rd FILT_CHAIN_LEN + 1)).any (fun p => p != s.chainPos && !s.chainLink p), (0x180, rcDependency))]

/-- Grounds of a page's own rules. -/
def State.ownGrounds (s : State) (g : Page) (selfTestOk : Bool) : List Ground :=
  match g.blk with
  | .port => s.portGrounds g.inst
  | .cmpr => s.cmprGrounds
  | .tier => s.tierGrounds
  | .pmon => s.pmonGrounds
  | .ctx => s.ctxGrounds g.inst
  | .filt => s.filtGrounds g.inst
  | .core => grounds [(!selfTestOk, (0x008, 0x2101))]
  | .repl => grounds [(s.enabled .tier && 524 < s.rd REPL_CAP_GIB + s.rd TIER_NEAR_GIB, (0x104, rcExhausted))]
  | .pub => grounds [(s.rd PUB_RING_LO_BASE % 4096 != 0, (0x118, rcAlign))]
  | .hbm => grounds [(!s.flag HBM_STAT_TRAINED g.inst || s.flag HBM_STAT_FAILED g.inst, (0x008, 0x2301))]
  | .pdie => grounds [(!s.flag PDIE_STAT_CALIBRATED g.inst, (0x008, 0x2501))]
  | .dev | .clk | .pwr | .rst | .fw | .pocket | .sec | .live | .map | .home | .atom | .pref | .keys | .coll | .qos | .cdie
  | .win => []

/-- Why a page's enable is refused (spec 20 R421): none where it passes. -/
def State.enableReason (s : State) (g : Page) (selfTestOk : Bool) : Option Ground :=
  firstGround (grounds [((s.requires g).any (fun r => !s.enabled r.blk r.inst), (0x008, rcDependency))] ++ s.ownGrounds g selfTestOk)

/-! ### Enable, disable, quiesce -/

/-- PG_CTL.ENABLE is written with 1 (spec 20 R421): the check starts; nothing on an enabled page. -/
def State.startEnable (s : State) (g : Page) : State :=
  if s.enabled g.blk g.inst || s.checking g then s
  else (s.hset g PG_CTL_ENABLE 1).hset g PG_STAT_BUSY 1

/-- What a block does when it has been enabled: a core leaves its fence where a SOFT_RESET came first (spec 08 R204), TIER fixes the
size of the near tier (spec 06 R130), FILT has scrubbed its unit's table (spec 12 R302), and its core stands no deeper than C3 (08
R206; DEDUCED, assumption log 187). -/
def State.onEnable (old s : State) (g : Page) : State :=
  match g.blk with
  | .live => s.startJoin
  | .qos => State.qosSwitched old s
  | .pmon => if s.flag PMON_SMP_CTL_EN then s.loadSeed else s
  | .core =>
    if s.procs.unfence.contains g.inst then
      let s := s.set CORE_STAT_FENCED 0 g.inst
      { s with procs := { s.procs with unfence := setDel s.procs.unfence g.inst } }
    else s
  | .ctx => s.loseCores g.inst
  | .tier => s.set TIER_NEAR_GIB (524 - s.rd REPL_CAP_GIB)
  | .filt =>
    let s := (s.scrubPass g.inst).mapFilt (fun f => { f with fenced := setDel f.fenced g.inst })
    if s.rd CORE_STAT_PSTATE g.inst = 4 then s.set CORE_STAT_PSTATE 3 g.inst else s
  | _ => s

/-- The consistency check ends (spec 20 R421). -/
def State.endEnable (s : State) (g : Page) (selfTestOk : Bool) : State :=
  if !s.checking g then s
  else
    match s.enableReason g selfTestOk with
    | none =>
      let s' := (((s.hset g PG_STAT_BUSY 0).hset g PG_STAT_ENABLED 1).hset g PG_STAT_QUIESCED 0).hset g PG_REASON_CODE 0
      State.onEnable s (s'.hset g PG_REASON_OFFSET 0) g
    | some (off, code) =>
      let s := ((s.hset g PG_STAT_BUSY 0).hset g PG_CTL_ENABLE 0).err g 3
      (s.hset g PG_REASON_CODE code).hset g PG_REASON_OFFSET off

/-- What a block does when it has been disabled: a port's link goes down quiesced, open collectives end, buckets reset, the
procedures of a slice without cores end (spec 02 R35, R466, 11 R273, 13 R315, 08 R202). -/
def State.onDisable (old s : State) (g : Page) : State :=
  match g.blk with
  | .port => (s.linkDown g.inst).modPort g.inst (fun x => { x with ydDeclined := false, held := [], l1Wait := [], fences := [] })
  | .coll => s.collAbortAll
  | .qos => State.qosSwitched old s
  | .core => s.loseAll
  | _ => s

/-- Whether a page holds no admitted work. -/
def State.idle (s : State) (g : Page) : Bool :=
  match g.blk with
  | .home => s.home.txns.isEmpty
  | .map => !s.flag MAP_COMMIT_COMMIT && s.map.draining.isNone
  | .repl => s.home.repl.fills.isEmpty
  | .pub => s.pub.regions.all (fun (r : Nat × Region) => r.2.running.isNone)
  | .atom => s.home.txns.all (fun t => match t.acc with | .atomic _ _ _ _ _ _ _ => false | _ => true)
  | .tier => s.tier.moves.isEmpty && s.tier.wbs.isEmpty && s.tier.rebuild.isNone
  | .pref => s.tier.scheds.all (fun (c : Nat × Sched) => c.2.staging.isEmpty)
  | .coll => s.openOps == 0
  | .port =>
    let p := s.port g.inst
    !s.linked g.inst || p.egress.isEmpty && p.replay.isEmpty && s.home.txns.all (fun t => t.src.port != some g.inst)
  | .core => s.rd CORE_STAT_RUNNING g.inst == 0
  | .filt => s.filt.slots.isEmpty || g.inst != 0
  | .ctx => (s.procsOf g.inst).all (fun p => match p.phase with | .running _ | .saved | .replay => false | _ => true)
  | .fw | .sec => !s.commanding g
  | .dev | .clk | .pwr | .rst | .pocket | .live | .cmpr | .keys | .qos | .pmon | .hbm | .cdie | .pdie | .win => true

/-- Disables one page (spec 01 R20). -/
def State.disableOne (s : State) (g : Page) : State :=
  let s' := ((s.hset g PG_CTL_ENABLE 0).hset g PG_STAT_ENABLED 0).hset g PG_STAT_QUIESCED 1
  State.onDisable s s' g

/-- A page that a disable or soft reset quiesces has no admitted work left: a port's soft reset takes its link down, a disabled
page goes (spec 01 R20, 02 R466, 16 R371). -/
def State.close (s : State) (g : Page) : State :=
  let s := { s with closing := s.closing.filter (fun p => p != g) }
  let s := if g.blk = .port && s.hrd g PG_CTL_SOFT_RESET == 1 then s.portReset g.inst else s
  if s.hrd g PG_CTL_ENABLE == 0 then s.disableOne g else s

/-- Closes the closing pages that are idle, each after the pages that depend on it. -/
def State.closePass (s : State) : State :=
  s.closing.foldl
    (fun s g => if s.idle g && !(s.dependents g).any (fun p => s.closing.contains p) then s.close g else s) s

/-- A page starts to quiesce before it is disabled or reset. -/
def State.startClose (s : State) (g : Page) : State := { s with closing := if s.closing.contains g then s.closing else s.closing ++ [g] }

/-- Whether a disable would have to disable a locked page (spec 20 R423). -/
def State.disableLocked (s : State) (g : Page) : Bool := (s.dependents g).any (fun p => s.hrd p PG_CTL_LOCK == 1)

/-- PG_CTL.ENABLE is written with 0 (spec 01 R20, 20 R420, R423): the dependent blocks are quiesced and disabled first, then the
block. -/
def State.disable (s : State) (g : Page) : State :=
  if alwaysOn g.blk || !s.enabled g.blk g.inst then s
  else if s.disableLocked g then s.err g 0
  else ((s.dependents g ++ [g]).foldl (fun s p => (s.hset p PG_CTL_ENABLE 0).startClose p) s).closePass

/-- Blocks whose work cannot be held (spec 20 R419). -/
def ignoresQuiesce : Block → Bool
  | .dev | .clk | .pwr | .rst | .pocket => true
  | _ => false

/-- PG_CTL.QUIESCE is written (spec 20 R419, 17 R385). -/
def State.setQuiesce (s : State) (g : Page) (on : Bool) : State :=
  let was := s.hrd g PG_CTL_QUIESCE == 1
  let s := s.hset g PG_CTL_QUIESCE (b2n on)
  if ignoresQuiesce g.blk || on || !was then s
  else
    let s := if s.enabled g.blk g.inst then s.hset g PG_STAT_QUIESCED 0 else s
    if g.blk = .port then s.payOwed g.inst else s

/-- PG_STAT.QUIESCED becomes 1 when no admitted work remains (spec 20 R419). -/
def State.blockQuiesced (s : State) (g : Page) : State :=
  if s.hrd g PG_CTL_QUIESCE == 1 && !ignoresQuiesce g.blk && s.idle g then s.hset g PG_STAT_QUIESCED 1 else s

/-! ### Soft reset (spec 16 R371, R372) -/

/-- A FILT soft reset is refused while a tuck range includes the unit (spec 12 R301). -/
def State.resetRefused (s : State) (g : Page) : Bool :=
  g.blk == .filt && s.tuckState != tuckIdle && s.tuckUnits.contains g.inst

/-- PG_CTL.SOFT_RESET is written with 1: the block and those that depend on it are disabled, then the reset runs; a port keeps
its page enabled and retrains (R371). The bit that records a refused FILT reset is RANGE (assumption log 33). -/
def State.startReset (s : State) (g : Page) : State :=
  if s.resetting g then s
  else if s.resetRefused g then s.err g 1
  else if s.enabled g.blk g.inst && s.disableLocked g then s.err g 0
  else
    let s := if g.blk = .port then s else s.disable g
    let s := (s.hset g PG_CTL_SOFT_RESET 1).hset g PG_STAT_BUSY 1
    if g.blk = .port then (s.startClose g).closePass else s

/-- The transient state a soft reset loses; that a fenced core has been reset is noted (spec 08 R204), and the FILT entries it clears (R372, spec 12 R301, 21 R440). -/
def State.resetWork (s : State) (g : Page) : State :=
  match g.blk with
  | .port => s.setReg (PORT_INJ_TX_CRC.ref.at g) 0
  | .core =>
    let s := (s.set CORE_INJ_ARM 0 g.inst).set CORE_INJ_ARMED 0 g.inst
    if s.flag CORE_STAT_FENCED g.inst then { s with procs := { s.procs with unfence := setAdd s.procs.unfence g.inst } } else s
  | .hbm => s.setReg (HBM_INJ_CE.ref.at g) 0
  | .filt => { s with filt := { s.filt with cam := s.filt.cam.filter (fun e => e.1 / 16384 != g.inst)
                                            shadow := s.filt.shadow.filter (fun e => e.1 / 16384 != g.inst) } }
  | .fw => s.stageLost
  | .dev => ((s.set DEV_SAVE_GO 0).set DEV_SAVE_BUSY 0).mapFw (fun f => { f with snap := none, booked := none })
  | .sec => s.set SEC_BATCH_CMD_GO 0
  | .map => (s.set MAP_COMMIT_COMMIT 0).undoXfer
  | .tier => (s.set TIER_REBUILD_STAT_BUSY 0).set TIER_REBUILD_GO 0
  | .pmon => s.mapPmon (fun m => { m with tagged := [], specOf := [], stagedLo := [] })
  | _ => s

/-- The reset ends. -/
def State.endReset (s : State) (g : Page) : State :=
  if !s.resetting g || s.closing.contains g then s
  else
    let s := (s.resetWork g).setReg (PG_ERR_ERR.at g) 0
    (s.hset g PG_CTL_SOFT_RESET 0).hset g PG_STAT_BUSY 0

/-- PG_CTL is written (spec 20 R425): SOFT_RESET first, where the rest waits for its end; then ENABLE = 0, QUIESCE, ENABLE = 1,
and LOCK last. -/
def State.writeCtl (s : State) (g : Page) (v : Nat) : State :=
  let s := if bit v 0 then s else s.disable g
  let s := s.setQuiesce g (bit v 1)
  let s := if bit v 0 then s.startEnable g else s
  if bit v 31 then s.hset g PG_CTL_LOCK 1 else s

end Sys2Proof.Machine
end

