-- ==== Sys2Proof/Machine/Power.lean ====
section
/-! DEFINITION. Feeds, hold-up, the power cap, temperature, clocks, resets and start-up up to step 6 (spec 16, 18 R399, R400,
21 R442, R443). -/

namespace Sys2Proof.Machine

/-- Changes power, temperature and clock state. -/
def State.mapPower (s : State) (f : PowerSt → PowerSt) : State := { s with power := f s.power }

/-! ### Reset (spec 16 R371 to R374) -/

/-- Registers a DEV_RESET keeps: front end, RST_REASON, slots, Pocket values, fused values, LIVE_INCARN, tuck registers. -/
def keptByReset (a : Nat) : Bool :=
  a == 0x108 || a == 0x10C || a == 0x120 || a == 0x124 || a == 0x2100 || a == 0x210C || (0x2110 ≤ a && a ≤ 0x211C) || a == 0x3108
    || a == 0x4100 || (0x5100 ≤ a && a < 0x5130) || (0x5140 ≤ a && a < 0x6000) || a == 0x6100 || a == 0x7108
    || (0x2801A0 ≤ a && a ≤ 0x2801AC) || (0x2801C0 ≤ a && a ≤ 0x2801FF)

/-- Registers a POR keeps: slots, Pocket values and fused values. -/
def keptByPor (a : Nat) : Bool :=
  a == 0x108 || a == 0x10C || a == 0x120 || a == 0x124 || a == 0x4100 || (0x5100 ≤ a && a < 0x5130)
    || (0x5140 ≤ a && a < 0x6000) || a == 0x6100

/-- CTX_STAT of every context after a DEV_RESET: FREE, COOLING, the next GEN (spec 14 R334). -/
def State.resetCtxStat (s : State) : Tbl Word :=
  (List.range 4096).map (fun x =>
    (0x1000000 + x * 0x1000 + 0x108, BitVec.ofNat 32 (8 + 256 * nextGen (s.rd CTX_STAT_GEN x))))

/-- Extents with a dirty unit in T1: RST_DIRTY while the device runs (R373). -/
def State.dirtyExtents (s : State) : List Nat :=
  (s.tier.t1.filter (fun (p : Nat × T1Page) => p.2.dirty != 0)).foldl (fun l p => setAdd l (p.1 / 2 ^ 14)) []

/-- Bits of the Pocket page that a reset of the dies clears: ALIVE, DONE and DROPPED, as far as the Reset column says (spec 17). -/
def State.clearPocketPage (s : State) : State := ((s.set POCKET_STAT_ALIVE 0).set POCKET_DB_DONE 0).set POCKET_DB_DROPPED 0

/-- FW_STAT after a reset of the dies: the slots as they stand, no command and no result. -/
def State.clearFw (s : State) : State := ((s.set FW_STAT_BUSY 0).set FW_STAT_REVERTED 0).set FW_STAT_RESULT 0

/-- What a reset of the dies leaves of flash state: a running save or STAGE is lost, its slot invalid (spec 18 R398). -/
def FwSt.kept (f : FwSt) : FwSt := { f with snap := none, booked := none }

/-- Sets RST_REASON; DIRTY_LOST also sets its PG_ERR bit (spec 21 R444). -/
def State.resetReason (s : State) (cause : Nat) (flushed lost : Bool) : State :=
  let s := ((s.set RST_REASON_CAUSE cause).set RST_REASON_FLUSHED (b2n flushed)).set RST_REASON_DIRTY_LOST (b2n lost)
  if lost then s.err { blk := .rst } 16 else s

/-- A DEV_RESET (R371, R373, R374; spec 12 R301, 14 R334): start-up begins again at step 3. Commands that wait stay queued. -/
def State.devReset (s : State) (cause : Nat) (flushed : Bool) : State :=
  let dirty := s.dirtyExtents
  let held := s.tuckState != tuckIdle
  let filt : FiltSt := {
    cam := s.filt.cam
    shadow := s.filt.shadow
    tuckNext := s.filt.tuckNext
    lastMsg := s.filt.lastMsg
    crossWait := s.filt.crossWait
    crossing := s.filt.crossing
    entryHalf := s.filt.entryHalf
    heldRun := if s.tuckState == tuckHeld then s.filt.heldRun else s.tuckState == tuckRun }
  let s' : State :=
    { pending := s.pending
      regs := s.regs.filter (fun r => keptByReset r.1) ++ s.resetCtxStat
      pool := { cur := s.pool.tray, tray := s.pool.tray, foreign := s.pool.foreign }
      filt := filt
      sec := { opDigest := s.sec.opDigest }
      power := { supply := s.power.supply, lastOff := s.power.lastOff, refLost := s.power.refLost
                 resetLow := s.power.resetLow, dirtyMarks := dirty }
      pocket := s.pocket
      fw := s.fw.kept
      mgmt := { events := s.mgmt.events }
      free := s.free
      out := s.out }
  let s' := s'.clearPocketPage.clearFw
  let s' := if held then s'.set FILT_TUCK_CMD_STATE tuckHeld else s'
  s'.resetReason cause flushed (!dirty.isEmpty)

/-- The dies lose power (R359, R363): all that the flash, the fuses and the Pocket do not hold is lost. -/
def State.powerOff (s : State) (supply : Supply) (code : Nat) : State :=
  let good := s.reg (PWR_STAT_FEED.ref.at { blk := .pwr })
  let s' : State :=
    { pending := s.pending
      regs := s.regs.filter (fun r => keptByPor r.1)
      pool := { cur := s.pool.tray, tray := s.pool.tray, foreign := s.pool.foreign }
      sec := { opDigest := s.sec.opDigest }
      power := { supply := supply, lastOff := code, refLost := s.power.refLost, resetLow := s.power.resetLow }
      pocket := s.pocket
      fw := s.fw.kept
      free := s.free
      out := s.out }
  let s' := s'.clearPocketPage.clearFw
  s'.setReg (PWR_STAT_FEED.ref.at { blk := .pwr }) good

/-- A power-on reset (R371, R374): with power back, the dies start at step 3. RST_REASON says why power was gone, and whether
the last-gasp record counts dirty units (R359). -/
def State.por (s : State) : State :=
  let feeds := s.flag PWR_STAT_A_GOOD || s.flag PWR_STAT_B_GOOD
  if s.power.supply != .off || !feeds then s
  else
    let lost : Bool := match s.fw.lastGasp with
      | some g => g.2.1 != 0 && s.power.lastOff != 0
      | none => false
    let code := s.power.lastOff
    let s := s.mapPower (fun w => { w with supply := .on, lastOff := 0 })
    let s := s.set PWR_STAT_FEED (if s.flag PWR_STAT_A_GOOD then 1 else 2)
    (s.set LIVE_INCARN_INCARN s.fw.incarn.toNat).resetReason code false lost

/-! ### Feeds (R356 to R360) -/

/-- PWR_STAT of a feed, and its code. -/
def feedField : Feed → BlockField
  | .a => PWR_STAT_A_GOOD
  | .b => PWR_STAT_B_GOOD
def feedCode : Feed → Nat
  | .a => 1
  | .b => 2
def otherFeed : Feed → Feed
  | .a => .b
  | .b => .a

/-- A feed takes the load from the other (R357): counted, and no more to be seen of it. -/
def State.feedXfer (s : State) (f : Feed) : State :=
  let s := ((s.set PWR_STAT_FEED (feedCode f)).addSat PWR_XFER_COUNT).set PWR_XFER_LAST_TO (feedCode f)
  (s.count { blk := .pwr, code := 0x01 }).err { blk := .pwr } 16

/-- The last-gasp record (R359, R363): CLK_TS, the dirty units of T1, whether a thermal trip. -/
def State.gasp (s : State) (trip : Bool) : State :=
  s.mapFw (fun f => { f with lastGasp := some (s.ts.toNat, s.dirtyUnits, trip) })

/-- A feed becomes good (R356): it ends a hold-up; dies without power wait for the power-on reset. -/
def State.feedGood (s : State) (f : Feed) : State :=
  let s := if s.flag (feedField f) then s else s.pocketFeed true
  let s := s.set (feedField f) 1
  match s.power.supply with
  | .holdup => (s.mapPower (fun w => { w with supply := .on })).set PWR_STAT_FEED (feedCode f)
  | _ => s

/-- A feed becomes bad (R356, R357, R359): the other feed or the hold-up carries the load. -/
def State.feedBad (s : State) (f : Feed) : State :=
  let s := if s.flag (feedField f) then s.pocketFeed false else s
  let s := s.set (feedField f) 0
  match s.power.supply with
  | .on =>
    if s.rd PWR_STAT_FEED != (feedCode f) then s
    else if s.flag (feedField (otherFeed f)) then s.feedXfer (otherFeed f)
    else
      let s := (s.mapPower (fun w => { w with supply := .holdup })).set PWR_STAT_FEED 3
      (s.err { blk := .pwr } 17).gasp false
  | .tripped =>
    if s.flag (feedField (otherFeed f)) then s else s.mapPower (fun w => { w with supply := .off })
  | _ => s

/-- A has been good for RETURN_MS (R358). -/
def State.feedReturn (s : State) : State :=
  if s.power.supply == .on && s.rd PWR_STAT_FEED == 2 && s.flag PWR_STAT_A_GOOD then s.feedXfer .a else s

/-- The hold-up ends with no good feed (R359). -/
def State.holdupEnd (s : State) : State := if s.power.supply == .holdup then s.powerOff .off 1 else s

/-- Whether FAULT_N conducts (R359, R363, R367, R376; 22 R455): without power, and while any cause holds. -/
def State.faultN (s : State) : Bool :=
  s.power.supply != .on || s.power.refLost || s.flag RST_STAT_STOPPED

/-! ### Power cap and temperature (R361 to R363) -/

/-- Some throttling begins (spec 21 R444). -/
def State.throttleBegins (s : State) (before : Bool) : State := if before then s else s.err { blk := .pwr } 18

/-- A 100 µs step against the power cap with the 1 ms average of the input (R361). -/
def State.capStep (s : State) (watts : Nat) : State :=
  let s := s.set PWR_INPUT_WATTS watts
  let cap := 10 * s.rd PWR_CAP_CAP
  let d := s.power.duty
  if cap < watts then
    let s := (s.throttleBegins (d < 8)).mapPower (fun w => { w with duty := max (d - 1) 1 })
    s.set PWR_STAT_CAPPED 1
  else if 100 * watts ≤ 95 * cap then
    let s := s.mapPower (fun w => { w with duty := min (d + 1) 8 })
    s.set PWR_STAT_CAPPED (b2n (d + 1 < 8))
  else s

/-- The input exceeds 2.9 kW for 50 µs, or falls below 2.4 kW (R361). -/
def State.peakStep (s : State) (watts : Nat) : State :=
  if 2900 < watts then (s.throttleBegins s.power.peak).mapPower (fun w => { w with peak := true })
  else if watts < 2400 then s.mapPower (fun w => { w with peak := false })
  else s

/-- The hottest reading and its die. -/
def hottest (t : Tbl Nat) : Nat × Nat := t.foldl (fun m d => if m.2 < d.2 then d else m) (0, 0)

/-- A die's reading goes into its own registers and PWR_TEMP; dies by the codes of PWR_TEMP. -/
def State.noteTemp (s : State) (die temp : Nat) : State :=
  let s := s.mapPower (fun w => { w with temps := Tbl.put w.temps die temp })
  let h := hottest s.power.temps
  let s := (s.set PWR_TEMP_MAX_C h.2).set PWR_TEMP_DIE h.1
  if die = 0 then (List.range 8).foldl (fun s d => s.set CDIE_TEMP_TEMP_C temp d) s
  else if die ≤ 8 then s.set PDIE_TEMP_TEMP_C temp (die - 1)
  else if 17 ≤ die then s.set HBM_STAT_TEMP_C temp (die - 17)
  else s

/-- A 100 µs step of a die's throttle by its hottest sensor (R362): the duty of compute dies and the central die in eighths;
port dies and stacks are throttled or not. A step that lowers counts (DESIGN CHOICE, assumption log 191). -/
def State.thermStep (s : State) (die temp : Nat) : State :=
  if 24 < die then s
  else
    let s := s.noteTemp die temp
    let hbm := 17 ≤ die
    let on := if hbm then 95 else 100
    let off := if hbm then 92 else 97
    let d := Tbl.get s.power.thermDuty die 8
    let graded := die = 0 || (9 ≤ die && die ≤ 16)
    let d' :=
      if on ≤ temp then (if graded then max (d - 1) 1 else 4)
      else if temp < off then (if graded then min (d + 1) 8 else 8)
      else d
    let before := s.flag PWR_STAT_THROTTLE
    let s := s.mapPower (fun w => { w with thermDuty := Tbl.putD w.thermDuty die 8 d' })
    let s := if hbm then s.set HBM_STAT_LIMITED (b2n (d' < 8)) (die - 17) else s
    let s := if d' < d then (s.count { blk := .pwr, code := 0x02 }).throttleBegins before else s
    s.set PWR_STAT_THROTTLE (b2n (!s.power.thermDuty.isEmpty))

/-- A sensor at 105 °C for 1 ms (R363). -/
def State.thermalTrip (s : State) : State :=
  if s.power.supply == .on || s.power.supply == .holdup then (s.gasp true).powerOff .tripped 2 else s

/-- Whether cores' engines may issue (R361). -/
def State.enginesIssue (s : State) : Bool := !s.power.peak

/-! ### Clocks (R367, R368) -/

/-- REFCLK is lost (R367): every link goes down and the device stays in reset. -/
def State.refclkLoss (s : State) : State :=
  if s.power.refLost then s
  else
    let s := ((s.set CLK_STAT_REFCLK_OK 0).set CLK_STAT_ROOT_LOCK 0).err { blk := .clk } 16
    let s := (s.ports.keys).foldl State.linkDown s
    s.mapPower (fun w => { w with refLost := true })

/-- REFCLK has been stable for 10 ms (R367). -/
def State.refclkReturn (s : State) : State :=
  if s.power.refLost then (s.mapPower (fun w => { w with refLost := false })).devReset 5 false else s

/-- A PTM exchange (R368): before READY CLK_TS steps once; then it is slewed, by at most 500 ns for the millisecond between
exchanges, and never decreases. -/
def State.ptmExchange (s : State) (root : BitVec 64) : State :=
  let p := s.rd CLK_PTM_PORT
  if s.flag CLK_PTM_ROOT || p == 0xFF || s.role p != .trunk || !s.linked p then s
  else
    let s' := (s.set CLK_PTM_OFS_OFFSET_NS ((root - s.ts).toNat % 2 ^ 32)).set CLK_STAT_PTM_LOCK 1
    if !s.flag RST_STAT_READY then
      if s.flag CLK_STAT_PTM_LOCK then s' else { s' with ts := root }
    else if s.ts.toNat < root.toNat then { s' with ts := s.ts + BitVec.ofNat 64 (min (root.toNat - s.ts.toNat) 500) }
    else s'

/-- PTM is lost (R368, spec 21 R444). -/
def State.ptmUnlock (s : State) : State :=
  if s.flag CLK_STAT_PTM_LOCK then (s.set CLK_STAT_PTM_LOCK 0).err { blk := .clk } 17 else s

/-- CLK_TS crosses a whole second: TS_PPS pulses (R368). -/
def State.pps (s : State) : State :=
  let t := (s.ts.toNat / 10 ^ 9 + 1) * 10 ^ 9
  { (s.emit (.pps (t / 10 ^ 9))) with ts := BitVec.ofNat 64 t }

/-- A stack enters self-refresh (R370): it holds no T1 page, replica, procedure scratch or reply-cache spill; which stacks hold
directory copies is free. -/
def State.srEnter (s : State) (k : Nat) : State :=
  let f := s.fresh
  let holds := s.tier.t1.any (fun (p : Nat × T1Page) => p.2.stack == k) || !s.home.repl.local_.isEmpty || !s.procs.running.isEmpty
    || !s.rc.isEmpty || f.1 % 2 == 1
  if s.flag HBM_PWR_SR_EN k && !holds then f.2.set HBM_PWR_IN_SR 1 k else s

/-! ### Reset contacts and commands (R363, R373, spec 22 R456) -/

/-- RST_CMD.GO is written with 1 (R373): a DEV_RESET, or a self-fence whose flush the DEV_RESET waits for; at once where the
device has fenced itself before and its flush is over. -/
def State.resetCmd (s : State) (flush : Bool) : State :=
  if flush && s.selfFenced && !s.flag LIVE_STAT_FLUSHING then s.devReset 3 true
  else if flush then
    let s := if s.selfFenced then s else s.selfFence 4
    s.mapLive (fun l => { l with flushReset := true })
  else s.devReset 3 false

/-- The flush ends (spec 15 R346); the DEV_RESET that waited for it follows (R373). -/
def State.flushDone (s : State) : State :=
  let s := s.flushEnd
  if s.live.flushReset && !s.flag LIVE_STAT_FLUSHING then s.devReset 3 true else s

/-- A low pulse on DEV_RESET_N (spec 22 R456): shorter than 200 ns ignored, from 1 µs a DEV_RESET, between the two either. -/
def State.devResetN (s : State) (lowNs : Nat) : State :=
  let s := s.mapPower (fun w => { w with resetLow := true })
  let takes := 1000 ≤ lowNs || (200 ≤ lowNs && Config.shortReset lowNs)
  if takes && (s.power.supply == .on || s.power.supply == .holdup) then s.devReset 4 false else s

/-- DEV_RESET_N returns high (spec 22 R456). -/
def State.devResetNRelease (s : State) : State := s.mapPower (fun w => { w with resetLow := false })

/-- DEV_RESET_N low for 100 ms while tripped: the front end treats it as a POR request (R363). -/
def State.resetNLongLow (s : State) : State :=
  if s.power.supply == .tripped then ((s.mapPower (fun w => { w with supply := .off, lastOff := 2 })).por) else s

/-! ### Start-up (R375, R376; spec 18 R399, R400; 21 R443) -/

/-- Start-up stops with a reason code (R376). -/
def State.stopStart (s : State) (code : Nat) : State := (s.set RST_STAT_STOPPED 1).set RST_STAT_STOP_CODE code

/-- The boot ROM's choice of a slot (spec 18 R398, R400): the one NEXT names, or the other where that one is invalid or has
failed three times, and whether that is a revert; none where start-up stops. -/
def State.bootSlot (s : State) : Option (Nat × Bool) :=
  let k := s.rd FW_STAT_NEXT
  let o := 1 - k
  if 3 ≤ Tbl.get s.fw.boots k 0 then (if s.slotValid o then some (o, true) else none)
  else if s.slotValid k then some (k, false)
  else if s.slotValid o then some (o, false)
  else none

/-- Steps 3 and 4 (R375, spec 18 R399, R400): the image starts, fuses and profile are checked, the incarnation grows (R374). -/
def State.bootRomStart (s : State) : State :=
  if s.rd RST_STAT_STEP != 3 || s.flag RST_STAT_STOPPED || s.power.supply != .on || s.power.refLost || s.power.resetLow then s
  else
    match s.bootSlot with
    | none => s.stopStart rcDependency
    | some (k, revert) =>
      let s := if revert then
          ((s.mapFw (fun f => { f with boots := Tbl.put f.boots (s.rd FW_STAT_NEXT) 0 })).set FW_STAT_REVERTED 1).set RST_REASON_CAUSE 6
        else s
      let s := if revert then s.err { blk := .fw } 16 else s
      let s := (s.set FW_STAT_ACTIVE k).set FW_STAT_NEXT k
      let s := s.mapFw (fun f => { f with boots := Tbl.mod f.boots k 0 (· + 1) })
      let s := (s.set CLK_STAT_ROOT_LOCK 1).set CLK_STAT_REFCLK_OK 1
      let s := (List.range 8).foldl (fun s d => (s.set CDIE_LINK_PDIE_UP 1 d).set CDIE_LINK_COMPUTE_UP 1 d) s
      let s := s.set RST_STAT_STEP 4
      if s.profile = 3 then s.stopStart 0x0704
      else
        let n := (s.rd LIVE_INCARN_INCARN + 1) % 2 ^ 16
        let s := (s.set LIVE_INCARN_INCARN n).mapFw (fun f => { f with incarn := BitVec.ofNat 16 n })
        s.set RST_STAT_STEP 5

/-- A page that start-up enables, or leaves disabled with its reason (R376, spec 20 R420). -/
def State.startPage (s : State) (g : Page) (ok : Bool) (code : Nat) : State :=
  if ok then (s.hset g PG_CTL_ENABLE 1).hset g PG_STAT_ENABLED 1
  else ((s.hset g PG_REASON_CODE code).hset g PG_REASON_OFFSET 0x008).err g 3

/-- Notes that a stack or port die has ended its step; when all eight have, the next step runs. -/
def State.stepEnded (s : State) (key first next : Nat) : State :=
  let s := s.mapPower (fun w => { w with done := setAdd w.done key })
  if (List.range 8).all (fun i => s.power.done.contains (first + i)) then s.set RST_STAT_STEP next else s

/-- HBM training of a stack ends (R375 step 5, R376). -/
def State.trainingDone (s : State) (k : Nat) (ok : Bool) : State :=
  if s.rd RST_STAT_STEP != 5 || s.flag RST_STAT_STOPPED || s.power.done.contains k then s
  else ((s.set HBM_STAT_TRAINED (b2n ok) k).startPage ⟨.hbm, k⟩ ok 0x2301).stepEnded k 0 6

/-- Calibration of a port die ends (R375 step 6, R376, spec 21 R443). -/
def State.calibrationDone (s : State) (d failed : Nat) : State :=
  if s.rd RST_STAT_STEP != 6 || s.flag RST_STAT_STOPPED || s.power.done.contains (8 + d) then s
  else
    let s := (List.range 4).foldl (fun s k => s.set PDIE_LANES_FAILED (failed >>> (32 * k) % 2 ^ 32) d k) s
    let s := if failed = 0 then s else s.err ⟨.pdie, d⟩ 16
    let ok := failed % 2 ^ 128 != 2 ^ 128 - 1
    ((s.set PDIE_STAT_CALIBRATED (b2n ok) d).startPage ⟨.pdie, d⟩ ok 0x2501).stepEnded (8 + d) 8 7

/-- The firmware halts, or READY is missed (spec 18 R399): a DEV_RESET (its CAUSE is DEDUCED, assumption log 34). -/
def State.bootFailed (s : State) (first : Nat) : State :=
  if first ≤ s.rd RST_STAT_STEP && !s.flag RST_STAT_READY && !s.flag RST_STAT_STOPPED && s.power.supply == .on && !s.power.refLost
    && !s.power.resetLow then s.devReset 6 false
  else s

/-! ### Die links (spec 21 R442) -/

/-- A die link is lost: the port die's ports go down, or the compute die's cores are fenced and its stack is lost. -/
def State.dieLinkLoss (s : State) (d : Nat) (compute : Bool) : State :=
  if compute then
    if !s.flag CDIE_LINK_COMPUTE_UP d then s
    else
      let s := (s.set CDIE_LINK_COMPUTE_UP 0 d).err ⟨.cdie, d⟩ 17
      ((List.range 16).foldl (fun s i => s.fenceCore (16 * d + i) 4) s).stackFail d
  else
    if !s.flag CDIE_LINK_PDIE_UP d then s
    else
      let s := (s.set CDIE_LINK_PDIE_UP 0 d).err ⟨.cdie, d⟩ 17
      (s.ports.keys.filter (fun p => p % 128 / 16 == d)).foldl State.linkDown s

/-- The management Ethernet link comes up or goes down (spec 02 R53): the address is valid while it is configured. -/
def State.netLink (s : State) (up : Bool) : State :=
  (s.set DEV_NET_STAT_LINK_UP (b2n up)).set DEV_NET_STAT_IP_VALID (b2n (up && s.rd DEV_IP4_ADDR != 0))

end Sys2Proof.Machine
end

