-- ==== Sys2Proof/Machine/Windows.lean ====
section
/-! DEFINITION. Table windows: staging, captures, the check of an applied entry (spec 20 R428 to R431, 13 R314, 12 R280, R294,
14 R323). -/

namespace Sys2Proof.Machine

/-- Who makes a register access: its path, and whether it lies inside a signed batch (spec 02 R53, 14 R326). -/
structure Who where
  path   : Path
  signed : Bool := false
deriving DecidableEq, Repr

/-- The management path's number among the staging entries and captures; batches have one of their own. -/
def Who.code (w : Who) : Nat :=
  if w.signed then 4 else match w.path with | .bar0 => 0 | .eth => 1 | .i3c => 2 | .tenant _ => 3

/-- Changes the management state. -/
def State.mapMgmt (s : State) (f : MgmtSt → MgmtSt) : State := { s with mgmt := f s.mgmt }

/-- A table window (R428). -/
structure Win where
  no   : Nat
  base : Nat
  n    : Nat
  size : Nat
  blk  : Block
deriving DecidableEq, Repr

/-- The windows in table order (R428). -/
def windows : List Win := [
  { no := 0, base := 0x400000, n := 262144, size := 16, blk := .map },
  { no := 1, base := 0x800000, n := 256, size := 32, blk := .map },
  { no := 2, base := 0x804000, n := 256, size := 64, blk := .map },
  { no := 3, base := 0x810000, n := 4096, size := 16, blk := .map },
  { no := 4, base := 0x820000, n := 8192, size := 32, blk := .map },
  { no := 5, base := 0x900000, n := 256, size := 128, blk := .qos },
  { no := 6, base := 0x910000, n := 4096, size := 64, blk := .qos },
  { no := 7, base := 0xA00000, n := 16384, size := 64, blk := .filt },
  { no := 8, base := 0xC00000, n := 1, size := 128, blk := .keys }]

/-- The window, entry and dword at an address. -/
def winAt (addr : Nat) : Option (Win × Nat × Nat) :=
  (windows.find? (fun w => w.base ≤ addr && addr < w.base + w.n * w.size)).map
    (fun w => (w, (addr - w.base) / w.size, (addr - w.base) % w.size / 4))

/-- The page that owns a window (R428). -/
def State.winOwner (s : State) (w : Win) : Page :=
  { blk := w.blk, inst := if w.no = 7 then s.rd WIN_CAM_CORE_CORE else 0 }

/-- Key of a path's staging entry or capture in a window. -/
def winKey (who : Who) (w : Win) : Nat := 16 * who.code + w.no

/-- Whether the tenant-node window shows a port with a tree of nodes. -/
def State.nodePort (s : State) : Bool :=
  match s.role (s.rd WIN_QOS_PORT_PORT) with
  | .tray | .trunk => true
  | .leaf | .mgmt => false

/-- An extent entry with TAINTED and HO_STATE live (R429). -/
def State.liveExtent (s : State) (x e : Nat) : Nat :=
  insBits (insBits e 3 3 (b2n (s.isTainted x))) 61 58 (s.hoState x)

/-- What entry e of a window holds, as a read captures it (R429). -/
def State.winEntry (s : State) (no e : Nat) : Nat :=
  match no with
  | 0 => s.liveExtent e (s.map.pend.extent e)
  | 1 => s.map.pend.slice e
  | 2 => s.map.pend.bind e
  | 3 => Tbl.get s.map.pend.places e 0
  | 4 => Tbl.get s.map.pend.routes e 0
  | 5 => s.qosWritten (qosAKey e) + s.qosWritten (qosBKey e) * 2 ^ 512
  | 6 => if s.nodePort then s.qosWritten (qosNodeKey (s.rd WIN_QOS_PORT_PORT) e) else 0
  | 7 => s.camRead (camAt (s.rd WIN_CAM_CORE_CORE) e)
  | _ => 0

/-- Reads a dword of a window (R429). -/
def State.windowRead (s : State) (who : Who) (w : Win) (e k : Nat) : State × Nat :=
  if w.no = 8 then (s, 0)
  else
    let key := winKey who w
    let held := match Tbl.get? s.mgmt.capture key with
      | some (e', v) => if e' = e && k != 0 then some v else none
      | none => none
    match held with
    | some v => (s, bits v (32 * k + 31) (32 * k))
    | none =>
      let v := s.winEntry w.no e
      (s.mapMgmt (fun m => { m with capture := Tbl.put m.capture key (e, v) }), bits v (32 * k + 31) (32 * k))

/-! ### The check of an applied entry (R431) -/

/-- A shaper a QOS entry may hold (13 R314). -/
def shaperOk (f : Nat) : Bool := shRate f == 0 || 2 ≤ shBurst f

/-- Whether the shapers of a word, 40 bits each from bit lo on, may be written. -/
def shapersOk (v lo n : Nat) : Bool := (List.range n).all (fun i => shaperOk (bits v (lo + 40 * i + 39) (lo + 40 * i)))

/-- Whether a port record may be written (13 R314). -/
def portRecordOk (v : Nat) : Bool :=
  let b := v >>> 512
  bits v 175 168 == 0 && bits v 511 352 == 0 && bits b 511 480 == 0
    && (List.range 16).all (fun i => 4 ≤ bits v (4 * i + 3) (4 * i))
    && (List.range 12).all (fun i => bits v (64 + 8 * i + 7) (64 + 8 * i) != 0)
    && bits v 167 164 != 0 && shapersOk v 176 4 && shapersOk b 0 12

/-- Whether a tenant node may be written (13 R314). -/
def nodeOk (v : Nat) : Bool :=
  bits v 15 1 == 0 && bits v 63 40 == 0 && bits v 511 264 == 0 && bits v 39 32 != 0 && shapersOk v 64 5

/-- Puts a QOS entry. -/
def State.putQos (s : State) (k v : Nat) : State := { s with qos := Tbl.putD s.qos k (qosReset k) v }

/-- Puts an entry of the pending bank; TAINTED and HO_STATE are not banked. -/
def State.putPend (s : State) (no e v : Nat) : State :=
  let p := s.map.pend
  let q : Bank := match no with
    | 0 => { p with extents := Tbl.putD p.extents e 0 (insBits (insBits v 3 3 0) 61 58 0) }
    | 1 => { p with slices := Tbl.putD p.slices e 0 v }
    | 2 => { p with binds := Tbl.putD p.binds e 0 v }
    | 3 => { p with places := Tbl.putD p.places e 0 v }
    | _ => { p with routes := Tbl.putD p.routes e 0 v }
  { s with map := { s.map with pend := q } }

/-- A refused entry: WINDOW in the owner page, and WIN_STAT (R431). -/
def State.winRefuse (s : State) (w : Win) (code : Nat) : State × Nat :=
  let s := s.err (s.winOwner w) 2
  ((s.set WIN_STAT_CODE code).set WIN_STAT_WINDOW w.no, code)

/-- The pending bank takes no window write: a commit's check or the reload runs (03 R62). -/
def State.pendHeld (s : State) : Bool := s.flag MAP_COMMIT_COMMIT || !s.flag MAP_STAT_PENDING_READY

/-- The key-load entry: its fields, with the unwrap's outcome and pair as values the model does not compute (14 R323). -/
def State.keyLoadOf (s : State) (v : Nat) : KeyLoad × State :=
  let ok := s.fresh
  let pair := ok.2.fresh
  let k : KeyLoad :=
    { session := bits v 31 0
      ctx := Fin.ofNat 4096 (bits v 43 32)
      noCmpr := bit v 44
      rsvdZero := bits v 47 45 == 0 && bits v 127 80 == 0 && bits v 1023 864 == 0
      keyId := BitVec.ofNat 32 (bits v 79 48)
      unwrapOk := ok.1 % 2 == 1
      pair := BitVec.ofNat 512 pair.1 }
  (k, pair.2)

/-- Applies a whole entry, or refuses it with a reason (R431). -/
def State.applyEntry (s : State) (who : Who) (w : Win) (e v : Nat) : State × Nat :=
  if s.hrd (s.winOwner w) PG_CTL_LOCK == 1 then s.winRefuse w rcLocked
  else match w.no with
    | 5 =>
      if portRecordOk v then
        (State.rebucket s ((s.putQos (qosAKey e) (v % 2 ^ 512)).putQos (qosBKey e) (v >>> 512)) e (List.range 16), rcOk)
      else (s.err ⟨.qos, 0⟩ 1).winRefuse w rcFieldRange
    | 6 =>
      let p := s.rd WIN_QOS_PORT_PORT
      if !s.nodePort then s.winRefuse w rcRole
      else if nodeOk v then
        (State.rebucket s (s.putQos (qosNodeKey p e) (if e = 0 then insBits v 0 0 1 else v)) p (nodeKeys e), rcOk)
      else (s.err ⟨.qos, 0⟩ 1).winRefuse w rcFieldRange
    | 7 =>
      let k := camAt (s.rd WIN_CAM_CORE_CORE) e
      if s.inTuck k then s.winRefuse w rcMoving
      else if camReserved v then s.winRefuse w rcFieldRange
      else (s.camWrite k v, rcOk)
    | 8 =>
      let k := s.keyLoadOf v
      let s := k.2.loadKey k.1
      (s, s.rd KEYS_LOAD_STAT_RESULT)
    | no =>
      let s := if no = 0 then s.taint e (bit v 3) else s
      if s.pendHeld then
        (s.mapMgmt (fun m => { m with heldEnt := m.heldEnt ++ [(who.path, no * 2 ^ 20 + e, v)] }), rcOk)
      else (s.putPend no e v, rcOk)

/-- Applies the entries held while the pending bank was not ready, in order of arrival (03 R62, R431). -/
def State.releaseEnts (s : State) : State :=
  if s.pendHeld then s
  else
    let l := s.mgmt.heldEnt
    l.foldl (fun s (h : Path × Nat × Nat) => s.putPend (h.2.1 / 2 ^ 20) (h.2.1 % 2 ^ 20) h.2.2)
      (s.mapMgmt (fun m => { m with heldEnt := [] }))

/-- Writes a dword of a window: it is staged, and the highest dword applies the entry (R430). -/
def State.windowWrite (s : State) (who : Who) (w : Win) (e k v : Nat) : State × Nat :=
  let key := winKey who w
  let old := Tbl.get? s.mgmt.staging key
  let fresh := if w.no = 8 then 0 else s.winEntry w.no e
  let start := match old with
    | some (e', img) => if e' = e then img else fresh
    | none => fresh
  let lost : Bool := match old with | some (e', _) => e' != e | none => false
  let s := if lost then s.set WIN_STAT_ABANDONED 1 else s
  let img := insBits start (32 * k + 31) (32 * k) v
  if 4 * k + 4 = w.size then
    (s.mapMgmt (fun m => { m with staging := Tbl.del m.staging key })).applyEntry who w e img
  else (s.mapMgmt (fun m => { m with staging := Tbl.put m.staging key (e, img) }), rcOk)

/-- WIN_QOS_PORT or WIN_CAM_CORE has been written: entries staged in window no on any path are discarded (R431), and captures,
which showed another port or core. -/
def State.winMoved (s : State) (no : Nat) : State :=
  let lost := s.mgmt.staging.any (fun (e : Nat × Nat × Nat) => e.1 % 16 == no)
  let s := if lost then s.set WIN_STAT_ABANDONED 1 else s
  s.mapMgmt (fun m => { m with
    staging := m.staging.filter (fun (e : Nat × Nat × Nat) => e.1 % 16 != no)
    capture := m.capture.filter (fun (e : Nat × Nat × Nat) => e.1 % 16 != no) })

end Sys2Proof.Machine
end

