-- ==== Sys2Proof/Machine/Mgmt.lean ====
section
/-! DEFINITION. Register accesses: reads with their live values, writes with their locks, refusals, holds and effects (spec 00
R7, 02 R53, 14 R326, R330, R331, 20 R415 to R425, 21 R433, R440, R441, and the registers' own chapters). -/

namespace Sys2Proof.Machine

/-! ### Reads -/

/-- 48-bit virtual counter k of a context. -/
def State.vcnt (s : State) (x k : Nat) : Nat := Tbl.get s.pmon.vcnt (4 * x + k) 0

/-- COLL_GSTAT (spec 11). -/
def State.gstat (s : State) : Nat :=
  match s.group (s.rd COLL_GCMD_GROUP) with
  | none => 0
  | some g => g.next % 65536 + 2 ^ 16 + b2n g.op.isSome * 2 ^ 17 + b2n g.fenced * 2 ^ 18 + b2n g.isRoot * 2 ^ 19

/-- Header registers whose contents are computed: PG_STAT (spec 20 R418). -/
def State.hdrNow (s : State) (g : Page) (off addr : Nat) : Nat :=
  if off = 0x00C then
    insBits (insBits (s.reg addr) 1 1 (b2n (s.pageBusy g))) 3 3 (b2n (s.pgErr g != 0))
  else s.reg addr

/-- A register's contents: held, or computed from the state it reports. -/
def State.regNow (s : State) (g : Page) (d : RegDef) (addr : Nat) : Nat :=
  let off := addr % 0x1000
  let i := g.inst
  let old := s.reg addr
  match d.blk, d.off with
  | none, _ => s.hdrNow g off addr
  | some .dev, 0x110 => insBits old 1 1 (b2n s.settingsUnsaved)
  | some .clk, 0x108 => bits s.ts.toNat 31 0
  | some .clk, 0x10C => bits s.ts.toNat 63 32
  | some .pwr, 0x110 => Config.feedVolts 0 s.out.length % 2 ^ 13
  | some .pwr, 0x114 => Config.feedVolts 1 s.out.length % 2 ^ 13
  | some .rst, 0x110 =>
    let w := s.rd RST_DIRTY_IDX_WORD
    (List.range 32).foldl (fun v k =>
      v + b2n (s.power.dirtyMarks.contains (32 * w + k) || s.dirtyExtents.contains (32 * w + k)) * 2 ^ k) 0
  | some .sec, 0x114 => bits s.fw.secSeq.toNat 31 0
  | some .sec, 0x118 => bits s.fw.secSeq.toNat 63 32
  | some .live, 0x104 =>
    insBits (insBits old 15 8 (min s.devNeighbours.length 255)) 31 16
      (min (s.live.fences.filter (fun (f : Nat × BitVec 16 × Bool) => !f.2.2)).length 65535)
  | some .live, 0x184 => s.progCause
  | some .map, 0x110 => s.inflight
  | some .home, 0x114 => insBits old 27 0 s.home.dir.length
  | some .repl, 0x108 => s.home.repl.local_.length
  | some .repl, 0x10C => s.home.repl.peers.foldl (fun n (p : Nat × List Nat) => max n p.2.length) 0
  | some .pub, 0x110 => s.pub.regions.length
  | some .pub, 0x114 => s.pub.pins.length
  | some .atom, 0x104 => s.rc.length
  | some .tier, 0x10C => s.dirtyUnits
  | some .pref, 0x104 => s.pinnedPages.length
  | some .keys, 0x104 => s.sec.slots.length
  | some .coll, 0x110 => s.gstat
  | some .coll, 0x114 => s.openOps + s.coll.length * 2 ^ 8
  | some .pmon, o =>
    if 0x108 ≤ o && o ≤ 0x120 then (((s.pmonCfg (s.rd PMON_IDX_IDX))[(o - 0x108) / 4]?).getD 0).toNat
    else if o = 0x800 then bits (Tbl.get s.pmon.cnt ((off - 0x800) / 8) 0) 31 0
    else if o = 0x804 then bits (Tbl.get s.pmon.cnt ((off - 0x804) / 8) 0) 47 32
    else old
  | some .filt, 0x108 => s.camCount i
  | some .ctx, 0x10C => s.drainCount i
  | some .ctx, 0x140 => s.qDepth i + s.qRunning i * 2 ^ 9 + s.qParked i * 2 ^ 18
  | some .ctx, 0x190 => bits (s.vcnt i ((off - 0x190) / 8)) 31 0
  | some .ctx, 0x194 => bits (s.vcnt i ((off - 0x194) / 8)) 47 32
  | some .ctx, 0x1B0 =>
    match Tbl.get? s.tier.scheds (schedKey i (bits old 5 0)) with
    | none => old
    | some c => insBits old 31 16 c.head
  | _, _ => old

/-- The bits a read returns: WO fields read 0. -/
def readMask (d : RegDef) : Nat := maskOf d.flds (fun t => t != .wo)

/-- A read clears RC fields. -/
def State.clearRc (s : State) (d : RegDef) (addr : Nat) : State :=
  let m := maskOf d.flds (fun t => t == .rc)
  if m = 0 then s else s.setReg addr (s.reg addr - (s.reg addr &&& m))

/-- An access to an address that holds no register (spec 20 R415). -/
def State.unmapped (s : State) : State := s.err ⟨.dev, 0⟩ 16

/-- Reads a register: a read of _LO latches _HI, whose next read returns the latch (spec 20 R417). Latches under `key` apart
from the address keep tenants' readings apart from the operator's. -/
def State.readPair (s : State) (d : RegDef) (addr key lo hi : Nat) : State × Nat :=
  match d.pair with
  | 1 => (s.mapMgmt (fun m => { m with latches := Tbl.put m.latches (key + addr + 4) (BitVec.ofNat 32 hi) }), lo)
  | 2 =>
    match Tbl.get? s.mgmt.latches (key + addr) with
    | some v => (s.mapMgmt (fun m => { m with latches := Tbl.del m.latches (key + addr) }), v.toNat)
    | none => (s, lo)
  | _ => (s, lo)

/-- Reads a register (spec 00, Typography; 20 R415 to R417). -/
def State.regRead (s : State) (addr : Nat) : State × Nat :=
  match regAt addr with
  | none => (s.unmapped, 0)
  | some (g, d) =>
    let v := s.regNow g d addr &&& readMask d
    let hi := match regAt (addr + 4) with
      | some (g', d') => s.regNow g' d' (addr + 4)
      | none => 0
    let r := s.readPair d addr 0 v hi
    (r.1.clearRc d addr, r.2)

/-- What a tenant reads of a page it reaches (spec 14 R331): in PROFILE_U virtual counters as a multiple of 1,024 no greater than
the count (the count at the last 1 ms boundary is not kept), and no energy. -/
def State.tenantReg (s : State) (addr : Nat) : State × Nat :=
  let off := addr % 0x1000
  let x := addr / 0x1000 - 0x1000
  match regAt addr with
  | none => (s.unmapped, 0)
  | some (_, d) =>
    if s.profile != profileU then s.regRead addr
    else match d.blk, d.off with
      | some .ctx, 0x160 => (s, 0)
      | some .ctx, 0x164 => (s, 0)
      | some .ctx, 0x190 =>
        let n := s.vcnt x ((off - 0x190) / 8)
        let f := s.fresh
        let v := f.1 % (n / 1024 + 1) * 1024
        f.2.readPair d addr (2 ^ 26) (bits v 31 0) (bits v 47 32)
      | some .ctx, 0x194 =>
        let n := s.vcnt x ((off - 0x194) / 8)
        let f := s.fresh
        f.2.readPair d addr (2 ^ 26) (bits (f.1 % (n / 1024 + 1) * 1024) 47 32) 0
      | _, _ => s.regRead addr

/-- Counts a tenant access outside the pages it reaches (spec 14 R330). -/
def State.tenantDenied (s : State) (p addr : Nat) : State := s.countDenied p (some addr)

/-- Whether a tenant access reaches an address (spec 14 R330). -/
def State.tenantReaches (s : State) (p addr : Nat) : Bool :=
  match pageOf addr with
  | some g => g.blk == .ctx && s.mayTrigger p g.inst
  | none => false

/-- A 32-bit read on a management path (spec 02 R53, 14 R330). -/
def State.mgmtRead (s : State) (path : Path) (addr : Nat) : State × Nat :=
  match path with
  | .tenant p => if s.tenantReaches p addr then s.tenantReg addr else (s.tenantDenied p addr, 0)
  | _ =>
    match winAt addr with
    | some (w, e, k) => s.windowRead { path } w e k
    | none => s.regRead addr

/-! ### What a write may change -/

/-- The PG_ERR bits a page's blocks name (spec 20 R418, 21 R444). -/
def errBits (b : Block) (inst : Nat) : List Nat :=
  [0, 1, 2, 3] ++ match b with
  | .dev | .pwr | .home => [16, 17, 18]
  | .clk | .sec | .live | .keys | .core | .hbm | .cdie => [16, 17]
  | .filt => if inst = 0 then [16, 17] else [16]
  | .tier | .port => [16, 17, 18, 19]
  | .rst | .fw | .pocket | .map | .pub | .atom | .cmpr | .coll | .pmon | .pdie => [16]
  | .repl | .pref | .qos | .ctx | .win => []

/-- The page whose PG_ERR a write to a register page sets; the window-control registers belong to DEV (21). -/
def errPage (g : Page) : Page := if g.blk = .win then { blk := .dev } else g

/-- Writes that PROFILE_F takes outside a signed batch (spec 14 R326). -/
def unsignedOk (g : Page) (off : Nat) : Bool :=
  match g.blk with
  | .pmon => true
  | .sec => 0x104 ≤ off && off ≤ 0x10C
  | .ctx => [0x104, 0x148, 0x180, 0x184, 0x188, 0x18C, 0x1B0].contains off
  | _ => false

/-- The register after a write: RW and unlocked RWL fields take the value, W1C fields lose the bits written 1. -/
def storeFields (d : RegDef) (locked : Bool) (old v : Nat) : Nat :=
  d.flds.foldl (fun r f =>
    match f.ty with
    | .rw => insBits r f.hi f.lo (bits v f.hi f.lo)
    | .rwl => if locked then r else insBits r f.hi f.lo (bits v f.hi f.lo)
    | .w1c => r - (r &&& (v &&& f.mask))
    | _ => r) old

/-- Whether a write would change something beside W1C fields and the bits of `free`. -/
def offends (d : RegDef) (free old v : Nat) : Bool :=
  !d.flds.any (fun f => f.ty == .w1c || (f.mask &&& free) != 0) || d.flds.any (fun f =>
    (f.mask &&& free) == 0 &&
    match f.ty with
    | .rw | .rwl => bits v f.hi f.lo != bits old f.hi f.lo
    | .w1s => bits v f.hi f.lo != 0 && bits v f.hi f.lo != bits old f.hi f.lo
    | .wo => bits v f.hi f.lo != 0
    | .ro | .rc | .w1c => false)

/-- The W1C part of a write takes effect. -/
def State.writeW1c (s : State) (d : RegDef) (addr v : Nat) : State :=
  let m := maskOf d.flds (fun t => t == .w1c)
  s.setReg addr (s.reg addr - (s.reg addr &&& (v &&& m)))

/-- Whether a field's written value lies outside its range (spec 00 R7). -/
def outOfRange (d : RegDef) (v : Nat) : Bool :=
  d.flds.any (fun f => match f.rng with
    | some (a, b) => bits v f.hi f.lo < a || b < bits v f.hi f.lo
    | none => false)

/-- Refusals at the write beside the tables' ranges: PREF_LIMIT beyond the near tier, events the list does not hold (spec 06
R144, 19 R405, R411). -/
def State.rangeRefused (s : State) (d : RegDef) (v : Nat) : Bool :=
  outOfRange d v || match d.blk, d.off with
    | some .pref, 0x100 => s.rd TIER_NEAR_GIB < bits v 9 0
    | some .pmon, 0x108 => !pmonCfgOk v
    | some .ctx, 0x170 => !vcfgOk v
    | _, _ => false

/-- Whether the RWL fields of a register are locked (spec 20 R422). -/
def State.rwlLocked (s : State) (g : Page) : Bool := s.enabled g.blk g.inst || s.pageBusy g

/-- Writes that one register ignores whole (spec 14 R316, 21 R433). -/
def State.writeIgnored (s : State) (g : Page) (d : RegDef) (addr v : Nat) : Bool :=
  match d.blk, d.off with
  | some .ctx, 0x100 => s.ctxState g.inst != ctxFree
  | some .dev, 0x100 =>
    (bits v 11 0 != bits (s.reg addr) 11 0 || bits v 31 16 != bits (s.reg addr) 31 16) &&
      allPorts.any (fun p => (s.role p == .leaf || s.role p == .trunk) && s.up p && s.rd PORT_LSTAT_MODE p == 1)
  | _, _ => false

/-! ### Commands -/

/-- PUB_CMD.GO is written with 1 (spec 05 R101, R115). -/
def State.pubCmd (s : State) (op : Nat) : State :=
  let id := s.rd PUB_CMD_REGION_REGION
  let idx := id % 65536
  let bad := bits id 31 20 != s.rd DEV_ID_DEVICE_ID || bits id 19 16 != 0
  match op, Tbl.get? s.pub.regions idx with
  | 1, none =>
    if bad then s.set PUB_STAT_RESULT rcFieldRange
    else
      let r : Region :=
        { tenant := s.rd PUB_CMD_ARG_TENANT, retain := s.rd PUB_CMD_ARG_RETAIN, rrepl := s.flag PUB_CMD_ARG_RREPL }
      (s.set PUB_STAT_RESULT rcOk).setRegion idx r
  | 1, some _ => s.set PUB_STAT_RESULT (if bad then rcFieldRange else rcOverlap)
  | 2, none => s.set PUB_STAT_RESULT (if bad then rcFieldRange else rcDependency)
  | 2, some r =>
    if bad then s.set PUB_STAT_RESULT rcFieldRange
    else ((s.set PUB_STAT_RESULT rcOk).setRegion idx { r with closing := true }).retireRegion idx
  | _, _ => s.set PUB_STAT_RESULT rcFieldRange

/-- LIVE_CMD.GO is written with 1 (spec 15 R343, R345, R351). -/
def State.liveCmd (s : State) (v : Nat) : State :=
  let f : Feid := BitVec.ofNat 16 (bits v 31 16)
  match bits v 1 0 with
  | 1 => s.declare (bit v 3) (bits v 15 8) f
  | 2 => s.forget f
  | 3 => if s.selfFenced then s.liveResult rcOk else (s.liveResult rcOk).selfFence 4
  | _ => s.liveResult rcFieldRange

/-- COLL_GCMD.GO is written with 1 (spec 11 R256). -/
def State.collCmd (s : State) (v : Nat) : State :=
  match bits v 13 12 with
  | 1 => s.collDefine (bits v 11 0)
  | 2 => s.collDelete (bits v 11 0)
  | _ => s.set COLL_GCMD_RESULT rcFieldRange

/-- FILT_TUCK_CMD.GO is written with 1 (spec 12 R295, R302). -/
def State.tuckCmd (s : State) (op : Nat) : State :=
  match op with
  | 1 => s.tuckArm
  | 2 => s.tuckResume
  | 3 => s.tuckAbortCmd
  | _ => s.tuckResult rcFieldRange

/-- CTX_PREF_CMD.GO is written with 1 (spec 06 R142, R155). -/
def State.prefCmd (s : State) (x v : Nat) : State :=
  match bits v 7 6 with
  | 1 => s.prefRegister x (bits v 5 0)
  | 2 => s.prefUnregister x (bits v 5 0)
  | _ => s.set CTX_PREF_CMD_RESULT rcFieldRange x

/-- CTX_STEP is written (spec 06 R143). -/
def State.stepWrite (s : State) (x v : Nat) : State :=
  if bit v 6 then s.stepSet x (bits v 5 0) (bits v 18 7) else s.stepAdvance x (bits v 5 0)

/-- SEC_BATCH_CMD.GO is written with 1 (spec 14 R327). -/
def State.batchGo (s : State) : State :=
  if s.profile != profileF then (s.set SEC_BATCH_CMD_RESULT rcProfile).err ⟨.sec, 0⟩ 17
  else s.set SEC_BATCH_CMD_GO 1

/-- MAP_XFER is written (spec 03 R71): the edit and the start of the commit's check. -/
def State.xferWrite (s : State) (v : Nat) : State :=
  let x := bits v 17 0
  let e := s.map.pend.extent x
  ({ s with map := { s.map with
    pend := { s.map.pend with extents := Tbl.putD s.map.pend.extents x 0 (insBits e 15 8 (bits v 25 18)) }
    xferUndo := some (x, e) } }).startCommit

/-- CORE_INJ.ARM is written with 1 (spec 21 R441). -/
def State.injArm (s : State) (g : Page) (v : Nat) : State :=
  if bits v 1 0 = 0 || s.flag CORE_STAT_FENCED g.inst then s.err g 1
  else (s.set CORE_INJ_ARM 1 g.inst).set CORE_INJ_ARMED 1 g.inst

/-- PG_CTL is written (spec 20 R425): SOFT_RESET first; while it runs the rest of the write is held. -/
def State.ctlWrite (s : State) (who : Who) (g : Page) (addr v : Nat) : State :=
  if bit v 2 then
    let s := s.startReset g
    if s.resetting g then
      s.mapMgmt (fun m => { m with held := m.held ++ [(who.path, addr, BitVec.ofNat 32 (insBits v 2 2 0))] })
    else s.writeCtl g v
  else s.writeCtl g v

/-- What a write does beside the fields it stores. -/
def State.writeEffect (old s : State) (who : Who) (g : Page) (d : RegDef) (addr v : Nat) : State :=
  let off := addr % 0x1000
  let i := g.inst
  match d.blk, d.off with
  | none, 0x008 => s.ctlWrite who g addr v
  | none, 0x01C => (errBits g.blk i).foldl (fun s b => if bit v b then s.err g b else s) s
  | some .dev, 0x114 => if bit v 0 then s.settingsGo else s
  | some .rst, 0x100 => if bit v 1 then s.resetCmd (bit v 0) else s
  | some .fw, 0x110 => if bit v 3 then s.fwGo (bits v 2 0) else s
  | some .pocket, 0x140 => if bit v 0 then s.pocketRing else s
  | some .sec, 0x10C => if bit v 0 then s.batchGo else s
  | some .live, 0x10C => if bit v 2 then s.liveCmd v else s
  | some .live, 0x180 =>
    let s := if bit v 0 then s.progSnap else s
    if bit v 1 then s.progClear else s
  | some .map, 0x104 => if bit v 0 && !s.flag MAP_COMMIT_COMMIT then s.startCommit else s
  | some .map, 0x114 => s.xferWrite v
  | some .pub, 0x108 => if bit v 2 then s.pubCmd (bits v 1 0) else s
  | some .pub, 0x128 => s.retireAll
  | some .tier, 0x120 => if bit v 18 then s.startRebuild (bits v 17 0) else s
  | some .coll, 0x10C => if bit v 14 then s.collCmd v else s
  | some .pmon, 0x100 => if bit v 2 then s.clearAll else s
  | some .pmon, 0x1A0 => if bit v 0 && !old.flag PMON_SMP_CTL_EN then s.loadSeed else s
  | some .pmon, 0x800 => s.stageCount ((off - 0x800) / 8) v
  | some .pmon, 0x804 => s.loadCount ((off - 0x804) / 8) v
  | some .port, 0x110 => s.setReg addr (s.reg addr ||| v % 8)
  | some .hbm, 0x110 => s.setReg addr (s.reg addr ||| v % 4)
  | some .core, 0x110 => if bit v 2 then s.injArm g v else s
  | some .filt, 0x1A8 => if bit v 3 then s.tuckCmd (bits v 2 0) else s
  | some .ctx, 0x104 =>
    let s := if bit v 0 then s.retire i else s
    if bit v 1 then s.ctxResetWork i else s
  | some .ctx, 0x180 => s.stepWrite i v
  | some .ctx, 0x18C => if bit v 8 then s.prefCmd i v else s
  | some .win, 0x000 => s.winMoved 6
  | some .win, 0x004 => s.winMoved 7
  | _, _ => s

/-- Registers PMON_IDX banks, and registers whose stored copy is none: their value is kept elsewhere. -/
def State.storeReg (s : State) (g : Page) (d : RegDef) (addr v : Nat) : State :=
  match d.blk, d.off with
  | none, 0x008 => s
  | some .pmon, o =>
    if 0x108 ≤ o && o ≤ 0x120 then
      s.setPmonCfg (s.rd PMON_IDX_IDX) ((o - 0x108) / 4) (storeFields d false 0 v)
    else if 0x800 ≤ o then s
    else s.setReg addr (storeFields d (s.rwlLocked g) (s.reg addr) v)
  | _, _ => s.setReg addr (storeFields d (s.rwlLocked g) (s.reg addr) v)

/-- Whether a write would change a locked RWL field (spec 20 R422). -/
def State.locksOut (s : State) (g : Page) (d : RegDef) (addr v : Nat) : Bool :=
  s.rwlLocked g && d.flds.any (fun f => f.ty == .rwl && bits v f.hi f.lo != bits (s.reg addr) f.hi f.lo)

/-- The RESULT of the command a write has run, for a signed batch (14 R327): 0 where it was accepted or none ran. -/
def State.cmdResult (s : State) (g : Page) (d : RegDef) (v : Nat) : Nat :=
  match d.blk, d.off with
  | some .fw, 0x110 => if bit v 3 && !s.flag FW_STAT_BUSY then s.rd FW_STAT_RESULT else 0
  | some .live, 0x10C => if bit v 2 then s.rd LIVE_CMD_STAT_RESULT else 0
  | some .pub, 0x108 => if bit v 2 then s.rd PUB_STAT_RESULT else 0
  | some .tier, 0x120 => if bit v 18 then s.rd TIER_REBUILD_STAT_RESULT else 0
  | some .coll, 0x10C => if bit v 14 then s.rd COLL_GCMD_RESULT else 0
  | some .filt, 0x1A8 => if bit v 3 then s.rd FILT_TUCK_CMD_RESULT g.inst else 0
  | some .ctx, 0x18C => if bit v 8 then s.rd CTX_PREF_CMD_RESULT g.inst else 0
  | some .core, 0x110 => if bit v 2 && !s.flag CORE_INJ_ARMED g.inst then rcFieldRange else 0
  | _, _ => 0

/-- A write that has passed profile, lock and hold takes effect, or is refused: the state and the reason, 0 for none. The range of a
value (00 R7) is tested before the lock of its field (20 R422), which the manual does not order (DESIGN CHOICE, assumption log 154). -/
def State.doWrite (s : State) (who : Who) (g : Page) (d : RegDef) (addr v : Nat) : State × Nat :=
  let e := errPage g
  if s.rangeRefused d v then (s.err e 1, rcFieldRange)
  else if s.writeIgnored g d addr v then (s.err e 0, rcLocked)
  else
    let lockOut := s.locksOut g d addr v
    let s0 := if lockOut then s.err e 0 else s
    let s1 := State.writeEffect s (s0.storeReg g d addr v) who g d addr v
    (s1, if lockOut then rcLocked else s1.cmdResult g d v)

/-- Bits a write to a locked page still changes, beside W1C fields: PG_CTL.QUIESCE (spec 20 R423). -/
def lockFree (d : RegDef) : Nat := if d.blk.isNone && d.off = 0x008 then 2 else 0

/-- A write to a page with LOCK = 1 (spec 20 R423). -/
def State.lockedWrite (s : State) (g : Page) (d : RegDef) (addr v : Nat) : State × Nat :=
  let bad := offends d (lockFree d) (s.reg addr) v
  let s := if bad then s.err (errPage g) 0 else s
  let s := if lockFree d = 2 then s.setQuiesce g (bit v 1) else s.writeW1c d addr v
  (s, if bad then rcLocked else 0)

/-- A write that PROFILE_F takes only inside a batch (spec 14 R326). -/
def State.unsignedWrite (s : State) (g : Page) (d : RegDef) (addr v : Nat) : State × Nat :=
  let bad := offends d 0 (s.reg addr) v
  let s := if bad then ((s.err (errPage g) 0).count { blk := .sec, code := 0x01 }).err ⟨.sec, 0⟩ 16 else s
  (s.writeW1c d addr v, if bad then rcProfile else 0)

/-- Whether a write waits: for a check or reset of its page, PG_ERR aside; MAP_XFER for a commit's check (03 R71, 20 R422). -/
def State.writeWaits (s : State) (g : Page) (d : RegDef) : Bool :=
  (s.holdsWrites g && !(d.blk.isNone && d.off == 0x014)) ||
    (d.blk == some .map && d.off == 0x114 && s.flag MAP_COMMIT_COMMIT)

/-- A write to a register. -/
def State.pageWrite (s : State) (who : Who) (addr v : Nat) : State × Nat :=
  match regAt addr with
  | none => (s.unmapped, 0)
  | some (g, d) =>
    if s.profile = profileF && !who.signed && !unsignedOk g (addr % 0x1000) then s.unsignedWrite g d addr v
    else if s.hrd (errPage g) PG_CTL_LOCK == 1 then s.lockedWrite g d addr v
    else if s.writeWaits g d then
      (s.mapMgmt (fun m => { m with held := m.held ++ [(who.path, addr, BitVec.ofNat 32 v)] }), 0)
    else s.doWrite who g d addr v

/-- A window write in PROFILE_F outside a batch, the key load aside (spec 14 R326). -/
def State.windowWriteBy (s : State) (who : Who) (w : Win) (e k v : Nat) : State × Nat :=
  if s.profile = profileF && !who.signed && w.no != 8 then
    (((s.err (s.winOwner w) 0).count { blk := .sec, code := 0x01 }).err ⟨.sec, 0⟩ 16, rcProfile)
  else s.windowWrite who w e k v

/-- What a tenant's write may change of a register (spec 14 R330): the value written, or none. -/
def State.tenantValue (s : State) (addr v : Nat) : Option Nat :=
  match addr % 0x1000 with
  | 0x180 | 0x184 | 0x188 | 0x18C | 0x1B0 => some v
  | 0x148 => some (insBits (s.reg addr) 2 2 (bits v 2 2))
  | _ => none

/-- A 32-bit write on a management path (spec 02 R53, 14 R326, R330): the state, and the reason of a refusal. -/
def State.mgmtWrite (s : State) (who : Who) (addr v : Nat) : State × Nat :=
  match who.path with
  | .tenant p =>
    if s.tenantReaches p addr then
      match regAt addr, s.tenantValue addr v with
      | some _, some w => s.pageWrite who addr w
      | some _, none => (s, 0)
      | none, _ => (s.unmapped, 0)
    else (s.tenantDenied p addr, 0)
  | _ =>
    match winAt addr with
    | some (w, e, k) => s.windowWriteBy who w e k v
    | none => s.pageWrite who addr v

/-- A write with its byte enables (spec 20 R416). -/
def State.writeBe (s : State) (who : Who) (addr v : Nat) (be : BitVec 4) : State × Nat :=
  if be = 0xF then s.mgmtWrite who addr v else (s.err ⟨.dev, 0⟩ 17, 0)

/-! ### Held writes (spec 20 R422) -/

/-- Whether a held write waits on a page no longer. -/
def State.heldFree (s : State) (h : Path × Nat × Word) : Bool :=
  match regAt h.2.1 with
  | none => true
  | some (g, d) => !s.writeWaits g d

/-- Applies held writes in their order of arrival, as far as their pages take them: a write whose page waits again is held
behind those of the page. -/
def State.releaseHeld (s : State) : State :=
  let l := s.mgmt.held
  l.foldl (fun s (h : Path × Nat × Word) =>
    if s.heldFree h then (s.mgmtWrite { path := h.1, signed := true } h.2.1 h.2.2.toNat).1
    else s.mapMgmt (fun m => { m with held := m.held ++ [h] })) (s.mapMgmt (fun m => { m with held := [] }))

end Sys2Proof.Machine
end

