-- ==== Sys2Proof/Machine/Batch.lean ====
section
/-! DEFINITION. Signed batches (spec 14 R327), register-window messages (spec 21 R435 to R437), the settings load and the end
of start-up (spec 16 R375, 18 R399, R401, 21 R434), and the ends of checks, resets, commits and reloads with what they release. -/

namespace Sys2Proof.Machine

/-! ### Register-window messages (21 R436, R437) -/

/-- Address and port an answer leaves from: those in force (R435). -/
def State.netFrom (s : State) : Nat × Nat :=
  (((s.mgmt.netForce[0]?).getD 0).toNat, bits (((s.mgmt.netForce[3]?).getD 0).toNat) 15 0)

/-- Answers a message: its operation's response, an outcome, and the dwords read. -/
def State.answerWindow (s : State) (g : Datagram) (outcome : Byte) (data : List Word) : State :=
  s.emit (.window s.netFrom.1 s.netFrom.2 g.srcIp g.srcPort (g.op ||| 0x80) outcome g.tag g.addr.toNat g.countM1.toNat data)

/-- How many accesses wait for a page, a commit's check or a reload. -/
def State.waitCount (s : State) : Nat := s.mgmt.held.length + s.mgmt.heldEnt.length

/-- Carries out the accesses of a READ from dword i on. -/
def State.runReads (s : State) (a : Nat) : Nat → State × List Word
  | 0 => (s, [])
  | n + 1 =>
    let r := s.mgmtRead .eth a
    let t := State.runReads r.1 (a + 4) n
    (t.1, BitVec.ofNat 32 r.2 :: t.2)

/-- Carries out the accesses of a WRITE from dword i on, up to one that is held: then the rest of the message waits behind it. -/
def State.runWrites (g : Datagram) : Nat → Nat → State → State
  | 0, _, s => s.answerWindow g 0 []
  | n + 1, i, s =>
    let s' := (s.mgmtWrite { path := .eth } (g.addr.toNat + 4 * i) ((g.data[i]?).getD 0).toNat).1
    if s.waitCount < s'.waitCount then s'.mapMgmt (fun m => { m with msgs := m.msgs ++ [(g, i + 1)] })
    else State.runWrites g n (i + 1) s'

/-- Number of registers a message names. -/
def dgCount (g : Datagram) : Nat := g.countM1.toNat + 1

/-- Whether a message breaks the layout (R437). -/
def dgMalformed (g : Datagram) : Bool :=
  g.ver != 1 || !(g.op == 1 || g.op == 2) || g.rsvd != 0 || g.addr.toNat % 4 != 0 || 255 < g.countM1.toNat
    || 2 ^ 26 < g.addr.toNat + 4 * dgCount g || g.len != (if g.op = 2 then 16 + 4 * dgCount g else 16)

/-- Whether a source passes the MGR filter (DEV_MGR, R437). -/
def State.mgrPasses (s : State) (ip : BitVec 32) : Bool :=
  (ip.toNat ^^^ s.rd DEV_MGR_SRC) &&& s.rd DEV_MGR_MASK_MASK == 0

/-- A register-window datagram arrives (R436, R437). -/
def State.datagram (s : State) (g : Datagram) : State :=
  if !s.mgmtUp then s
  else if !g.sumOk || !s.mgrPasses g.srcIp || g.op == 0x81 || g.op == 0x82 then s.addSat DEV_NET_STAT_DROPPED
  else if dgMalformed g then (s.err ⟨.dev, 0⟩ 18).answerWindow g 1 []
  else if g.op = 1 then
    let r := s.runReads g.addr.toNat (dgCount g)
    r.1.answerWindow g 0 r.2
  else State.runWrites g (dgCount g) 0 s

/-- Whether the access a message waits behind still waits. -/
def State.msgWaits (s : State) (m : Datagram × Nat) : Bool :=
  let a := m.1.addr.toNat + 4 * (m.2 - 1)
  s.mgmt.held.any (fun (h : Path × Nat × Word) => h.1 == .eth && h.2.1 == a) ||
    match winAt a with
    | some (w, e, _) => s.mgmt.heldEnt.any (fun (h : Path × Nat × Nat) => h.1 == .eth && h.2.1 == w.no * 2 ^ 20 + e)
    | none => false

/-- Goes on with the messages whose held access has taken effect, in order of arrival. -/
def State.releaseMsgs (s : State) : State :=
  let l := s.mgmt.msgs
  l.foldl (fun s (m : Datagram × Nat) =>
    if s.msgWaits m then s.mapMgmt (fun g => { g with msgs := g.msgs ++ [m] })
    else State.runWrites m.1 (dgCount m.1 - m.2) m.2 s) (s.mapMgmt (fun m => { m with msgs := [] }))

/-- After a check, reset, commit or reload has ended: what was held goes on (20 R422, 03 R62). -/
def State.releaseAll (s : State) : State := s.releaseEnts.releaseHeld.releaseMsgs

/-- NET_CONFIG_APPLY: the written address settings take effect (R435). -/
def State.netApply (s : State) : State :=
  let f := [s.rd DEV_IP4_ADDR, s.rd DEV_IP4_MASK_MASK, s.rd DEV_IP4_GW_GW,
    s.rd DEV_UDP_REG_PORT + s.rd DEV_UDP_MCTP_PORT * 2 ^ 16].map (BitVec.ofNat 32)
  (s.mapMgmt (fun m => { m with netForce := f })).set DEV_NET_STAT_IP_VALID
    (b2n (s.flag DEV_NET_STAT_LINK_UP && s.rd DEV_IP4_ADDR != 0))

/-! ### Ends of checks -/

/-- The consistency check of a page ends. -/
def State.enableDone (s : State) (g : Page) (selfTestOk : Bool) : State :=
  if s.checking g then (s.endEnable g selfTestOk).releaseAll else s

/-- The soft reset of a page ends. -/
def State.resetDone (s : State) (g : Page) : State := if s.resetting g then (s.endReset g).releaseAll else s

/-- The check of the pending bank ends (03 R60); a slice that a new map leaves without a usable core loses its procedures (08
R202). -/
def State.commitCheckDone (s : State) : State :=
  if s.flag MAP_COMMIT_COMMIT then (if s.commitRefusal.isNone then s.endCommit.loseAll else s.endCommit).releaseAll else s

/-- The reload of the pending bank ends (03 R62). -/
def State.reloadDone (s : State) : State := (s.set MAP_STAT_PENDING_READY 1).releaseAll

/-! ### Writes whose check the writer waits for: signed batches, the Fabric Management API, the settings (14 R327, 02 R55, 16 R375) -/

/-- The self-test's outcome, where the writer waits for the check of a CORE page: a free value (08 R204). -/
def State.selfTest (s : State) (g : Page) : Bool × State :=
  if g.blk = .core then (s.fresh.1 % 2 == 1, s.fresh.2) else (true, s)

/-- Ends the reset and then the check a page runs: the state, and the reason of a refused enable. -/
def State.settlePage (s : State) (g : Page) : State × Nat :=
  let s := s.resetDone g
  if s.checking g then
    let t := s.selfTest g
    let s := t.2.enableDone g t.1
    (s, if s.enabled g.blk g.inst then rcOk else s.hrd g PG_REASON_CODE)
  else (s, rcOk)

/-- Ends a commit's check: the state, and the reason of a refused commit. -/
def State.settleCommit (s : State) : State × Nat :=
  if s.flag MAP_COMMIT_COMMIT then
    let s := s.commitCheckDone
    (s, s.rd MAP_STAT_RESULT)
  else (s, rcOk)

/-- A write whose writer waits until it has taken effect: what it would be held behind ends first, and the check it starts ends
before the next write. -/
def State.writeThrough (s : State) (who : Who) (addr v : Nat) : State × Nat :=
  match winAt addr with
  | some (w, _, _) =>
    let s := if w.no ≤ 4 && s.pendHeld then s.settleCommit.1.reloadDone else s
    s.mgmtWrite who addr v
  | none =>
    match regAt addr with
    | none => s.mgmtWrite who addr v
    | some (g, _) =>
      let s := ((s.settlePage g).1.settleCommit).1
      let r := s.mgmtWrite who addr v
      if r.2 != 0 then r
      else
        let a := r.1.settlePage g
        let b := a.1.settleCommit
        (b.1, if a.2 != 0 then a.2 else b.2)

/-! ### Signed batches (14 R327) -/

/-- Applies the entries of a batch in order, up to the first refused one: its index and reason. A DEV_RESET ends the batch. -/
def State.batchEntries (path : Path) : Nat → List (Nat × Word) → State → State × Option (Nat × Nat)
  | _, [], s => (s, none)
  | i, e :: t, s =>
    let r := s.writeThrough { path, signed := true } (4 * (e.1 % 2 ^ 24)) e.2.toNat
    if r.2 != 0 then (r.1, some (i, r.2))
    else if r.1.mgmtUp then State.batchEntries path (i + 1) t r.1
    else (r.1, none)

/-- The reason a batch is refused before any entry, 0 for none. -/
def State.batchCheck (s : State) (b : Batch) : Nat :=
  if !b.keyOk then 0x0701 else if !b.sigOk then 0x0702 else if b.seq ≤ s.fw.secSeq then 0x0703 else 0

/-- Ends a batch with its result. -/
def State.batchResult (s : State) (code : Nat) : State :=
  let s := s.set SEC_BATCH_CMD_RESULT code
  if code = 0 then s else s.err ⟨.sec, 0⟩ 17

/-- Checks and applies a batch; an applied one is followed by a save where DEV_SAVE.AUTO = 1 (21 R434). -/
def State.runBatch (s : State) (path : Path) (b : Batch) : State :=
  if s.profile != profileF then s.batchResult rcProfile
  else
    let code := s.batchCheck b
    if code != 0 then s.batchResult code
    else
      let s := s.mapFw (fun f => { f with secSeq := b.seq })
      let r := State.batchEntries path 0 b.entries s
      if !r.1.mgmtUp then r.1
      else
        let s := match r.2 with
          | some (i, code) => (r.1.set SEC_BATCH_IDX_INDEX i).batchResult code
          | none => r.1.batchResult rcOk
        if s.flag DEV_SAVE_AUTO then s.settingsGo else s

/-- The read of SEC_BATCH ends: its batch is checked, or the read's failure is reported (R327). -/
def State.batchReadDone (s : State) (ok : Bool) (b : Batch) : State :=
  if !s.flag SEC_BATCH_CMD_GO then s
  else
    let s := s.set SEC_BATCH_CMD_GO 0
    if ok then s.runBatch .bar0 b else s.batchResult 0x0705

/-! ### Start-up steps 7 and 8 (16 R375, R376; 18 R399 to R401; 21 R434) -/

/-- The order in which pages are enabled: along R19, PORT pages last. -/
def enableRank : Block → Nat
  | .map => 0 | .keys => 1 | .cmpr => 2 | .qos => 3 | .live => 4 | .pmon => 5 | .home => 6 | .repl => 7 | .pub => 8 | .tier => 9
  | .pref => 10 | .atom => 11 | .core => 12 | .filt => 13 | .coll => 14 | .ctx => 15 | .port => 17 | _ => 16

/-- Every savable field back at its reset value, PG_CTL aside. -/
def State.clearSettings (s : State) : State :=
  let s := s.regs.foldl (fun s (r : Nat × Word) =>
    let m := if r.1 % 0x1000 = 0x008 then 0 else savableMask r.1
    s.setReg r.1 (r.2.toNat - (r.2.toNat &&& m) + (regReset r.1 &&& m))) s
  { s with qos := [], pmon := { s.pmon with cfg := [] } }

/-- Applies one saved register. -/
def State.applySetting (s : State) (r : Nat × Word) : State :=
  if 0x4000000 ≤ r.1 then s.setPmonCfg ((r.1 - 0x4000000) / 8) (r.1 % 8) r.2.toNat
  else if r.1 % 0x1000 = 0x008 then
    match pageOf r.1 with
    | some g => s.setQuiesce g (bit r.2.toNat 1)
    | none => s
  else
    let m := savableMask r.1
    s.setReg r.1 (s.reg r.1 - (s.reg r.1 &&& m) + (r.2.toNat &&& m))

/-- The pages whose saved ENABLE is 1, in the order of their enabling. -/
def Settings.enables (t : Settings) : List Page :=
  sortBy (fun (a b : Page) => enableRank a.blk < enableRank b.blk) (t.regs.filterMap (fun (r : Nat × Word) =>
    if r.1 < 0x4000000 && r.1 % 0x1000 = 0x008 && bit r.2.toNat 0 then pageOf r.1 else none))

/-- Step 7: the saved settings are applied, or reset where their major format is another. -/
def State.loadSettings (s : State) : State :=
  let fmt := s.slotFmt (s.rd FW_STAT_ACTIVE)
  match s.fw.saved.forFmt fmt with
  | some t =>
    let s := t.regs.foldl State.applySetting s.clearSettings
    { s with qos := t.qos }
  | none => (s.clearSettings.mapFw (fun f => { f with saved := { fmt := fmt } })).set DEV_STATUS_SETTINGS_RESET 1

/-- Step 8: each page whose saved ENABLE is 1 is enabled; a refusal leaves it disabled. -/
def State.enableSaved (s : State) : State :=
  s.fw.saved.enables.foldl (fun s g => ((s.startEnable g).settlePage g).1) s

/-- READY: steps 7 and 8 end, RST_STAT.READY = 1, the boot-attempt count of the running slot is cleared, and the anti-rollback
counter follows where FW_CTL.AUTO_SVN = 1 (18 R395, R399). -/
def State.becomeReady (s : State) : State :=
  if s.rd RST_STAT_STEP != 7 || s.flag RST_STAT_STOPPED || s.power.supply != .on || s.power.refLost || s.power.resetLow then s
  else
    let s := s.loadSettings.enableSaved
    let s := (s.set RST_STAT_STEP 0xF).set RST_STAT_READY 1
    let s := s.mapFw (fun f => { f with boots := Tbl.putD f.boots (s.rd FW_STAT_ACTIVE) 0 0 })
    if s.flag FW_CTL_AUTO_SVN then s.advanceSvn else s

end Sys2Proof.Machine
end

