-- ==== Sys2Proof/Machine/Fm.lean ====
section
/-! DEFINITION. Fabric Management API commands (spec 02 R54, R55, 20 R424, 14 R326). Return codes are those of the CXL
specification the manual names (PRESUMED, assumption log 36); which register writes a command stands for is the model's choice
where the manual names none (assumption log 35). -/

namespace Sys2Proof.Machine

/-- Return codes. -/
abbrev fmSuccess : Byte := 0x00
abbrev fmBackground : Byte := 0x01
abbrev fmInvalidInput : Byte := 0x02
abbrev fmUnsupported : Byte := 0x03
abbrev fmBusy : Byte := 0x06
abbrev fmSecurity : Byte := 0x13

/-- Whether MCTP runs on a path: the three management paths, not a tenant's route entry (R53). -/
def mctpPath : Path → Bool
  | .tenant _ => false
  | _ => true

/-- Whether a command on a path is answered. -/
def State.fmUp (s : State) (q : Req) : Bool := s.mgmtUp && mctpPath q.path

/-- Answers a command with a return code, an extended status and a payload. -/
def State.fm (s : State) (q : Req) (code : Byte) (ext : Nat) (payload : List Nat) : State :=
  if s.fmUp q then s.emit (.fm q code ext payload) else s

/-- Answers a command that succeeds. -/
def State.fmOk (s : State) (q : Req) (payload : List Nat) : State := s.fm q fmSuccess 0 payload

/-- Answers with one value the manual does not give. -/
def State.fmFree (s : State) (q : Req) (fields : List Nat) : State := s.fresh.2.fmOk q (fields ++ [s.fresh.1])

/-- A command that changes configuration (R55, 14 R326): Invalid Security State in PROFILE_F, Invalid Input with the reason where
the writes are refused. -/
def State.fmConfig (s : State) (q : Req) (run : State → State × Nat) : State :=
  if !s.fmUp q then s
  else if s.profile = profileF then s.fm q fmSecurity 0 []
  else
    let r := run s
    if r.2 = 0 then r.1.fmOk q [] else r.1.fm q fmInvalidInput r.2 []

/-- A configuration command that runs in the background (R55): Busy while another does. -/
def State.fmStart (s : State) (q : Req) (op : Nat) (run : State → State × Nat) : State :=
  if !s.fmUp q then s
  else if s.profile = profileF then s.fm q fmSecurity 0 []
  else if s.mgmt.background.isSome then s.fm q fmBusy 0 []
  else
    let r := run s
    if r.2 = 0 then (r.1.mapMgmt (fun m => { m with background := some op })).fm q fmBackground 0 []
    else r.1.fm q fmInvalidInput r.2 []

/-! ### Information, events, logs -/

/-- Background Operation Status: whether one runs, and its opcode. -/
def State.fmStatus (s : State) (q : Req) : State := s.fmOk q [b2n s.mgmt.background.isSome, s.mgmt.background.getD 0]

/-- Set Response Message Limit. -/
def State.fmLimit (s : State) (q : Req) (v : Nat) : State :=
  if s.fmUp q then (s.mapMgmt (fun m => { m with msgLimit := v })).fmOk q [v] else s

/-- Get Event Records: block, instance, bit and CLK_TS of each (20 R424), oldest first. -/
def State.fmEvents (s : State) (q : Req) : State :=
  s.fmOk q (s.mgmt.events.flatMap (fun (e : Nat × Nat × Nat × Nat) => [e.1, e.2.1, e.2.2.1, e.2.2.2]))

/-- Clear Event Records: all, or the n oldest. -/
def State.fmClear (s : State) (q : Req) (all : Bool) (n : Nat) : State :=
  if s.fmUp q then (s.mapMgmt (fun m => { m with events := if all then [] else m.events.drop n })).fmOk q [] else s

/-- Set Event Interrupt Policy. -/
def State.fmPolicy (s : State) (q : Req) (v : Word) : State :=
  if s.fmUp q then (s.mapMgmt (fun m => { m with policy := v })).fmOk q [] else s

/-! ### Physical and virtual switch -/

/-- Get Physical Port State: ENABLED, ROLE and PORT_LSTAT of a logical port. -/
def State.fmPort (s : State) (q : Req) (p : Nat) : State :=
  s.fmOk q [p, b2n (s.enabled .port p), s.rd PORT_CFG_ROLE p, s.reg (PORT_LSTAT_UP.ref.at ⟨.port, p⟩)]

/-- PG_CTL of a page as a write keeps it: ENABLE and QUIESCE. -/
def State.ctlNow (s : State) (g : Page) : Nat := s.hrd g PG_CTL_ENABLE + 2 * s.hrd g PG_CTL_QUIESCE

/-- Physical Port Control: 0 disables the port, 1 enables it, 2 resets it (assumption log 35). -/
def State.fmControl (s : State) (p op : Nat) : State × Nat :=
  let g : Page := ⟨.port, p⟩
  let c := s.ctlNow g
  let who : Who := { path := .eth }
  match op with
  | 0 => s.writeThrough who (PG_CTL_ENABLE.at g) (insBits c 0 0 0)
  | 1 => s.writeThrough who (PG_CTL_ENABLE.at g) (insBits c 0 0 1)
  | 2 => s.writeThrough who (PG_CTL_ENABLE.at g) (insBits c 2 2 1)
  | _ => (s, rcFieldRange)

/-- Send PPB CXL.io Configuration Request: the request goes out on the port; what it reads is the partner's. -/
def State.fmConfigReq (s : State) (q : Req) (p : Nat) (reg : BitVec 12) (write : Bool) (v : Word) : State :=
  if !s.fmUp q then s
  else if s.profile = profileF && write then s.fm q fmSecurity 0 []
  else if !s.up p then s.fm q fmInvalidInput rcDependency []
  else
    let s := s.sendW p (s.cxlTc p) none kindForward (.ioCfg write reg v)
    if write then s.fmOk q [] else s.fmFree q []

/-- Entries of the pending bank changed and committed, as window writes and MAP_COMMIT would: a commit under way and the reload
that follows it end first (20 R431); a refused commit leaves the pending bank as it was. -/
def State.fmCommit (s : State) (change : State → State) : State × Nat :=
  let s := if s.pendHeld then s.settleCommit.1.reloadDone else s
  if s.hrd ⟨.map, 0⟩ PG_CTL_LOCK == 1 then (s, rcLocked)
  else
    let old := s.map.pend
    let r := (change s).startCommit.settleCommit
    if r.2 = 0 then r else ({ r.1 with map := { r.1.map with pend := old } }, r.2)

/-- Gives a binding of the pending bank the slices of a list, or takes them; a binding without slices is not VALID. -/
def State.bindSlices (p : Nat) (on : Bool) (sl : List Nat) (s : State) : State :=
  let e := s.map.pend.bind p
  let m := sl.foldl (fun m i => insBits m i i (b2n on)) (bdSlices e)
  let e := insBits (insBits e 511 256 m) 0 0 (b2n (m != 0))
  let e := match sl, on with
    | i :: _, true => insBits e 47 32 (slTenant (s.map.pend.slice i))
    | _, _ => e
  s.putPend 2 p e

/-- Bind vPPB: virtual switch vcs is slice vcs of the port's binding (assumption log 35). -/
def State.fmBind (s : State) (vcs vppb p : Nat) : State × Nat :=
  let r := s.fmCommit (State.bindSlices p true [vcs])
  if r.2 = 0 then (r.1.mapMgmt (fun m => { m with vppb := Tbl.put m.vppb (256 * vcs + vppb) p }), 0) else r

/-- Unbind vPPB. -/
def State.fmUnbind (s : State) (vcs vppb : Nat) : State × Nat :=
  match Tbl.get? s.mgmt.vppb (256 * vcs + vppb) with
  | none => (s, rcDependency)
  | some p =>
    let r := s.fmCommit (State.bindSlices p false [vcs])
    if r.2 = 0 then (r.1.mapMgmt (fun m => { m with vppb := Tbl.del m.vppb (256 * vcs + vppb) }), 0) else r

/-- Get Virtual CXL Switch Info: the vPPBs bound, with their ports. -/
def State.fmVcs (s : State) (q : Req) (vcs : Nat) : State :=
  s.fmOk q ((s.mgmt.vppb.filter (fun (b : Nat × Nat) => b.1 / 256 == vcs)).flatMap (fun (b : Nat × Nat) => [b.1 % 256, b.2]))

/-- Generate AER Event: the error goes as a CXL.io message to the host of the vPPB, on the port it is bound to (assumption log
170). -/
def State.fmAer (s : State) (q : Req) (vcs vppb : Nat) (err : Word) : State :=
  if !s.fmUp q then s
  else match Tbl.get? s.mgmt.vppb (256 * vcs + vppb) with
    | none => s.fm q fmInvalidInput rcDependency []
    | some p =>
      if !s.up p then s.fm q fmInvalidInput rcDependency []
      else (s.sendW p (s.cxlTc p) none kindForward (.ioAer vppb err)).fmOk q []

/-- Tunnel Management Command: towards trays only; the response carries what the tray answers, a free value (R54). -/
def State.fmTunnel (s : State) (q : Req) (p : Nat) (payload : List Byte) : State :=
  if !s.fmUp q then s
  else if s.role p != .tray || !s.up p then s.fm q fmInvalidInput rcRole []
  else (s.sendQ p 3 (.mctp payload)).fmFree q []

/-! ### Dynamic capacity -/

/-- The extents a leaf may access under the current map. -/
def State.portExtents (s : State) (p : Nat) : List Nat :=
  (s.map.cur.extents.filter (fun (e : Nat × Nat) => s.map.cur.portMay p e.2)).map (·.1)

/-- Set DC Region Configuration: the register writes it carries, up to the first refused one. -/
def State.fmWrites : List (Nat × Word) → State → State × Nat
  | [], s => (s, rcOk)
  | e :: t, s =>
    let r := s.writeThrough { path := .eth } e.1 e.2.toNat
    if r.2 = 0 then State.fmWrites t r.1 else r

/-- Initiate Dynamic Capacity Add and Release: the owner slices of the extents enter or leave the port's binding. -/
def State.fmDcd (s : State) (p : Nat) (on : Bool) (xs : List Nat) : State × Nat :=
  s.fmCommit (State.bindSlices p on (xs.map (fun x => exOwner (s.map.pend.extent x))))

/-- The background operation ends (R55). -/
def State.fmDone (s : State) : State := s.mapMgmt (fun m => { m with background := none })

end Sys2Proof.Machine
end

