-- ==== Sys2Proof/Machine/Traffic.lean ====
section
/-! DEFINITION. Messages that arrive at a port, from the link to the unit that serves them (spec 01 R14, R15, R467; 02 R50, R466;
03 R57, R58, R67 to R70; 04 R79, R85 to R89; 05 R105, R118 to R126; 09 R208, R212; 15 R341, R344, R346; 20 R419; 21 R438), and the
work that goes on when something it waited for has happened. -/

namespace Sys2Proof.Machine

/-! ### What a message is -/

/-- The port a message came by. -/
def ingressPort : Instr → Option PortId
  | .rd p _ | .wr p _ _ | .wrMask p _ _ _ | .rspData p _ _ | .rsp p _ | .atom p _ _ | .atomRsp p _ _ | .atomAck p _
  | .publish p _ _ | .openReq p _ _ | .close p _ _ | .replReq p _ _ | .replInv p _ _ | .rgnInv p _ _ | .pubRsp p _ _
  | .trigger _ p _ _ _ | .coll p _ _ | .collRes p _ _ | .ydFence p _
  | .hb p _ _ _ | .suspect p _ | .withdraw p _ | .verdict p _ | .rejoin p _ | .rejoinAck p _ | .fenceEntry p _
  | .give p _ | .take p _ | .handoffCommit p _ | .commitAck p _
  | .stitchKey p _ _ _ | .bestRsp p _ _ _ _ | .allRsp p _ _ _ _ | .tuckContinue p _ | .tuckEntry p _ _ _ | .tuckAck p _
  | .tuckAbortMsg p _
  | .memRd p _ _ _ _ | .memInv p _ _ _ | .memWr p _ _ _ _ _ _ _ | .birsp p _ _ | .biconflict p _ _ | .cxlIoMemWr p _ _ _ _
  | .cxlIoMemRd p _ _ _ _ | .atomicOp p _ _ _ _ _ _ _ | .cfgRd p _ _ | .hostCpl p _ _ _ _ | .collWindowWrite p _ _ _ _ _ => some p
  | _ => none

/-- A message that CXL carries; every other one is a YD message. -/
def isCxl : Instr → Bool
  | .memRd _ _ _ _ _ | .memInv _ _ _ _ | .memWr _ _ _ _ _ _ _ _ | .birsp _ _ _ | .biconflict _ _ _ | .cxlIoMemWr _ _ _ _ _
  | .cxlIoMemRd _ _ _ _ _ | .atomicOp _ _ _ _ _ _ _ _ | .cfgRd _ _ _ | .hostCpl _ _ _ _ _ | .collWindowWrite _ _ _ _ _ _ => true
  | .trigger via _ _ _ _ => via != .yd
  | _ => false

/-- Heartbeats and LIVE messages, which every TRUNK link carries (15 R346, R349). -/
def isLiveness : Instr → Bool
  | .hb _ _ _ _ | .suspect _ _ | .withdraw _ _ | .verdict _ _ | .rejoin _ _ | .rejoinAck _ _ | .fenceEntry _ _ => true
  | _ => false

/-- Class-0 messages (02 R42). -/
def isClass0 : Instr → Bool
  | .give _ _ | .take _ _ | .handoffCommit _ _ | .commitAck _ _ => true
  | c => isLiveness c

/-- New work that a quiescing port holds (02 R466). -/
def portHolds : Instr → Bool
  | .rd _ _ | .wr _ _ _ | .wrMask _ _ _ _ | .atom _ _ _ | .publish _ _ _ | .openReq _ _ _ | .close _ _ _ | .replReq _ _ _
  | .replInv _ _ _ | .rgnInv _ _ _ | .trigger _ _ _ _ _ | .coll _ _ _ | .memRd _ _ _ _ _ | .memInv _ _ _ _ | .cxlIoMemWr _ _ _ _ _
  | .cxlIoMemRd _ _ _ _ _ | .atomicOp _ _ _ _ _ _ _ _ | .cfgRd _ _ _ | .collWindowWrite _ _ _ _ _ _ | .stitchKey _ _ _ _
  | .bestRsp _ _ _ _ _ | .allRsp _ _ _ _ _ | .tuckContinue _ _ | .tuckEntry _ _ _ _ | .tuckAck _ _ | .tuckAbortMsg _ _ => true
  | .memWr _ _ _ _ _ _ wb _ => !wb
  | _ => false

/-- A holder's answer, which the home never refuses and never holds but while it is disabled (01 R467; 03 R67, R69). -/
def isHolder : Instr → Bool
  | .memWr _ _ _ _ _ _ wb _ => wb
  | .birsp _ _ _ | .biconflict _ _ _ => true
  | _ => false

/-- A store of a port (04 R88). -/
def isStore : Instr → Bool
  | .wr _ _ _ | .wrMask _ _ _ _ | .atom _ _ _ | .cxlIoMemWr _ _ _ _ _ | .atomicOp _ _ _ _ _ _ _ _ => true
  | .memWr _ _ _ _ _ _ wb _ => !wb
  | _ => false

/-- The destination PBR ID of a PBR flit for another port (03 R58). -/
def destPbr : Instr → Option (BitVec 12)
  | .memRd _ _ _ _ d | .memInv _ _ _ d | .memWr _ _ _ _ _ _ _ d | .cxlIoMemWr _ _ _ _ d | .cxlIoMemRd _ _ _ _ d
  | .atomicOp _ _ _ _ _ _ _ d | .hostCpl _ _ _ _ d => d
  | _ => none

/-- Whether a port of a role carries the protocol of a message (02 R27): only LEAF and TRUNK ports take CXL.mem requests, and only a
LEAF is snooped. -/
def Role.carries (r : Role) : Instr → Bool
  | .memRd _ _ _ _ _ | .memInv _ _ _ _ | .memWr _ _ _ _ _ _ _ _ | .trigger .cxlMem _ _ _ _ => r == .leaf || r == .trunk
  | .birsp _ _ _ | .biconflict _ _ _ => r == .leaf
  | _ => true

/-! ### The link -/

/-- What a link does with an arriving message: takes it, keeps it for the exit from L1, or carries no such message. -/
inductive Gate where
  | pass | wait | drop
deriving DecidableEq, Repr

/-- Whether a port's link carries an arriving message now (02 R27, R30, R50, R52, R55; 15 R346, R349; 16 R377). -/
def State.gate (s : State) (p : Nat) (c : Instr) : Gate :=
  let ide := s.rd PORT_LSTAT_IDE_ACTIVE p == 1
  let early : Bool := match c with | .cfgRd _ _ _ => !s.flag RST_STAT_READY | _ => false
  if s.rd PORT_LSTAT_PM p == 2 && isCxl c then .wait
  else if s.rd PORT_LSTAT_UP p == 0 || (s.rd PORT_LSTAT_MODE p == 1) == isCxl c || !(s.role p).carries c then .drop
  else if !s.flag RST_STAT_READY && !early then .drop
  else if !isCxl c && !(s.port p).initRx then .drop
  else if s.rd PORT_CFG_IDE_REQ p == 1 && !ide && !early then .drop
  else if s.rd PORT_FSTAT_IDE_INSECURE p == 1 && !isClass0 c && !early then .drop
  else if s.role p == .trunk && s.rd LIVE_STAT_STATE == lsJoining && !isLiveness c then .drop
  else .pass

/-- Whether tenant traffic of a port is refused: the device is self-fenced or the port is fenced (15 R344, R346). -/
def State.barred (s : State) (p : Nat) : Bool := s.selfFenced || s.rd PORT_FSTAT_FENCED p == 1

/-- Holds a command at a block's input with its epoch tag (01 R467; 20 R419; 03 R63). -/
def State.block (s : State) (e : Nat) (c : Instr) : State :=
  { s with home := { s.home with blocked := s.home.blocked ++ [held e c] } }

/-- Leaves a command in its port's ingress buffer, behind which the port's later ones wait (03 R70; 04 R85). -/
def State.backPressure (s : State) (p e : Nat) (c : Instr) : State :=
  s.modPort p (fun x => { x with held := x.held ++ [held e c] })

/-- Holds a command that finds no place at the home: in its port's ingress buffer on CXL, else at the home's input, its credit withheld
(03 R70; 04 R85). -/
def State.stall (s : State) (p e : Nat) (c : Instr) : State := if isCxl c then s.backPressure p e c else s.block e c

/-! ### Refusals -/

/-- Refuses a request DENIED, in the form of its kind, and counts ACCESS_DENIED (03 R67; 01 R467). -/
def State.deny (s : State) (p : Nat) (c : Instr) (addr : Option Nat) : State :=
  match c with
  | .trigger .yd _ h _ _ => (s.countDenied p addr).rsp p h stDenied
  | .trigger .cxlMem _ h _ _ => (s.countDenied p addr).sendQ p 1 (.memCmp h.tag grNone)
  | .trigger .cxlIo _ _ _ _ => s.countDenied p addr
  | .publish _ h _ | .openReq _ h _ | .close _ h _ | .replReq _ h _ | .replInv _ h _ | .rgnInv _ h _ =>
    (s.countDenied p addr).pubRsp p h stDenied 0 0 false false
  | .coll _ h _ =>
    let gid := bits h.arg.toNat 11 0
    (s.collCount 0x02 p).collRefuse gid p (s.group gid) h.tag.toNat stDenied
  | .collWindowWrite _ _ _ _ _ _ => s.collCount 0x02 p
  | c => (s.countDenied p addr).refuseCmd c stDenied

/-! ### The peer path (01 R15) -/

/-- Passes a message other than a request on to a FEID where the two ports' bindings permit it, else it is dropped and counted (01
R15). -/
def State.transitTo (s : State) (p : Nat) (dst : Feid) (send : State → Nat → State) : State :=
  match s.portOfFeid dst with
  | none => s
  | some e => if s.mayPass p e then send s e else s.countDenied p none

/-- A read of a page of another home passes through: it is counted, and a replica asked for where PEER_REQ_EN is set and the
window has seen PEER_MIN of them (04 R96). -/
def State.countForward (s : State) (home : Feid) (a : Nat) : State :=
  let page := a / 4096
  let k := peerPageKey home page
  if !(s.enabled .repl && s.flag REPL_CTL_PEER_REQ_EN) then s
  else
    let n := (Tbl.get s.home.repl.fwdReads k (0, 0)).1 + 1
    let s := s.mapRepl (fun r => { r with fwdReads := Tbl.put r.fwdReads k (n, 0) })
    let known := (Tbl.get? s.home.repl.asked k).isSome || (Tbl.get? s.home.repl.mine k).isSome
    if known || n < s.rd REPL_CTL_PEER_MIN then s
    else
      let r := s.freshTag
      (r.2.mapRepl (fun m => { m with asked := Tbl.put m.asked k (page, r.1) })).sendYdQ home 1 (replMsg r.2 home 0x10 page r.1)

/-- Whether a leaf's OPEN or CLOSE of another home's region is answered here: from a region replica, a pin counted here, or the reply
cache (05 R116, R121). -/
def State.pubHere (s : State) (h : Hdr) (slots : List Slot) : Bool :=
  s.enabled .pub &&
    ((match s.rcFind h.src (pubIncarn h) h.tag with | some e => e.print_ == pubKind h + pubRegion h * 2 ^ 8 | none => false) ||
      (if pubKind h = 2 then (s.replicaFor h slots).isSome else (s.localPin h slots).isSome))

/-- Judges an OPEN or CLOSE that is answered here (05 R116). -/
def State.judgeHere (s : State) (p : PortId) (h : Hdr) (slots : List Slot) : State :=
  if pubKind h = 2 then
    match s.replicaFor h slots with
    | some rep => s.openLocal p h slots rep
    | none => s.pubEnd p h stDenied 0 0
  else
    match s.localPin h slots with
    | some (rep, pins) => s.closeLocal p h rep pins
    | none => s.pubEnd p h stDenied 0 0

/-- A YD request for another device: served from a replica held here, or passed on by its FEID (01 R15; 04 R96; 05 R105, R116). -/
def State.passRequest (s : State) (e : Nat) (p : PortId) (h : Hdr) (c : Instr) : State :=
  match s.portOfFeid h.dst with
  | none => s.deny p.val c none
  | some x =>
    if !s.mayPass p.val x || s.feidFenced h.dst then s.deny p.val c none
    else
      let leaf := s.role p.val == .leaf
      match c with
      | .rd _ _ =>
        if leaf && s.peerFilled h.dst (h.arg.toNat / 4096) then s.rspData p.val h stOk (s.peerLine h.dst h.arg.toNat) false
        else (s.countForward h.dst h.arg.toNat).passOn e h.dst c
      | .openReq _ _ sl =>
        if leaf && s.pubHere h sl then s.admitPub p h sl (fun s => s.judgeHere p h sl)
        else
          let s := if leaf && s.role x == .trunk then
              { s with pub := { s.pub with fwd := s.pub.fwd ++ [{ port := p, hdr := h, slots := sl }] } }
            else s
          (s.noteTransit e h.dst 0x0D h).forwardYd p.val 0x0C h sl
      | .close _ _ sl =>
        if leaf && s.pubHere h sl then s.admitPub p h sl (fun s => s.judgeHere p h sl)
        else (s.noteTransit e h.dst 0x0D h).forwardYd p.val 0x0C h sl
      | .publish _ _ sl | .replReq _ _ sl | .replInv _ _ sl | .rgnInv _ _ sl =>
        (s.noteTransit e h.dst 0x0D h).forwardYd p.val 0x0C h sl
      | .trigger _ _ _ d _ => (s.noteTransit e h.dst 0x06 h).forwardYd p.val 0x10 h (lineSlots d)
      | .coll _ _ sl => s.forwardYd p.val 0x18 h sl
      | c => s.passOn e h.dst c

/-- Sets the address of a YD memory request. -/
def retarget (a : Nat) : Instr → Instr
  | .rd p h => .rd p { h with arg := BitVec.ofNat 64 a }
  | .wr p h d => .wr p { h with arg := BitVec.ofNat 64 a } d
  | .wrMask p h m d => .wrMask p { h with arg := BitVec.ofNat 64 a } m d
  | .atom p h sl => .atom p { h with arg := BitVec.ofNat 64 a } sl
  | c => c

/-- An access of a CXL request to a device behind a YD port: a leaf's read of a page whose replica is here is served from it, any other
is passed on (01 R15; 04 R96). -/
def State.pieceToYd (s : State) (e : Nat) (leaf : Bool) (port : Nat) (dst : Feid) (a : Nat) (src : Src) (acc : Access) : State :=
  if acc.writes then s.proxyYd e (some port) dst a src acc
  else if leaf && s.peerFilled dst (a / 4096) then s.answerRead src (acc.forRole .trunk) (s.peerLine dst a) false
  else (s.countForward dst a).proxyYd e (some port) dst a src acc

/-- A memory request for another port, named by a PEER entry or a destination PBR ID: it leaves by that port at its translated address
(01 R15; 03 R58; 21 R438). -/
def State.toPeer (s : State) (e p : Nat) (c : Instr) (x : Nat) (off : Nat → Nat) : State :=
  let a : Nat := ((cmdPieces c).head?.map (·.1)).getD 0
  let leaf := s.role p == .leaf
  if !s.mayPass p x then s.deny p c (some a)
  else if s.ydUp x then
    let dst := BitVec.ofNat 16 (s.rd PORT_LSTAT_PARTNER_FEID x)
    match c with
    | .rd q h =>
      if leaf && s.peerFilled dst (off a / 4096) then s.rspData q.val h stOk (s.peerLine dst (off a)) false
      else (s.countForward dst (off a)).passOn e dst (retarget (off a) c) (some x)
    | .wr _ _ _ | .wrMask _ _ _ _ | .atom _ _ _ => s.passOn e dst (retarget (off a) c) (some x)
    | c => (cmdPieces c).foldl (fun s q => s.pieceToYd e leaf x dst (off q.1) q.2.1 q.2.2) s
  else (cmdPieces c).foldl (fun s q => s.proxyIo e x (off q.1) q.2.1 q.2.2) s

/-- The port a PBR flit for another port leaves by: the one whose binding holds its destination PBR ID, within the pod (02 R32; 03
R58). -/
def State.pbrPort (s : State) (d : BitVec 12) : Option Nat :=
  (s.portOfPbr d.toNat).filter (fun x => !(s.role x == .trunk && s.flag PORT_CFG_POD_EDGE x))

/-- A CXL request or completion of a PBR flit for another port (03 R58). -/
def State.routePbr (s : State) (e p : Nat) (c : Instr) (d : BitVec 12) : State :=
  match c with
  | .hostCpl _ tag ok data _ =>
    match s.pbrPort d with
    | none => s
    | some x => if s.mayPass p x then s.cxlData x (.ioCpl tag (if ok then 0 else 1) data false) else s.countDenied p none
  | c =>
    if s.barred p then s.deny p c none
    else match s.pbrPort d with
      | none => s.deny p c none
      | some x => s.toPeer e p c x id

/-! ### The home's input -/

/-- Holds a request for an extent whose state does not let it be ordered (03 R69, R70, R73; 07 R160). -/
def State.hold (s : State) (e p x : Nat) (c : Instr) : State :=
  let waits : Bool := match s.ho x with | some h => h.st != .owned | none => false
  let moved := s.draining && (s.slicesDiffer x || s.map.moved.contains x)
  if !waits && !moved then s.block e c
  else if 4096 ≤ s.heldCount then (if isCxl c then s.backPressure p e c else s.refuseCmd c stBusyRetry)
  else
    match s.ho x with
    | some h =>
      if waits then s.setHo x (some { h with queue := h.queue ++ [held e c] })
      else { s with map := { s.map with held := s.map.held ++ [held e c] } }
    | none => { s with map := { s.map with held := s.map.held ++ [held e c] } }

/-- Whether a held request is a store of a port to this home. -/
def State.holdsStore (s : State) (p : Nat) (h : Held) : Bool :=
  cmdPort h.cmd == some p && isStore h.cmd &&
    match cmdPieces h.cmd with
    | [] => false
    | (a, _) :: _ =>
      match (s.bank (s.liveEpoch h.epoch)).route p a with
      | none => false
      | some r => rtAction r == .pool

/-- Whether a store of a port waits at this home without having been ordered: what the port sends later waits behind it (04 R88). -/
def State.storeHeld (s : State) (p : Nat) : Bool :=
  (s.home.blocked ++ s.map.held ++ (s.map.ho.map (fun (h : Nat × Handover) => h.2.queue)).flatten).any (s.holdsStore p)

/-- Whether a pool request of an epoch would be ordered now: everything the home judges before the ordering point lets it pass. -/
def State.homeTakes (s : State) (e p xi : Nat) : Bool :=
  let b := s.bank e
  let x := b.extent xi
  s.enabled .home && !s.quiescing .home && b.portMay p x && !s.keyless (b.tenantOf x) && s.extentCase e xi == .go &&
    !s.storeHeld p && decide (s.home.txns.length < 16384)

/-- The speculative read of a request that is denied: issued and discarded (01 R23; 04 R90). -/
def State.deniedRead (e : Nat) (s : State) (q : Nat × Src × Access) : State :=
  let x := (s.bank e).extent (q.1 / 2 ^ 30)
  let tier := s.tierOf x q.1
  if s.mayspec q.2.2 && exValid x && (tier == .t1 || tier == .t2) then
    let t : Txn := { id := 0, line := q.1 / 64, src := q.2.1, acc := q.2.2, epoch := e }
    (s.count (s.txnOcc t .home 0x02)).specDrop t
  else s

/-- A pool request at its home: it is judged by the map of its epoch tag and ordered behind what came before it (03 R57, R63, R67; 04
R84, R85, R88; 14 R322). Only a LEAF port's requests ask for cached copies (01 R14; 04 R78). -/
def State.toHome (s : State) (e p : Nat) (c : Instr) (off : Nat → Nat) : State :=
  let b := s.bank e
  let ps := (cmdPieces c).map (fun x => (off x.1, x.2))
  match ps with
  | [] => s
  | (a, _) :: _ =>
    let xi := a / 2 ^ 30
    if !s.enabled .home then s.deny p c (some a)
    else if s.quiescing .home then s.block e c
    else if !ps.all (fun x => b.portMay p (b.extent (x.1 / 2 ^ 30))) then (ps.foldl (State.deniedRead e) s).deny p c (some a)
    else if s.keyless (b.tenantOf (b.extent xi)) then
      let m := match cmdSrc c with | some f => (2, f.toNat) | none => (1, bdPbr (b.bind p))
      (s.count { blk := .keys, code := 0x01, master := some m, addr := some a, tenant := true }).refuseCmd c stContextGone
    else
      match s.extentCase e xi with
      | .denied => s.deny p c (some a)
      | .failed => s.refuseCmd c stHandoffFailed
      | .forward dst => s.passOn e dst c
      | .hold => s.hold e p xi c
      | .go =>
        if s.storeHeld p || 16384 ≤ s.home.txns.length then s.stall p e c
        else ps.foldl (fun s x => s.addTxn x.2.1 (x.2.2.forRole (s.role p)) (x.1 / 64) e) s

/-- Counts an event of the reply cache with its requester. -/
def State.atomEvent (s : State) (code : Nat) (f : Feid) : State :=
  s.count { blk := .atom, code := code, master := some (2, f.toNat), tenant := true }

/-- Whether an atomic's format is one the table lists: DLEN, OP with SIZE, alignment (05 R118). -/
def atomFormatOk (h : Hdr) (slots : List Slot) : Bool :=
  let op := atomOp slots
  let size := atomSize slots
  slots.length == (if op = 7 then 3 else 2) && atomicListed op size && h.arg.toNat % (atomicBits size / 8) == 0

/-- A YD atomic at the home: its format, its permission, its incarnation and the reply cache decide whether it is executed (05 R118,
R121 to R123). -/
def State.atomHome (s : State) (e : Nat) (p : PortId) (h : Hdr) (slots : List Slot) (off : Nat → Nat) : State :=
  let c : Instr := .atom p h slots
  let inc := atomIncarn slots
  let a := off h.arg.toNat
  let b := s.bank e
  let x := b.extent (a / 2 ^ 30)
  let print := atomOp slots + atomSize slots * 16 + h.arg.toNat * 64
  if !atomFormatOk h slots then s.refuseCmd c stDenied
  else if !s.enabled .atom || !s.enabled .home then s.deny p.val c (some a)
  else if s.quiescing .atom then s.block e c
  else if !b.portMay p.val x then s.deny p.val c (some a)
  else
    let s := s.seeIncarn h.src inc
    if s.staleIncarn h.src inc then s.refuseCmd c stDenied
    else
      match s.rcFind h.src inc h.tag with
      | some r =>
        if r.print_ != print then ((s.refuseCmd c stDenied).atomEvent 0x03 h.src).err ⟨.atom, 0⟩ 16
        else
          match r.res with
          | some v => (s.atomRsp p.val h (atomOp slots == 7) v true).atomEvent 0x02 h.src
          | none => s.rcWait h.src inc h.tag p
      | none =>
        if s.rcFull h.src then (s.refuseCmd c stBusyRetry).atomEvent 0x04 h.src
        else if s.homeTakes e p.val (a / 2 ^ 30) then (s.rcReserve h.src inc h.tag print).toHome e p.val c off
        else s.toHome e p.val c off

/-! ### Management accesses by a MGMT entry or BAR0 (21 R438; 02 R53; 20 R416) -/

/-- Reads n dwords in ascending order. -/
def State.mgmtReads (path : Path) (a : Nat) : Nat → State → State × List Byte
  | 0, s => (s, [])
  | n + 1, s =>
    let r := s.mgmtRead path a
    let t := State.mgmtReads path (a + 4) n r.1
    (t.1, bytesOf 4 r.2 ++ t.2)

/-- Writes dwords with their byte enables in ascending order; an access with none is no access. -/
def State.mgmtWrites (path : Path) : Nat → List (Word × BitVec 4) → State → State
  | _, [], s => s
  | a, w :: t, s =>
    State.mgmtWrites path (a + 4) t (if w.2 == 0 then s else (s.writeBe { path } a w.1.toNat w.2).1)

/-- The dwords of a line under a byte mask. -/
def lineDwords (d : Line) (mask : BitVec 64) : List (Word × BitVec 4) :=
  (List.range 16).map (fun i => (BitVec.ofNat 32 (d.toNat >>> (32 * i)), BitVec.ofNat 4 (mask.toNat >>> (4 * i))))

/-- A request for a management window offset, carried out dword by dword. What a window reads is granted to no cache. -/
def State.toMgmt (s : State) (path : Path) (c : Instr) (o : Nat) : State :=
  match c with
  | .rd p h => let r := State.mgmtReads path o 16 s; r.1.rspData p.val h stOk (lineOf r.2) false
  | .wr p h d => (State.mgmtWrites path o (lineDwords d fullMask) s).rsp p.val h stOk
  | .wrMask p h mask d => (State.mgmtWrites path o (lineDwords d mask) s).rsp p.val h stOk
  | .memRd p tag _ _ _ =>
    let r := State.mgmtReads path o 16 s
    r.1.answerRead (.cxlMem p.val tag) (.readUnc 0 64) (lineOf r.2) false
  | .memInv p tag _ _ => s.sendQ p.val 1 (.memCmp tag grNone)
  | .memWr p tag _ d mask _ _ _ => (State.mgmtWrites path o (lineDwords d mask) s).sendQ p.val 1 (.memCmp tag grNone)
  | .cxlIoMemWr _ _ dws _ _ => State.mgmtWrites path o dws s
  | .cxlIoMemRd p tag _ len _ =>
    let r := State.mgmtReads path (o / 4 * 4) ((o % 4 + len + 3) / 4) s
    r.1.cxlData p.val (.ioCpl tag 0 ((r.2.drop (o % 4)).take len) false)
  | c => s.refuseCmd c stDenied

/-- BAR0 of the MGMT port: aligned accesses of four or eight bytes; any other is an Unsupported Request (20 R416). -/
def State.bar0 (s : State) (c : Instr) : State :=
  match c with
  | .cxlIoMemWr _ a dws _ _ =>
    let n := 4 * dws.length
    if (n = 4 || n = 8) && a.toNat % n = 0 then s.toMgmt .bar0 c (a.toNat % 2 ^ 26) else s
  | .cxlIoMemRd _ _ a len _ =>
    if (len = 4 || len = 8) && a.toNat % len = 0 then s.toMgmt .bar0 c (a.toNat % 2 ^ 26) else s.refuseCmd c stDenied
  | c => s.refuseCmd c stDenied

/-! ### Windows of the route table -/

/-- Triggers context x from a request that is one, under its epoch tag (09 R208, R212; 01 R18). -/
def State.toTrigger (s : State) (e p : Nat) (c : Instr) (x : Nat) : State :=
  let waits := s.enabled .ctx x && s.quiescing .ctx x
  match c with
  | .rd _ h => s.rspData p h stOk 0 false
  | .wr _ h d => if waits then s.block e c else s.trigger e p x d.toNat h.poison false (fun s st => s.rsp p h st)
  | .wrMask _ h _ d => if waits then s.block e c else s.trigger e p x d.toNat h.poison false (fun s st => s.rsp p h st)
  | .trigger via _ h d whole =>
    if waits then s.block e c
    else
      s.trigger e p x d.toNat h.poison whole (fun s st =>
        match via with
        | .yd => s.rsp p h st
        | .cxlMem => s.sendQ p 1 (.memCmp h.tag grNone)
        | .cxlIo => s)
  | .memRd _ tag _ _ _ => s.answerRead (.cxlMem p tag) (.readUnc 0 64) 0 false
  | .memInv _ tag _ _ => s.sendQ p 1 (.memCmp tag grNone)
  | .memWr _ tag _ d mask poison _ _ =>
    if waits then s.block e c
    else s.trigger e p x d.toNat poison (mask == fullMask) (fun s _ => s.sendQ p 1 (.memCmp tag grNone))
  | .cxlIoMemWr _ a dws poison _ =>
    let r := ioLine (a.toNat / 64) a.toNat dws
    if waits then s.block e c
    else s.trigger e p x r.1.toNat poison (a.toNat % 64 == 0 && dws.length == 16 && r.2 == fullMask) (fun s _ => s)
  | .cxlIoMemRd _ tag _ len _ => s.cxlData p (.ioCpl tag 0 (List.replicate len 0) false)
  | c => s.deny p c none

/-- Takes a contribution where the engine accepts one now, else it waits. -/
def State.orBlock (s : State) (e : Nat) (c : Instr) (r : Option State) : State := r.getD (s.block e c)

/-- A write to a member's collective window, or a read of one, whose data the spec does not state (11 R259). -/
def State.toColl (s : State) (e p : Nat) (c : Instr) (t : Nat) : State :=
  let gid := t / 4096
  let off := t % 4096
  let waits := s.enabled .coll && s.quiescing .coll
  match c with
  | .memWr _ tag _ d mask poison _ _ =>
    if waits then s.block e c
    else
      match s.collWindow e p gid off d (mask == fullMask) poison with
      | some s => s.sendQ p 1 (.memCmp tag grNone)
      | none => s.block e c
  | .cxlIoMemWr _ a dws poison _ =>
    if waits then s.block e c
    else
      let r := ioLine (a.toNat / 64) a.toNat dws
      s.orBlock e c (s.collWindow e p gid (off / 64 * 64) r.1 (r.2 == fullMask && dws.length == 16) poison)
  | .collWindowWrite _ g o d whole poison =>
    if waits then s.block e c else s.orBlock e c (s.collWindow e p g.toNat o.toNat d whole poison)
  | .memRd _ tag _ _ _ =>
    let r := s.fresh
    r.2.answerRead (.cxlMem p tag) (.readUnc 0 64) (BitVec.ofNat 512 r.1) false
  | .memInv _ tag _ _ => s.sendQ p 1 (.memCmp tag grNone)
  | .cxlIoMemRd _ tag _ len _ => let r := s.fresh; r.2.cxlData p (.ioCpl tag 0 (bytesOf len r.1) false)
  | c => s.deny p c none

/-! ### Address routing (03 R58; 21 R438) -/

/-- A request routed by its address, under the map of its epoch tag (03 R63). -/
def State.byAddress (s : State) (e : Nat) (p : PortId) (c : Instr) (a : Nat) : State :=
  match (s.bank e).route p.val a with
  | none => s.deny p.val c (some a)
  | some r =>
    let off (b : Nat) : Nat := b - rtBase r + rtOffset r
    let trig : Bool := match c with | .trigger _ _ _ _ _ => true | _ => false
    let act := rtAction r
    if trig && act != .trig then s.deny p.val c (some a)
    else
      match act with
      | .deny => s.deny p.val c (some a)
      | .pool =>
        match c with
        | .atom _ h slots => s.atomHome e p h slots off
        | .atomicOp _ _ addr op size _ _ _ =>
          if !cxlAtomicOk op.toNat size.toNat addr.toNat then s.refuseCmd c stDenied
          else if !s.enabled .atom then s.deny p.val c (some a)
          else if s.quiescing .atom then s.block e c
          else s.toHome e p.val c off
        | c => s.toHome e p.val c off
      | .peer => s.toPeer e p.val c (rtDst r) off
      | .trig => s.toTrigger e p.val c ((a - rtBase r) / 4096)
      | .coll => s.toColl e p.val c (a - rtBase r)
      | .mgmt => s.toMgmt (if s.role p.val == .leaf then .tenant p else .bar0) c (off a)

/-- A request of tenant traffic routed by its address, refused where the port or the device is fenced. -/
def State.request (s : State) (e : Nat) (p : PortId) (c : Instr) (a : Nat) : State :=
  if s.barred p.val then s.deny p.val c (some a) else s.byAddress e p c a

/-- A YD request: for this device by its address, a read of a hand-over summary from it; for another by its FEID (03 R58, R73). -/
def State.ydRequest (s : State) (e : Nat) (p : PortId) (h : Hdr) (c : Instr) : State :=
  if s.barred p.val then s.deny p.val c (some h.arg.toNat)
  else if h.dst == s.ownFeid then
    match c, s.summaryLine h with
    | .rd _ _, some d => s.rspData p.val h stOk d false
    | c, _ => s.byAddress e p c h.arg.toNat
  else s.passRequest e p h c

/-! ### Holders' answers (04 R86, R87, R92) -/

/-- The pool line an address of a port stands for, by a POOL entry of a bank. -/
def Bank.poolLine (b : Bank) (p a : Nat) : Option Nat :=
  match b.route p a with
  | none => none
  | some r => if rtAction r == .pool then some ((a - rtBase r + rtOffset r) / 64) else none

/-- The directory's record of a line, handed-over ones that wait for room among them. -/
def State.record (s : State) (l : Nat) : Option DirEntry := (s.dirAt l).orElse (fun _ => Tbl.get? s.home.adopt l)

/-- Whether a port owns a line. -/
def State.owns (s : State) (p l : Nat) : Bool :=
  match s.record l with
  | none => false
  | some e => e.st != .s && e.owner == p

/-- The line a write-back names: by the current map, or by the draining one where that line is its sender's (03 R67: the directory
alone judges it). -/
def State.backLine (s : State) (p a : Nat) : Option Nat :=
  match s.map.cur.poolLine p a with
  | some l =>
    if s.owns p l then some l
    else (((s.map.draining.bind (fun b => b.poolLine p a)).filter (s.owns p)).orElse (fun _ => some l))
  | none => s.map.draining.bind (fun b => b.poolLine p a)

/-- The epoch a write-back of a line runs under: the draining one where only its map still places the line there. -/
def State.backEpoch (s : State) (l : Nat) : Nat :=
  let x := l / 2 ^ 24
  if s.draining && (!exValid (s.map.cur.extent x) || s.slicesDiffer x || s.map.moved.contains x) then s.rd MAP_EPOCH_DRAINING
  else s.epoch

/-- A late answer of a holder. -/
def State.lateAnswer (s : State) (p l : Nat) : State :=
  s.count { blk := .home, code := 0x08, addr := some (64 * l), master := some (1, bdPbr (s.map.cur.bind p)) }

/-- A write-back: judged by the directory alone; one that meets a snoop of its line is the snoop's data, which the waiting read
gets (04 R86, R87, Transactions; 03 R67; 01 R467). -/
def State.writeBack (s : State) (e p : Nat) (c : Instr) (tag : BitVec 16) (a : Nat) (d : Line) (mask : BitVec 64) (poison : Bool) : State :=
  if !s.enabled .home then s.block e c
  else
    let l := (s.backLine p a).getD (2 ^ 42)
    if !s.owns p l then (s.lateAnswer p l).sendQ p 1 (.memCmp tag grNone)
    else
      let s := { s with home := { s.home with adopt := Tbl.del s.home.adopt l } }
      s.takeBack p tag (s.backEpoch l) l d mask poison

/-- A leaf's answer to a back-invalidate snoop (04 R86): without a write-back before it, the line was clean. One without an
outstanding snoop is late (04 R92). -/
def State.snoopAnswer (s : State) (e p : Nat) (c : Instr) (a : Nat) (shared : Bool) : State :=
  let l := a / 64
  if !s.enabled .home then s.block e c
  else if !s.home.snoopsTo.contains (p, l) then s.lateAnswer p l
  else
    let inv := s.home.txns.all (fun t => !(t.line == l && t.phase == .snoop && t.snoops.contains p) || t.acc.writes || t.acc.caches && t.acc != .readShared)
    (s.clearHolder l p (shared && !inv)).snoopEnded l p

/-- A leaf's BIConflict: acknowledged, so that the leaf answers the snoop; its request stays behind the snoop (04 R87). -/
def State.conflict (s : State) (e p : Nat) (c : Instr) (a : Nat) : State :=
  if !s.enabled .home then s.block e c else s.sendQ p 1 (.biConflictAck a)

/-! ### Responses to requests of the device's own -/

/-- Ends a request the device passed on under its own tag. -/
def State.endProxy (s : State) (src : Src) (acc : Access) (st : Byte) (d : Line) (poison : Bool) (old : Nat) (succ : Bool) : State :=
  if acc.writes then s.answerWrite src acc st old succ
  else if st == stOk || st == stPoisoned then s.answerRead src acc d (poison || st == stPoisoned)
  else s.refuse src acc st

/-- The hand-over whose summary lines come from a FEID under a tag (03 R73). -/
def State.summaryWait (s : State) (f : Feid) (tag : BitVec 16) : Option (Nat × Handover × HandMsg × Nat) :=
  s.map.ho.findSome? (fun q =>
    match q.2.st, q.2.last with
    | .awaiting, some (_, m) =>
      let i := (tag - BitVec.ofNat 16 q.2.sumBase).toNat
      if m.src == f && 64 * i < m.sumLen.toNat then some (q.1, q.2, m, i) else none
    | _, _ => none)

/-- The replica fill a line from a FEID under a tag belongs to (04 R96): its key, and the line's place in the page. -/
def State.fillWait (s : State) (f : Feid) (tag : BitVec 16) : Option (Nat × Nat) :=
  s.home.repl.mine.findSome? (fun (q : Nat × Nat) =>
    let i := (tag - BitVec.ofNat 16 (Tbl.get s.home.repl.mineTag q.1 0)).toNat
    if q.1 / 2 ^ 36 == f.toNat && decide (i < 64) && !bit q.2 i then some (q.1, i) else none)

/-- A line of a replica fill: stored, or the fill ends without it (04 R96, R97). -/
def State.fillLine (s : State) (k i : Nat) (ok : Bool) (d : Line) : State :=
  s.mapRepl (fun r =>
    if ok then
      { r with
        mine := Tbl.mod r.mine k 0 (fun v => v ||| 2 ^ i)
        mineBytes := Memory.writeLine r.mineBytes (k * 4096 + 64 * i) fullMask d }
    else { r with mine := Tbl.del r.mine k, mineTag := Tbl.del r.mineTag k, mineBytes := r.mineBytes.filter (fun c => c.1 / 4096 != k) })

/-- Data or a status for a read of this device. A line of a hand-over summary is taken as it comes, whatever its status (DESIGN
CHOICE, assumption log 161). -/
def State.recvData (s : State) (h : Hdr) (d : Line) (data : Bool) : State :=
  let st : Byte := BitVec.ofNat 8 h.arg.toNat
  match s.takeProxy (256 + h.src.toNat) h.tag with
  | some ((src, acc), s) => s.endProxy src acc st d h.poison 0 false
  | none =>
    match s.fillRemote h.tag st (if data then lineBytes d else []) h.poison with
    | some s => s
    | none =>
      match s.summaryWait h.src h.tag with
      | some (x, ho, m, i) => if data then s.takeSummary x ho m i d else s
      | none =>
        match s.fillWait h.src h.tag with
        | some (k, i) => s.fillLine k i (data && st == stOk && !h.poison) d
        | none => s

/-- Acknowledges a result of the device's own atomic or publication request (05 R120, R124). -/
def State.ackResult (s : State) (h : Hdr) : State :=
  s.sendYd h.src 0 kindForward none
    (.yd 0x0A (s.ownHdr h.src h.tag (s.rd LIVE_INCARN_INCARN + h.tag.toNat * (2 ^ 16 + 2 ^ 32 + 2 ^ 48))) [])

/-- The result of an atomic the device sent. -/
def State.recvAtomRsp (s : State) (h : Hdr) (slots : List Slot) : State :=
  let s := s.ackResult h
  match s.takeProxy (256 + h.src.toNat) h.tag with
  | none => s
  | some ((src, acc), s) =>
    s.endProxy src acc (BitVec.ofNat 8 h.arg.toNat) 0 h.poison (slot1 slots) (bit ((slots[1]?).getD 0).toNat 0)

/-- A response for another device, passed on where the bindings permit it (01 R15). -/
def State.passBack (s : State) (p : PortId) (opc : Byte) (h : Hdr) (slots : List Slot) : State :=
  (s.endTransit h).transitTo p.val h.dst (fun s _ => s.forwardYd p.val opc h slots)

/-- A publication answer for this device: page-replica grants and refusals, acknowledgements of invalidations (04 R96, R98; 05
R117). -/
def State.recvPubRsp (s : State) (h : Hdr) : State :=
  let st := bits h.arg.toNat 15 8
  match pubKind h with
  | 0x10 =>
    match s.home.repl.asked.find? (fun (q : Nat × Nat × BitVec 16) => q.1 / 2 ^ 36 == h.src.toNat && q.2.2 == h.tag) with
    | none => s
    | some (k, page, _) =>
      if st = 0 then s.startPeerFill h.src page else s.mapRepl (fun r => { r with asked := Tbl.del r.asked k })
  | 0x11 =>
    if st != 0 then s
    else
      (s.home.repl.invWait.filter (fun (q : Nat × List (Nat × BitVec 16)) => q.2.contains (h.src.toNat, h.tag))).foldl
        (fun s q => s.replAcked q.1 h.src.toNat) s
  | 0x12 => if st != 0 then s else s.rgnAcked (pubRegion h % 65536) h.src
  | 0x03 => s.ackResult h
  | _ => s

/-- A CXL.io completion for a read or AtomicOp of this device (09 R225; 06 R140; 21 R438). An unsuccessful one is taken as
DENIED (DEDUCED). -/
def State.recvCpl (s : State) (p : Nat) (tag : BitVec 16) (ok : Bool) (data : List Byte) : State :=
  let st : Byte := if ok then stOk else stDenied
  match s.takeProxy p tag with
  | some ((src, acc), s) =>
    let off := match acc with | .readUnc o _ => o | _ => 0
    s.endProxy src acc st (lineOf (List.replicate off 0 ++ data)) false (ofBytes data) false
  | none =>
    match s.hostFlushed p tag with
    | some s => s
    | none =>
      match s.tier.t4Reads.find? (fun q => q.2 == tag) with
      | some q =>
        if p = s.rd TIER_T4_CFG_PORT then s.t4ReadDone q.1 ok
        else (s.fillRemote tag st data false).getD s
      | none => (s.fillRemote tag st data false).getD s

/-! ### Publication requests (05 R105, R106, R116, R117) -/

/-- A region replica held here is invalidated: OPENs go to the home from now on, and one on its way brings none (05 R117). -/
def State.recvRgnInv (s : State) (p : PortId) (h : Hdr) : State :=
  let id := pubRegion h
  let dead (q : Nat × RegionReplica) : Nat × RegionReplica :=
    if q.1 / 2 ^ 32 == id then (q.1, { q.2 with alive := false }) else q
  let late (f : FwdOpen) : FwdOpen := if pubRegion f.hdr == id then { f with dead := true } else f
  let s := { s with pub := { s.pub with replicas := s.pub.replicas.map dead, fwd := s.pub.fwd.map late } }
  s.pubRsp p.val h stOk 0 0 false false

/-- Whether writes of a sender to this home still wait to be ordered (05 R107). -/
def State.writesWait (s : State) (f : Feid) : Bool :=
  let mine (h : Held) : Bool := cmdSrc h.cmd == some f && (match h.cmd with | .wr _ _ _ | .wrMask _ _ _ _ | .atom _ _ _ => true | _ => false)
  s.home.txns.any (fun t => t.phase == .waiting && t.acc.writes && (match t.src with | .yd _ h => h.src == f | _ => false)) ||
    s.home.blocked.any mine || s.map.held.any mine || s.map.ho.any (fun q => q.2.queue.any mine)

/-- A publication request with the TENANT its path gives it. -/
def withTenant (tenant : Nat) : Instr → Instr
  | .publish p h sl => .publish p h (setPubTenant tenant sl)
  | .openReq p h sl => .openReq p h (setPubTenant tenant sl)
  | .close p h sl => .close p h (setPubTenant tenant sl)
  | c => c

/-- A publication request of a kind between devices, whose shape is judged first (04 R96, R98; 05 R106, R117). -/
def State.pubPeer (s : State) (p : PortId) (h : Hdr) (slots : List Slot) (run : State → State) : State :=
  if pubShapeOk (pubKind h) slots then run s else s.pubRsp p.val h stDenied 0 0 false false

/-- A publication request whose tenant has been set. -/
def State.pubRequest (s : State) (e : Nat) (p : PortId) (h : Hdr) (c : Instr) : State :=
  if s.barred p.val then s.deny p.val c none
  else if h.dst != s.ownFeid then s.passRequest e p h c
  else if !s.enabled .pub then s.deny p.val c none
  else if s.quiescing .pub then s.block e c
  else if !s.enabled .home then s.deny p.val c none
  else
    match c with
    | .publish _ _ sl =>
      if pubKind h != 1 then s.pubRsp p.val h stDenied 0 0 false false
      else if s.writesWait h.src then s.block e c
      else s.admitPub p h sl (fun s => s.judgePublish e p h sl)
    | .openReq _ _ sl => s.admitPub p h sl (fun s => s.judgeOpen e p h sl)
    | .close _ _ sl => s.admitPub p h sl (fun s => s.judgeClose e p h sl)
    | .replReq _ _ sl => s.pubPeer p h sl (fun s => s.judgeReplReq p h)
    | .replInv _ _ sl => s.pubPeer p h sl (fun s => s.dropPeerReplica p h)
    | .rgnInv _ _ sl => s.pubPeer p h sl (fun s => s.recvRgnInv p h)
    | _ => s

/-- A publication request arrives: a LEAF port's get its binding's TENANT, kinds 0x10 to 0x12 from a LEAF are malformed. -/
def State.pubArrives (s : State) (e : Nat) (p : PortId) (h : Hdr) (c : Instr) : State :=
  if s.role p.val == .leaf then
    if 0x10 ≤ pubKind h then s.badMsg p.val
    else s.pubRequest e p h (withTenant (bdTenant ((s.bank e).bind p.val)) c)
  else s.pubRequest e p h c

/-! ### Messages of the filter chain, configuration reads -/

/-- A chain message other than KEY is of this chain: FILT_CHAIN is in use, CHAIN is its ID and the sender is a member. -/
def State.chainMsg (s : State) (h : StitchHdr) : Bool :=
  s.flag FILT_CHAIN_EN && h.chain.toNat == s.rd FILT_CHAIN_ID && s.chainAll.any (fun i => s.chainFeid i == h.src)

/-- A STITCH_KEY message of another member: passed on where its header names another device (01 R15; 13 R305), else it runs here,
a kind other than KEY where it is of this chain. -/
def State.chainIn (s : State) (p : PortId) (h : StitchHdr) (key : Bool) (m : Feid → Msg) (run : State → State) : State :=
  match h.dst.filter (fun d => d != s.ownFeid) with
  | some d => s.transitTo p.val d (fun s x => s.sendQ x 2 (m d))
  | none => if key || s.chainMsg h then run s else s

/-- A configuration read of CXL.io (02 R55): retry until the device is ready, then a value the spec does not give. -/
def State.configRead (s : State) (p : Nat) (tag : BitVec 16) : State :=
  if s.flag RST_STAT_READY then
    let r := s.fresh
    r.2.cxlData p (.ioCpl tag 0 (bytesOf 4 r.1) false)
  else s.cxlData p (.ioCpl tag 2 [] false)

/-! ### Reception -/

/-- Serves a request or response of an epoch that its link and its port have let in, and that is for no other port by its PBR ID. -/
def State.serve (s : State) (e : Nat) (c : Instr) : State :=
  match c with
  | .rd p h => s.ydRequest e p h c
  | .wr p h d =>
    let s := if h.dst != s.ownFeid && h.src != s.ownFeid then s.noteList h d else s
    s.ydRequest e p h c
  | .wrMask p h _ d =>
    let s := if h.dst != s.ownFeid && h.src != s.ownFeid then s.noteList h d else s
    s.ydRequest e p h c
  | .atom p h _ => s.ydRequest e p h c
  | .atomAck p h =>
    if h.dst != s.ownFeid then s.transitTo p.val h.dst (fun s _ => s.forwardYd p.val 0x0A h [])
    else
      let a := h.arg.toNat
      let inc : BitVec 16 := BitVec.ofNat 16 (bits a 15 0)
      [16, 32, 48].foldl (fun s i => s.rcAck h.src inc (BitVec.ofNat 16 (bits a (i + 15) i))) s
  | .rspData p h d => if h.dst != s.ownFeid then s.passBack p 0x05 h (lineSlots d) else s.recvData h d true
  | .rsp p h => if h.dst != s.ownFeid then s.passBack p 0x06 h [] else s.recvData h 0 false
  | .atomRsp p h sl => if h.dst != s.ownFeid then s.passBack p 0x09 h sl else s.recvAtomRsp h sl
  | .publish p h _ => s.pubArrives e p h c
  | .openReq p h _ => s.pubArrives e p h c
  | .close p h _ => s.pubArrives e p h c
  | .replReq p h _ => s.pubArrives e p h c
  | .replInv p h _ => s.pubArrives e p h c
  | .rgnInv p h _ => s.pubArrives e p h c
  | .pubRsp p h sl =>
    if h.dst != s.ownFeid then (s.keepReplica h sl).passBack p 0x0D h sl else s.recvPubRsp h
  | .trigger via p h _ _ => if via == .yd then s.ydRequest e p h c else s.request e p c h.arg.toNat
  | .coll p h sl =>
    if s.barred p.val then s.deny p.val c none
    else if h.dst != s.ownFeid then s.passRequest e p h c
    else if s.enabled .coll && s.quiescing .coll then s.block e c
    else s.orBlock e c (s.collYd e p.val h sl)
  | .collRes p h sl => if h.dst != s.ownFeid then s.passBack p 0x19 h sl else s.collRes p.val h sl
  | .memRd p _ a _ _ => s.request e p c a.toNat
  | .memInv p _ a _ => s.request e p c a.toNat
  | .memWr p tag a d mask poison wb _ =>
    if wb && s.role p.val == .leaf then s.writeBack e p.val c tag a.toNat d mask poison else s.request e p c a.toNat
  | .birsp p a shared => s.snoopAnswer e p.val c a.toNat shared
  | .biconflict p _ a => s.conflict e p.val c a.toNat
  | .cxlIoMemWr p a _ _ _ => if s.role p.val == .mgmt then s.bar0 c else s.request e p c a.toNat
  | .cxlIoMemRd p _ a _ _ => if s.role p.val == .mgmt then s.bar0 c else s.request e p c a.toNat
  | .atomicOp p _ a _ _ _ _ _ => s.request e p c a.toNat
  | .collWindowWrite p g off _ _ _ =>
    if s.barred p.val then s.deny p.val c none else s.toColl e p.val c (g.toNat * 4096 + off.toNat)
  | .hostCpl p tag ok data _ => s.recvCpl p.val tag ok data
  | .cfgRd p tag _ => s.configRead p.val tag
  | .stitchKey p h all key => s.chainIn p h true (fun d => .stitchKey d h all key) (fun s =>
      if s.keyFits p.val h && s.unitsUp s.chainCores && s.unitsAsleep s.chainCores then s.block e c else s.recvKey p.val h all key.toNat)
  | .bestRsp p h hit m fh =>
    s.chainIn p h false (fun d => .bestRsp d h hit m fh)
      (fun s => s.takeBest h.slot.toNat h.status (if hit then some m else none) fh.toNat)
  | .allRsp p h last n ms =>
    s.chainIn p h false (fun d => .allRsp d h last n.toNat ms) (fun s => s.takeAll h.slot.toNat h.status last ms)
  | .tuckContinue p h => s.chainIn p h false (fun d => .tuck d h 1 false 0) (fun s => s.recvContinue h)
  | .tuckEntry p h part half => s.chainIn p h false (fun d => .tuck d h 2 part half) (fun s => s.recvEntry h part half)
  | .tuckAck p h => s.chainIn p h false (fun d => .tuck d h 3 false 0) (fun s => s.recvTuckAck)
  | .tuckAbortMsg p h => s.chainIn p h false (fun d => .tuck d h 4 false 0) (fun s => s.tuckStop)
  | _ => s

/-- Serves what has been let in: a PBR flit for another port is routed there (03 R58). -/
def State.letIn (s : State) (e : Nat) (c : Instr) : State :=
  match destPbr c, ingressPort c with
  | some d, some p => s.routePbr e p.val c d
  | _, _ => s.serve e c

/-- A message shows its sender's incarnation, and an atomic the tag it acknowledges: both count at its reception, whatever becomes of it
(05 R113, R122). -/
def State.noteIncarn (s : State) (c : Instr) : State :=
  match c with
  | .atom _ h sl =>
    if h.dst != s.ownFeid then s
    else
      let s := s.seeIncarn h.src (atomIncarn sl)
      match atomAckTag sl with | some t => s.rcAck h.src (atomIncarn sl) t | none => s
  | .atomAck _ h => if h.dst != s.ownFeid then s else s.seeIncarn h.src (BitVec.ofNat 16 (bits h.arg.toNat 15 0))
  | .publish _ h _ | .openReq _ h _ | .close _ h _ | .rgnInv _ h _ =>
    if h.dst != s.ownFeid then s else s.seeIncarn h.src (pubIncarn h)
  | _ => s

/-- Whether a held command is a sender's on a port. -/
def Held.isFrom (h : Held) (p : Nat) (f : Feid) : Bool :=
  cmdSrc h.cmd == some f && (ingressPort h.cmd).map (·.val) == some p

/-- Whether a publication request or a duplicate of a sender on a port waits for its answer (04 R89; 05 R107, R121). -/
def State.pubWaits (s : State) (p : Nat) (f : Feid) : Bool :=
  s.pub.listWait.any (fun w => w.1.val == p && w.2.1.src == f) ||
    s.rc.any (fun e => e.src == f && e.dups.any (fun q => q.val == p))

/-- Whether every earlier message of a sender on a port has reached its ordering point (04 R89): a message passed on, in the egress
queue of a CXL port too, once it has left. -/
def State.fenceClear (s : State) (p : Nat) (f : Feid) : Bool :=
  let mine (h : Held) : Bool := h.isFrom p f
  let sent (q : Queued) : Bool := q.by_ == some f || (match q.msg with | .yd _ h _ => h.src == f | _ => false)
  !s.home.txns.any (fun t => t.phase == .waiting && (match t.src with | .yd q h => q == p && h.src == f | _ => false)) &&
    !s.home.blocked.any mine && !s.map.held.any mine && !s.map.ho.any (fun q => q.2.queue.any mine) &&
    !(s.port p).held.any mine && !s.pub.regions.any (fun r => r.2.waiting.any mine) && !s.pubWaits p f &&
    (f == s.ownFeid || !s.ports.any (fun (q : Nat × PortSt) =>
      q.2.egress.any sent || q.2.replay.any (fun r => r.2.any sent)))

/-- Whether a sender's messages wait behind a FENCE on a port. -/
def State.fencing (s : State) (p : Nat) (f : Feid) : Bool := (s.port p).fences.any (fun g => g.1 == f)

/-- Puts a message behind a sender's FENCE. -/
def State.behindFence (s : State) (p : Nat) (f : Feid) (e : Nat) (c : Instr) : State :=
  s.modPort p (fun x => { x with fences := x.fences.map (fun g => if g.1 == f then (g.1, g.2 ++ [held e c]) else g) })

/-- The sender a FENCE orders a message of. -/
def fenceSrc : Instr → Option Feid
  | .ydFence _ f => some f
  | c => cmdSrc c

/-- Whether an earlier message of a CXL port waits in its ingress buffer: a request without a place at the home, or a holder's answer
while HOME is disabled (01 R467; 03 R70; 04 R85). -/
def State.backed (s : State) (p : Nat) : Bool :=
  !(s.port p).held.isEmpty || s.home.blocked.any (fun h => isHolder h.cmd && (ingressPort h.cmd).map (·.val) == some p)

/-- A message behind its link, with its epoch tag: behind a FENCE of its sender, held by a quiescing port or behind an earlier message
in its ingress buffer, or served. -/
def State.enter (s : State) (p e : Nat) (c : Instr) : State :=
  match (fenceSrc c).filter (s.fencing p) with
  | some f => s.behindFence p f e c
  | none =>
    if portHolds c && (s.quiescing .port p || isCxl c && s.backed p) then s.backPressure p e c
    else
      match c with
      | .ydFence _ f =>
        if s.fenceClear p f then s else s.modPort p (fun x => { x with fences := x.fences ++ [(f, [])] })
      | c => s.letIn e c

/-- A message has come through its link: it is tagged with the current epoch (01 R18; 03 R63), the sampling considers it, then it
enters. -/
def State.receive (s : State) (p : Nat) (c : Instr) : State := ((s.sampleRequest c).noteIncarn c).enter p s.epoch c

/-- A message arrives: its link carries it or not; a fenced sender's is discarded (15 R341). -/
def State.arrive (s : State) (c : Instr) (run : State → Nat → State) : State :=
  match ingressPort c with
  | none => s
  | some p =>
    match s.gate p.val c with
    | .drop => s
    | .wait => s.modPort p.val (fun x => { x with l1Wait := x.l1Wait ++ [c] })
    | .pass =>
      match (fenceSrc c).filter s.feidFenced with
      | some f => s.dropFenced f
      | none => run s p.val

/-- A request or response arrives. -/
def State.deliver (s : State) (c : Instr) : State := s.arrive c (fun s p => s.receive p c)

/-! ### Going on -/

/-- Serves a held command under its epoch tag. -/
def State.release (s : State) (h : Held) : State := s.letIn (s.liveEpoch h.epoch) h.cmd

/-- Serves what was held at a block's input, in arrival order; what still waits is held again. -/
def State.drainBlocked (s : State) : State :=
  s.home.blocked.foldl State.release { s with home := { s.home with blocked := [] } }

/-- Puts held commands of a port through its input again. -/
def State.reenter (p : Nat) (s : State) (h : Held) : State := s.enter p (s.liveEpoch h.epoch) h.cmd

/-- Serves what a port held, where it quiesces no longer, and returns the credit it withheld (02 R466; 20 R419; 04 R85). -/
def State.drainPort (s : State) (p : Nat) : State :=
  if s.quiescing .port p then s
  else
    let l := (s.port p).held
    let s := if (s.port p).owed.any (fun n => n != 0) then s.payOwed p else s
    if l.isEmpty then s
    else l.foldl (State.reenter p) (s.modPort p (fun x => { x with held := [] }))

/-- Serves what waits behind the FENCEs of a port that hold no longer (04 R89). -/
def State.drainFences (s : State) (p : Nat) : State :=
  (s.port p).fences.foldl
    (fun s g =>
      if s.fenceClear p g.1 then
        g.2.foldl (State.reenter p)
          (s.modPort p (fun x => { x with fences := x.fences.filter (fun h => h.1 != g.1) }))
      else s) s

/-- Messages and transactions that wait. -/
def State.waiting (s : State) : Nat :=
  s.closing.length + s.home.blocked.length + (s.home.txns.filter (fun t => !t.running || t.phase == .expand)).length +
    s.ports.foldl (fun n (q : Nat × PortSt) => n + q.2.held.length + q.2.fences.foldl (fun k g => k + 1 + g.2.length) 0) 0

/-- One pass over everything that may go on. -/
def State.settlePass (s : State) : State :=
  let s := s.drainBlocked
  let s := (s.ports.map (·.1)).foldl State.drainPort s
  let s := (s.ports.map (·.1)).foldl State.drainFences s
  let s := if s.home.txns.isEmpty && s.home.adopt.isEmpty then s else s.kickAll.resumePages.kickAll
  let s := s.pubSettle
  let s := if s.home.defines.isEmpty then s else s.collResume
  let s := if s.tier.prefOps.isEmpty then s else s.prefResume
  let s := if s.tier.scheds.isEmpty then s else s.issueWaiting
  let s := if s.closing.isEmpty then s else s.closePass
  s.endSamples

/-- Passes until one releases nothing more. -/
def State.settleN : Nat → State → State
  | 0, s => s
  | n + 1, s =>
    let t := s.settlePass
    if t.waiting < s.waiting then State.settleN n t else t

/-- Lets everything go on that may. -/
def State.settle (s : State) : State := State.settleN (s.waiting + 1) s

/-- Stored bytes in canonical form, which every memory operation keeps: bytes that have it are handed on as they are. -/
def Memory.canon (m : List Host.Cell) : List Host.Cell :=
  if Memory.wf m then m else m.foldl (fun m c => Memory.write m c.1 c.2) []

/-- A state with its pool memory in canonical form. -/
def State.tidy (s : State) : State :=
  { s with pool := { s.pool with
    cur := { s.pool.cur with bytes := Memory.canon s.pool.cur.bytes }
    tray := { s.pool.tray with bytes := Memory.canon s.pool.tray.bytes } } }

/-- The state a command of state s ends in, t being its own effect: the work that may go on has gone on, memory is in
canonical form, and the queue is as it was. -/
def State.finish (s t : State) : State := { t.settle.tidy with pending := s.pending }

/-- Every command ends in a next state. -/
def fin (s t : State) : Out := .next (s.finish t)

end Sys2Proof.Machine
end

