-- ==== Sys2Proof/Machine/Events.lean ====
section
/-! DEFINITION. Timers, limits and completions: what the module does when a time it keeps has passed or a step it waits for
has ended (spec 03 R64, R65, R72 to R76; 04 R83, R92, R95 to R98; 05 R107, R117; 06 R148, R468; 14 R333; 15 R338), and what
a message command or a register command does on its way in. -/

namespace Sys2Proof.Machine

/-! ### The map (spec 03) -/

/-- The draining epoch retires once nothing counts against it (R64). -/
def State.epochRetire (s : State) : State := if s.draining && s.inflight = 0 then s.retireEpoch else s

/-- The extents a held memory request addresses under its epoch tag. -/
def State.heldExtents (s : State) (h : Held) : List Nat :=
  match ingressPort h.cmd with
  | none => []
  | some p =>
    if isHolder h.cmd then []
    else (cmdPieces h.cmd).filterMap (fun x => ((s.bank h.epoch).poolLine p.val x.1).map (fun l => l / 2 ^ 24))

/-- Ends an access POISONED: a read with poisoned data, a write or atomic discarded (R65). -/
def State.expireAccess (s : State) (q : Src × Access) : State :=
  if q.2.writes then s.discardWrite q.1 q.2 stPoisoned else s.answerRead q.1 q.2 0 true

/-- Ends a held memory request of an expired epoch and taints its extents (R65). -/
def State.expireHeld (s : State) (h : Held) : State :=
  (cmdPieces h.cmd).foldl (fun s x => s.expireAccess x.2) ((s.heldExtents h).foldl (fun s x => s.taint x true) s)

/-- Takes held requests a test selects out of every place a request waits in. -/
def State.dropHeld (s : State) (f : Held → Bool) : State :=
  let keep (l : List Held) : List Held := l.filter (fun h => !f h)
  { s with
    home := { s.home with blocked := keep s.home.blocked }
    map := { s.map with
      held := keep s.map.held
      ho := s.map.ho.map (fun (h : Nat × Handover) => (h.1, { h.2 with queue := keep h.2.queue })) }
    ports := s.ports.map (fun (p : Nat × PortSt) =>
      (p.1, { p.2 with held := keep p.2.held, fences := p.2.fences.map (fun g => (g.1, keep g.2)) })) }

/-- Ends the memory requests of an expired epoch that wait before their ordering point, and the reads of it passed on under a tag of
the device's own (R65). -/
def State.expireWaiting (s : State) (e : Nat) : State :=
  let old (h : Held) : Bool := h.epoch == e && !(s.heldExtents h).isEmpty
  let gone := s.map.proxied.filter (fun q => !q.2.2.2.writes && s.map.passed.any (fun r => r.1 == q.1 && r.2.1 == q.2.1 && r.2.2 == e))
  let s := (s.heldAll.filter old).foldl State.expireHeld (s.dropHeld old)
  gone.foldl (fun s q => match s.takeProxy q.1 q.2.1 with | none => s | some (x, s) => s.expireAccess x) s

/-- The drain limit expires (R65): every remaining request ends, then the epoch retires. -/
def State.drainExpiry (s : State) : State :=
  if !s.draining then s
  else
    let e := s.rd MAP_EPOCH_DRAINING
    let s := ((s.set MAP_STAT_DRAIN_EXPIRED 1).count { blk := .map, code := 0x02 }).err ⟨.map, 0⟩ 16
    let s := (s.drainTxns.foldl State.expireTxn s).expireWaiting e
    (((s.taintProcs e).expireProcs e).expireRest).retireEpoch

/-- The old home's admitted work has ended: GIVE is sent (R72). -/
def State.giveReady (s : State) (x : Nat) : State :=
  match s.ho x with
  | none => s
  | some h => if h.st == .giving && h.last.isNone && s.giveReadyFor x then s.sendGive x h else s

/-- The new home has stored the whole summary (R73). -/
def State.summaryEnd (s : State) (x : Nat) : State :=
  match s.ho x with
  | none => s
  | some h =>
    match h.last with
    | some (_, m) => if m.sumLen.toNat / 16 ≤ h.summary.length then s.summaryStored x h else s
    | none => s

/-- A side's last hand-over message is sent again (R74). -/
def State.handAgain (s : State) (x : Nat) : State :=
  match s.ho x with
  | none => s
  | some h => if h.st == .giving || h.st == .givenUnconfirmed || h.st == .taking then s.resendHo h else s

/-! ### The home (spec 04) -/

/-- A holder has not answered within T_SNP (R92). -/
def State.snoopTimeout (s : State) (p a : Nat) : State :=
  if s.home.snoopsTo.contains (p, a / 64) then s.snoopExpired p (a / 64) else s

/-- A second directory copy exists again (R83). -/
def State.mirrorRebuilt (s : State) : State := s.set HOME_DIRSTAT_MIRROR_OK 1

/-- Pages of the home that become candidates with a window (R95). -/
def ReplSt.candidates (r : ReplSt) : List Nat :=
  (r.reads.filter (fun (q : Nat × Nat) => 0 < q.2 && 1024 * Tbl.get r.writes q.1 0 < q.2)).map (·.1)

/-- Candidates whose local fill starts: not in T1, not yet replicated, while REPL_CAP leaves room (R95). -/
def State.newFills (s : State) (cands : List Nat) : List Nat :=
  let r := s.home.repl
  let room := s.rd REPL_CAP_GIB * 2 ^ 18 - r.local_.length - r.fills.length
  (cands.filter (fun p =>
    (Tbl.get? s.tier.t1 (p / 16)).isNone && !r.local_.contains p && !r.fills.any (fun f => f.1 == p))).take room

/-- A 10 ms replica window ends (R95). -/
def State.replWindow (s : State) : State :=
  let c := s.home.repl.candidates
  let s := s.mapRepl (fun r => { r with reads := [], writes := [], fwdReads := [], cands := c })
  if s.enabled .repl && !s.quiescing .repl && s.flag REPL_CTL_LOCAL_EN then
    let new := s.newFills c
    let s := s.mapRepl (fun r => { r with fills := r.fills ++ new.map (fun p => (p, false)) })
    new.foldl (fun s p => s.pull 3 (64 * p) 64) s
  else s

/-- A local fill has ended: the replica exists unless a write cancelled it (R97). What a leaf owned of the page comes to memory first
(R79, R95). -/
def State.fillDone (s : State) (page : Nat) : State :=
  match s.home.repl.fills.find? (fun f => f.1 == page) with
  | none => s
  | some f =>
    if s.pulling (64 * page) 64 then s
    else
      let s := s.mapRepl (fun r => { r with
        fills := r.fills.filter (fun g => g.1 != page)
        local_ := if f.2 then r.local_ else setAdd r.local_ page })
      if f.2 then s else s.replWrite page

/-- REPL_INV is sent again to the peers that have not answered (R98). -/
def State.invAgain (s : State) (page : Nat) : State :=
  (Tbl.get s.home.repl.invWait page []).foldl
    (fun s f => s.sendYdQ (BitVec.ofNat 16 f.1) 1 (replMsg s (BitVec.ofNat 16 f.1) 0x11 page f.2)) s

/-! ### Regions (spec 05) -/

/-- RGN_INV is sent again to the devices that have not answered (R117). -/
def State.rgnAgain (s : State) (id : Nat) : State :=
  match s.region id with
  | none => s
  | some r => r.invWait.foldl (fun s f => s.sendRgnInv id f) s

/-- The list of a PUBLISH has been read from its requester (R107 steps 3 to 6); its region may be closing by now (R115). -/
def State.listRead (s : State) (src : Feid) (tag : BitVec 16) (entries : List Word) (poison : Bool) : State :=
  match s.pub.listWait.find? (fun w => w.2.1.src == src && w.2.1.tag == tag) with
  | none => s
  | some (p, h, slots) =>
    let left := s.pub.listWait.filter (fun w => !(w.2.1.src == src && w.2.1.tag == tag))
    let s := { s with pub := { s.pub with listWait := left } }
    let idx := pubRegion h % 65536
    match s.region (pubRegion h) with
    | none => s.pubEnd p h stDenied 0 0
    | some r =>
      if r.stage != 0 then s
      else
        let es := (entries.take (pubCount slots)).map (·.toNat)
        if r.closing then ((s.setRegion idx { r with running := none }).pubEnd p h stDenied 0 0).retireRegion idx
        else if poison && es.all (s.listable r.tenant idx) then
          ((s.setRegion idx { r with running := none }).pubEnd p h stPoisoned r.cur 0).retireRegion idx
        else s.pubList idx r p h slots es

/-! ### Trays (spec 06 R148, R468; 14 R333) -/

/-- A tray access completes. Data of a transaction that has lost its keys is discarded undecrypted. -/
def State.trayCpl (s : State) (id : Nat) (r : TrayOutcome) : State :=
  match s.tier.trayOps.find? (fun o => o.id == id) with
  | none => s
  | some o =>
    if (s.txn o.txn).isNone && !o.write then
      ({ s with tier := { s.tier with trayOps := s.tier.trayOps.filter (fun q => q.id != id) } }).keyStale
    else match r with
      | .ok => s.trayDone o
      | _ => s.trayFailed o

/-- A tray access gets no completion within TIER_TRAY_TO. -/
def State.trayTimeout (s : State) (id : Nat) : State :=
  match s.tier.trayOps.find? (fun o => o.id == id) with
  | none => s
  | some o => s.trayFailed o

/-! ### Descriptors (spec 08, 09) -/

/-- The descriptor of a core is fetched; one that starts is a candidate of the sampler (19 R408). -/
def State.fetchStep (s : State) (c : Nat) : State :=
  let t := s.descFetch c
  let was : Bool := match s.procOn c with | some (_, p) => p.fetched | none => true
  let is_ : Bool := match t.procOn c with | some (_, p) => p.fetched | none => false
  if !was && is_ then t.sampleDesc c else t

/-- An engine runs a core's descriptor, unless the input power keeps the engines from issuing (16 R361). -/
def State.engineOp (s : State) (c opc : Nat) : State := if s.enginesIssue then s.runOp c opc else s

/-! ### LIVE, HANDOFF and STITCH_KEY messages -/

/-- A LIVE identity is forgotten after 10 ms (15 R338). -/
def State.forgetLive (s : State) (kind : BitVec 8) (m : LiveMsg) : State :=
  s.mapLive (fun l => { l with seen := l.seen.filter (fun i => i != liveId kind m) })

/-- A hand-over message goes on unless the device is self-fenced, whose TRUNK ports carry none (15 R346); one whose header names
another device is passed on in Q1 (01 R15; 13 R305). -/
def State.handMsg (s : State) (p : Nat) (kind : BitVec 8) (m : HandMsg) (run : State → State) : State :=
  if s.selfFenced then s
  else match m.dst.filter (fun d => d != s.ownFeid) with
    | some d => s.transitTo p d (fun s x => s.sendQ x 1 (.handoff kind d m))
    | none => run s

/-- A message arrives through its link, whichever it is (02 R38): requests and responses are served, the others go to
their units. -/
def State.take (s : State) (c : Instr) : State :=
  match c with
  | .hb _ f inc n => s.arrive c (fun s _ => s.recvHb f inc n)
  | .suspect _ m => s.arrive c (fun s p => s.recvSuspect p m)
  | .withdraw _ m => s.arrive c (fun s p => s.recvWithdraw p m)
  | .verdict _ m => s.arrive c (fun s p => s.recvVerdict p m)
  | .rejoin _ m => s.arrive c (fun s p => s.recvRejoin p m)
  | .rejoinAck _ _ => s.arrive c (fun s p => s.recvRejoinAck p)
  | .fenceEntry _ m => s.arrive c (fun s _ => s.recvFenceEntry m)
  | .give _ m => s.arrive c (fun s p => s.handMsg p hoGive m (fun s => s.recvGive m))
  | .take _ m => s.arrive c (fun s p => s.handMsg p hoTake m (fun s => s.recvTake m))
  | .handoffCommit _ m => s.arrive c (fun s p => s.handMsg p hoCommit m (fun s => s.recvCommit m))
  | .commitAck _ m => s.arrive c (fun s p => s.handMsg p hoAck m (fun s => s.recvAck m))
  | _ => s.deliver c

/-- One message of a confirmed flit: it returns its credit and is the command it spells; a malformed one is discarded with its credit
(DESIGN CHOICE, assumption log 156). -/
def State.takeMsg (p : PortId) (s : State) (t : Taken) : State :=
  match t with
  | .bad => s.badMsg p.val
  | .good opc h d mask =>
    let s := s.returnCredit p.val opc (1 + d.length + (if opc = 0x03 then 1 else 0)) h
    match msgOf p opc h d mask with
    | none => s
    | some c => s.take c

/-- A confirmed flit's messages, in slot order. -/
def State.takeFlitIn (s : State) (p : PortId) (flit : BitVec 2048) (macOk : Bool) : State :=
  let r := s.rxFlit p flit macOk
  r.2.foldl (State.takeMsg p) r.1

/-- A port leaves L1 and takes what waited for it. -/
def State.leaveL1 (s : State) (p : Nat) : State :=
  let r := s.l1Exit p
  r.2.foldl State.take r.1

/-! ### Register commands -/

/-- A write on a management path, the refusal reason dropped (02 R53). -/
def State.command (s : State) (path : Path) (addr v : Nat) : State :=
  if s.mgmtUp then (s.mgmtWrite { path := path } addr v).1 else s

/-- The address of a block's field's register. -/
def BlockField.addr (f : BlockField) (i : Nat := 0) : Nat := f.ref.at ⟨f.blk, i⟩

/-- A read on a management path answers the value (02 R53); in step 3 of the start-up only I3C reads of RST_STAT and
RST_REASON are answered (16 R375). -/
def State.readCmd (s : State) (path : Path) (addr : Nat) : State :=
  let early := s.rd RST_STAT_STEP == 3 && path == .i3c && (addr == 0x3104 || addr == 0x3108)
  if s.mgmtUp || early then
    let r := s.mgmtRead path addr
    r.1.emit (.regRead path addr (BitVec.ofNat 32 r.2))
  else s

/-- A key-load entry arrives whole (14 R323): refused as a window entry is, else judged. -/
def State.keyLoadCmd (s : State) (path : Path) (k : KeyLoad) : State :=
  if !s.mgmtUp then s
  else
    match path with
    | .tenant p => s.tenantDenied p.val 0xC00000
    | _ =>
      match windows.find? (fun w => w.no == 8) with
      | none => s
      | some w => if s.hrd (s.winOwner w) PG_CTL_LOCK == 1 then (s.winRefuse w rcLocked).1 else s.loadKey k

/-- CLK_TS reaches the end of a 20 µs interval, which intervals are aligned to (15 R336, 16 R368). -/
def State.tick20 (s : State) : State :=
  if s.power.refLost then s else { s with ts := BitVec.ofNat 64 ((s.ts.toNat / 20000 + 1) * 20000) }

end Sys2Proof.Machine
end

