-- ==== Sys2Proof/Machine/Attest.lean ====
section
/-! DEFINITION. SPDM requests, signed batches, keys and contexts (spec 14), and IDE_KM (02 R50). -/

namespace Sys2Proof.Machine

/-- GET_VERSION (spec 14 R328): The SPDM request GET_VERSION is answered. -/
def execGetVersion (r : SpdmReq) (s : State) : Out := fin s (s.spdmFree r spVersion [])

/-- GET_CAPABILITIES (spec 14 R328): The SPDM request GET_CAPABILITIES is answered. -/
def execGetCapabilities (r : SpdmReq) (s : State) : Out := fin s (s.spdmFree r spCapabilities [])

/-- NEGOTIATE_ALGORITHMS (spec 14 R328): The SPDM request NEGOTIATE_ALGORITHMS is answered. -/
def execNegotiateAlgorithms (r : SpdmReq) (s : State) : Out := fin s (s.spdmFree r spAlgorithms [])

/-- GET_DIGESTS (spec 14 R328): The SPDM request GET_DIGESTS is answered. -/
def execGetDigests (r : SpdmReq) (s : State) : Out := fin s (s.spdmFree r spDigests [])

/-- GET_CERTIFICATE (spec 14 R328): The SPDM request GET_CERTIFICATE returns a certificate chain. -/
def execGetCertificate (r : SpdmReq) (slot : BitVec 1) (s : State) : Out := fin s (s.spdmFree r spCertificate [slot.toNat])

/-- CHALLENGE (spec 14 R328): The SPDM request CHALLENGE is answered. -/
def execChallenge (r : SpdmReq) (slot : BitVec 1) (s : State) : Out := fin s (s.spdmFree r spChallengeAuth [slot.toNat])

/-- GET_MEASUREMENTS (spec 14 R329): The SPDM request GET_MEASUREMENTS returns the blocks the requester may see. -/
def execGetMeasurements (r : SpdmReq) (index : BitVec 8) (s : State) : Out := fin s (s.measure r index.toNat)

/-- KEY_EXCHANGE (spec 14 R328): The SPDM request KEY_EXCHANGE opens a session, or is refused by profile or session
limit. -/
def execKeyExchange (r : SpdmReq) (s : State) : Out := fin s (s.keyExchange r)

/-- FINISH (spec 14 R328): The SPDM request FINISH completes session establishment. -/
def execFinish (r : SpdmReq) (ok : Bool) (s : State) : Out := fin s (s.finishSession r ok)

/-- HEARTBEAT (spec 14 R328): The SPDM request HEARTBEAT keeps a session alive. -/
def execHeartbeat (r : SpdmReq) (s : State) : Out := fin s (s.inSession r spHeartbeatAck)

/-- KEY_UPDATE (spec 14 R328): The SPDM request KEY_UPDATE updates session keys. -/
def execKeyUpdate (r : SpdmReq) (s : State) : Out := fin s (s.inSession r spKeyUpdateAck)

/-- END_SESSION (spec 14 R328): The SPDM request END_SESSION closes a session. -/
def execEndSession (r : SpdmReq) (s : State) : Out := fin s (s.endSession r)

/-- VENDOR_DEFINED_REQUEST (spec 02 R50): An IDE_KM request programs or activates link IDE keys. -/
def execVendorDefinedRequest (r : SpdmReq) (p : PortId) (k : IdeKm) (s : State) : Out := fin s (s.vendorRequest r p.val k)

/-- SPDM_UNSUPPORTED (spec 14 R328): Any other SPDM request is answered ERROR UnsupportedRequest. -/
def execSpdmUnsupported (r : SpdmReq) (_code : BitVec 8) (s : State) : Out := fin s (s.spdmError r seUnsupported)

/-- SIGNED_BATCH (spec 14 R327): A signed configuration batch arriving by MCTP is checked and its entries applied in
order. -/
def execSignedBatch (path : Path) (b : Batch) (s : State) : Out := fin s (s.runBatch path b)

/-- KEY_LOAD (spec 14 R323): The last byte of a key-load entry is written and the key is unwrapped into a slot or
refused. -/
def execKeyLoad (path : Path) (k : KeyLoad) (s : State) : Out := fin s (s.keyLoadCmd path k)

/-- RETIRE (spec 14 R332): CTX_CTL.RETIRE = 1 puts a READY context into RETIRING and ends its queued work. -/
def execRetire (path : Path) (x : CtxId) (s : State) : Out := fin s (s.command path (CTX_CTL_RETIRE.addr x.val) (1))

/-- CTX_ZEROISE (spec 14 R332): When CTX_DRAIN.COUNT reaches 0 or 2 ms pass, the key is zeroised and the context becomes
FREE. -/
def execCtxZeroise (x : CtxId) (s : State) : Out := fin s (s.zeroise x.val)

/-- COOLING_END (spec 14 R332): 10 ms after zeroising, COOLING clears and the slot may be loaded again. -/
def execCoolingEnd (x : CtxId) (s : State) : Out := fin s (s.coolEnd x.val)

/-- CTX_RESET (spec 14 R334): CTX_CTL.CTX_RESET ends the context's procedures ABORTED and discards its running work. -/
def execCtxReset (path : Path) (x : CtxId) (s : State) : Out := fin s (s.command path (CTX_CTL_CTX_RESET.addr x.val) (2))

/-- SEC_BATCH_GO (spec 14 R327): SEC_BATCH_CMD.GO starts the read of a signed batch from host memory. -/
def execSecBatchGo (path : Path) (s : State) : Out := fin s (s.command path (SEC_BATCH_CMD_GO.addr) (1))

/-- SEC_BATCH_READ_DONE (spec 14 R327): The batch read completes and the batch is checked and applied. -/
def execSecBatchReadDone (ok : Bool) (b : Batch) (s : State) : Out := fin s (s.batchReadDone ok b)

end Sys2Proof.Machine
end

