-- ==== Sys2Proof/Machine/CollFilter.lean ====
section
/-! DEFINITION. Collectives and filter tables (spec 11, 12). -/

namespace Sys2Proof.Machine

/-- COLL_DEFINE (spec 11 R256): COLL_GCMD.GO with OP = DEFINE reads a group image and defines the group or refuses. -/
def execCollDefine (path : Path) (group : BitVec 12) (s : State) : Out :=
  fin s (s.command path (COLL_GCMD_GO.addr) (group.toNat + 0x5000))

/-- COLL_DELETE (spec 11 R256): COLL_GCMD.GO with OP = DELETE aborts the open operation and removes the group. -/
def execCollDelete (path : Path) (group : BitVec 12) (s : State) : Out :=
  fin s (s.command path (COLL_GCMD_GO.addr) (group.toNat + 0x6000))

/-- COLL_LIMIT (spec 11 R274): COLL_CTL.LIMIT_US expires at the root and TIMEOUT is sent down the tree. -/
def execCollLimit (group : BitVec 12) (s : State) : Out := fin s (s.collLimit group.toNat)

/-- TUCK_ARM (spec 12 R295): FILT_TUCK_CMD.GO with OP = ARM arms a device for a tuck, or starts RUN on the device
holding H. -/
def execTuckArm (path : Path) (s : State) : Out := fin s (s.command path (FILT_TUCK_CMD_GO.addr) (9))

/-- TUCK_RESUME (spec 12 R302): FILT_TUCK_CMD.GO with OP = RESUME continues a HELD tuck from its cursor. -/
def execTuckResume (path : Path) (s : State) : Out := fin s (s.command path (FILT_TUCK_CMD_GO.addr) (10))

/-- TUCK_ABORT (spec 12 R299): FILT_TUCK_CMD.GO with OP = ABORT stops the tuck on every device of the range. -/
def execTuckAbort (path : Path) (s : State) : Out := fin s (s.command path (FILT_TUCK_CMD_GO.addr) (11))

/-- TUCK_COPY (spec 12 R296): A running tuck copies one entry up by one place, and writes the staged entry at G when
done. -/
def execTuckCopy (s : State) : Out := fin s (s.tuckCopy)

/-- TUCK_CROSS_WAIT (spec 12 R297): The lower device's 10 µs wait after a crossing ends and it enters RUN. -/
def execTuckCrossWait (s : State) : Out := fin s (s.tuckCross)

/-- TUCK_RETRANSMIT (spec 12 R297): Every 100 µs an unanswered CONTINUE or ENTRY is resent. -/
def execTuckRetransmit (s : State) : Out := fin s (s.tuckAgain)

/-- STITCH_LAPSE (spec 12 R290): A chain lookup's 10 µs life ends and it is re-issued or ends TIMEOUT. -/
def execStitchLapse (slot : BitVec 6) (s : State) : Out := fin s (s.stitchLapse slot.toNat)

/-- STITCH_SLOT_FREE (spec 12 R290): A lapsed lookup slot becomes reusable after 1 ms. -/
def execStitchSlotFree (slot : BitVec 6) (s : State) : Out := fin s (s.stitchSlotFree slot.toNat)

/-- FILT_SCRUB (spec 12 R293): The background scrub compares a CAM entry with its shadow and rewrites it if they differ.
-/
def execFiltScrub (c : CoreId) (entry : BitVec 14) (s : State) : Out := fin s (s.scrub c.val entry.toNat)

/-- FILT_SOFT_ERROR (spec 12 R292): An uncorrectable shadow, priority or data error clears the entry's VALID and latches
it. -/
def execFiltSoftError (c : CoreId) (entry : BitVec 14) (s : State) : Out := fin s (s.loseEntry c.val entry.toNat)

end Sys2Proof.Machine
end

