-- ==== Sys2Proof/Machine/Cxl.lean ====
section
/-! DEFINITION. CXL.mem and CXL.io traffic, trays and hosts (spec 04, 05 R126, 06 R148, 09 R225, 21 R438). -/

namespace Sys2Proof.Machine

/-- MEM_RD (spec 04 R85): A CXL.mem MemRd for shared or ownership is ordered at the home and run through the directory
transaction table. -/
def execMemRd (p : PortId) (tag : BitVec 16) (addr : BitVec 64) (own : Bool) (s : State) (dpid : Option (BitVec 12) := none) : Out :=
  fin s (s.take (.memRd p tag addr own dpid))

/-- MEM_INV (spec 04 R85): A CXL.mem MemInv obtains an ownable copy without data. -/
def execMemInv (p : PortId) (tag : BitVec 16) (addr : BitVec 64) (s : State) (dpid : Option (BitVec 12) := none) : Out :=
  fin s (s.take (.memInv p tag addr dpid))

/-- MEM_WR (spec 04 R85): A CXL.mem MemWr is handled as a write-back from the owner or as an uncached write. -/
def execMemWr (p : PortId) (tag : BitVec 16) (addr : BitVec 64) (d : Line) (mask : BitVec 64) (poison : Bool) (wb : Bool)
    (s : State) (dpid : Option (BitVec 12) := none) : Out :=
  fin s (s.take (.memWr p tag addr d mask poison wb dpid))

/-- BIRSP (spec 04 R86): A leaf's answer to a back-invalidate snoop arrives, completing or forwarding the waiting
request. -/
def execBirsp (p : PortId) (addr : BitVec 48) (shared : Bool) (s : State) : Out := fin s (s.take (.birsp p addr shared))

/-- BICONFLICT (spec 04 R87): A leaf's BIConflict is answered so that its request is ordered after the outstanding
snoop. -/
def execBiconflict (p : PortId) (tag : BitVec 16) (addr : BitVec 48) (s : State) : Out :=
  fin s (s.take (.biconflict p tag addr))

/-- CXL_IO_MEM_WR (spec 21 R438): A CXL.io memory write is routed by the route table to a trigger, collective,
management, peer or pool target. -/
def execCxlIoMemWr (p : PortId) (addr : BitVec 64) (dws : List (Word × BitVec 4)) (poison : Bool)
    (s : State) (dpid : Option (BitVec 12) := none) : Out :=
  fin s (s.take (.cxlIoMemWr p addr dws poison dpid))

/-- CXL_IO_MEM_RD (spec 21 R438): A CXL.io memory read is routed by the route table and answered. -/
def execCxlIoMemRd (p : PortId) (tag : BitVec 16) (addr : BitVec 64) (len : Nat) (s : State) (dpid : Option (BitVec 12) := none) : Out :=
  fin s (s.take (.cxlIoMemRd p tag addr len dpid))

/-- ATOMIC_OP (spec 05 R126): A PCIe AtomicOp to a POOL address executes at the home without a reply-cache entry. -/
def execAtomicOp (p : PortId) (tag : BitVec 16) (addr : BitVec 64) (op : BitVec 4) (size : BitVec 2) (operand : Slot) (swapv : Slot)
    (s : State) (dpid : Option (BitVec 12) := none) : Out :=
  fin s (s.take (.atomicOp p tag addr op size operand swapv dpid))

/-- CFG_RD (spec 02 R55): A CXL.io configuration read completes, or gets Configuration Request Retry Status before
READY. -/
def execCfgRd (p : PortId) (tag : BitVec 16) (reg : BitVec 12) (s : State) : Out := fin s (s.take (.cfgRd p tag reg))

/-- TRAY_CPL (spec 06 R148): A tray completes a read or write the device issued, with data, poison or an error. -/
def execTrayCpl (id : Nat) (r : TrayOutcome) (s : State) : Out := fin s (s.trayCpl id r)

/-- TRAY_TIMEOUT (spec 06 R468): A tray access gets no completion within TIER_TRAY_TO.LIMIT_US and fails over,
reconstructs or ends poisoned. -/
def execTrayTimeout (id : Nat) (s : State) : Out := fin s (s.trayTimeout id)

/-- HOST_CPL (spec 09 R225): A CXL.io completion returns for a HOST read, zero-length read or AtomicOp the device
issued. -/
def execHostCpl (p : PortId) (tag : BitVec 16) (ok : Bool) (data : List Byte) (s : State) (dpid : Option (BitVec 12) := none) : Out :=
  fin s (s.take (.hostCpl p tag ok data dpid))

/-- CPL_TIMEOUT (spec 15 R344): A CXL.io completion timeout on a port is counted towards a port verdict. -/
def execCplTimeout (p : PortId) (s : State) : Out := fin s (s.portCto p.val)

/-- COLL_WINDOW_WRITE (spec 11 R259): A CXL member's write to its collective window delivers a header or a chunk. -/
def execCollWindowWrite (p : PortId) (group : BitVec 12) (off : BitVec 12) (d : Line) (whole : Bool) (poison : Bool) (s : State) : Out :=
  fin s (s.take (.collWindowWrite p group off d whole poison))

end Sys2Proof.Machine
end

