-- ==== Sys2Proof/Machine/Descriptors.lean ====
section
/-! DEFINITION. Descriptors, procedures, contexts' queues and cores (spec 08, 09, 10). -/

namespace Sys2Proof.Machine

/-- CORE_DISPATCH (spec 09 R214): A core becomes free and the scheduler places the next ready descriptor on it. -/
def execCoreDispatch (c : CoreId) (s : State) : Out := fin s (s.dispatch c.val)

/-- DESC_FETCH_DONE (spec 09 R219): A descriptor line read returns and the descriptor is checked and started. -/
def execDescFetchDone (c : CoreId) (s : State) : Out := fin s (s.fetchStep c.val)

/-- GATHER (spec 10 R238): The GATHER descriptor reads indexed rows and converts them into packed output rows. -/
def execGather (c : CoreId) (s : State) : Out := fin s (s.engineOp c.val 0x01)

/-- SCATTER (spec 10 R239): The SCATTER descriptor writes or accumulates rows at indexed destinations. -/
def execScatter (c : CoreId) (s : State) : Out := fin s (s.engineOp c.val 0x02)

/-- COPY (spec 10 R233): The COPY descriptor moves LEN bytes. -/
def execCopy (c : CoreId) (s : State) : Out := fin s (s.engineOp c.val 0x03)

/-- FILTER (spec 10 R240): The FILTER descriptor looks up each record's key in the filter tables. -/
def execFilter (c : CoreId) (s : State) : Out := fin s (s.engineOp c.val 0x04)

/-- SCORE (spec 10 R241): The SCORE descriptor computes DOT, COSINE or L2 scores of queries against candidate keys. -/
def execScore (c : CoreId) (s : State) : Out := fin s (s.engineOp c.val 0x05)

/-- TOPK (spec 10 R242): The TOPK descriptor writes the best K qualifying candidates in rank order. -/
def execTopk (c : CoreId) (s : State) : Out := fin s (s.engineOp c.val 0x06)

/-- ATTN_PARTIAL (spec 10 R243): The ATTN_PARTIAL descriptor computes partial attention records block by block. -/
def execAttnPartial (c : CoreId) (s : State) : Out := fin s (s.engineOp c.val 0x07)

/-- MERGE (spec 10 R244): The MERGE descriptor combines attention partials by log-sum-exp. -/
def execMerge (c : CoreId) (s : State) : Out := fin s (s.engineOp c.val 0x08)

/-- REDUCE_LOCAL (spec 10 R245): The REDUCE_LOCAL descriptor folds source vectors in ascending order. -/
def execReduceLocal (c : CoreId) (s : State) : Out := fin s (s.engineOp c.val 0x09)

/-- MOE_DISPATCH (spec 10 R246): The MOE_DISPATCH descriptor routes tokens to experts and copies their rows. -/
def execMoeDispatch (c : CoreId) (s : State) : Out := fin s (s.engineOp c.val 0x0A)

/-- MOE_COMBINE (spec 10 R247): The MOE_COMBINE descriptor sums weighted expert rows per token. -/
def execMoeCombine (c : CoreId) (s : State) : Out := fin s (s.engineOp c.val 0x0B)

/-- COMPRESS (spec 10 R248): The COMPRESS descriptor codes plain blocks in the Aisko format with a size map. -/
def execCompress (c : CoreId) (s : State) : Out := fin s (s.engineOp c.val 0x0C)

/-- EXPAND (spec 10 R248): The EXPAND descriptor decodes Aisko blocks to 256 B each. -/
def execExpand (c : CoreId) (s : State) : Out := fin s (s.engineOp c.val 0x0D)

/-- ATOMIC_BATCH (spec 10 R249): The ATOMIC_BATCH descriptor applies up to 64 atomics through a commit log. -/
def execAtomicBatch (c : CoreId) (s : State) : Out := fin s (s.engineOp c.val 0x0E)

/-- FENCE (spec 10 R250): The FENCE descriptor waits until earlier writes of its procedure reach their ordering points.
-/
def execFence (c : CoreId) (s : State) : Out := fin s (s.runOp c.val 0x10)

/-- SIGNAL (spec 10 R251): The SIGNAL descriptor applies ADD, SET or MAX to a counter exactly once. -/
def execSignal (c : CoreId) (s : State) : Out := fin s (s.runOp c.val 0x11)

/-- WAIT (spec 10 R252): The WAIT descriptor reads a counter and commits or parks its procedure. -/
def execWait (c : CoreId) (s : State) : Out := fin s (s.runOp c.val 0x12)

/-- STEP (spec 10 R253): The STEP descriptor acts on a schedule's clock at its commit. -/
def execStep (c : CoreId) (s : State) : Out := fin s (s.runOp c.val 0x13)

/-- NOP (spec 10 R254): The NOP descriptor commits at once, optionally supplying four result words. -/
def execNop (c : CoreId) (s : State) : Out := fin s (s.runOp c.val 0x1F)

/-- DESC_COMMIT (spec 08 R198): Every staged write of a descriptor has been ordered and the descriptor commits. -/
def execDescCommit (c : CoreId) (s : State) : Out := fin s (s.descCommit c.val)

/-- WAIT_RECHECK (spec 10 R252): A write ordered to a parked WAIT's counter line makes the home re-read the counter. -/
def execWaitRecheck (x : CtxId) (proc : Nat) (s : State) : Out := fin s (s.waitRecheck x.val proc)

/-- WAIT_LIMIT (spec 10 R252): A WAIT's LIMIT_US passes and it completes TIMEOUT. -/
def execWaitLimit (x : CtxId) (proc : Nat) (s : State) : Out := fin s (s.waitLimit x.val proc)

/-- REMOTE_ACCESS_TIMEOUT (spec 09 R218): A PEER or HOST access unanswered or unissued for 4 ms ends its descriptor
TIMEOUT. -/
def execRemoteAccessTimeout (c : CoreId) (s : State) : Out := fin s (s.remoteTimeout c.val)

/-- COMPLETION_RECORD (spec 09 R225): All writes of a procedure have reached their ordering points and its completion
record is issued. -/
def execCompletionRecord (x : CtxId) (proc : Nat) (s : State) : Out := fin s (s.completionRecord x.val proc)

/-- COUNTER_INCREMENT (spec 09 R225): After the record reaches its ordering point, CNT_VAL is added to the completion
counter. -/
def execCounterIncrement (x : CtxId) (proc : Nat) (s : State) : Out := fin s (s.counterIncrement x.val proc)

/-- CTX_PAUSE (spec 09 R217): A write of CTX_QCTL.PAUSE stops or resumes the starting of the context's procedures. -/
def execCtxPause (path : Path) (x : CtxId) (pause : Bool) (s : State) : Out :=
  fin s (s.command path (CTX_QCTL_PAUSE.addr x.val) (insBits (s.reg (CTX_QCTL_PAUSE.addr x.val)) 2 2 (b2n pause)))

/-- PREEMPT_CHECK (spec 08 R196): A descriptor's 200 µs run ends and it is preempted if the conditions hold. -/
def execPreemptCheck (c : CoreId) (s : State) : Out := fin s (s.preemptCheck c.val)

/-- PREEMPT_SAVE_DONE (spec 08 R196): The save of a preempted descriptor completes and its core is freed. -/
def execPreemptSaveDone (c : CoreId) (s : State) : Out := fin s (s.saveDone c.val)

/-- RESTORE_DONE (spec 08 R197): A saved descriptor is restored on a core and resumes from its cursor. -/
def execRestoreDone (c : CoreId) (s : State) : Out := fin s (s.restore c.val)

/-- CORE_FAULT (spec 08 R200): An SRAM, parity or residue failure fences a core in the same cycle. -/
def execCoreFault (c : CoreId) (cause : BitVec 4) (s : State) : Out :=
  fin s (if 1 ≤ cause.toNat ∧ cause.toNat ≤ 4 then s.fenceCore c.val cause.toNat else s)

/-- CORE_WATCHDOG (spec 08 R200): A descriptor makes no progress for CORE_WDOG.LIMIT_US and its core is fenced. -/
def execCoreWatchdog (c : CoreId) (s : State) : Out := fin s (s.fenceCore c.val 4)

/-- REPLAY_START (spec 08 R201): A descriptor of a fenced core starts replay on a free core of its slice. -/
def execReplayStart (c : CoreId) (s : State) : Out := fin s (s.startReplay c.val)

/-- CORE_INJ_ARM (spec 21 R441): CORE_INJ.ARM arms a core to fail with CAUSE on its next descriptor cycle. -/
def execCoreInjArm (path : Path) (c : CoreId) (cause : BitVec 2) (s : State) : Out :=
  fin s (s.command path (CORE_INJ_ARM.addr c.val) (cause.toNat + 4))

/-- PSTATE_DWELL (spec 08 R205): An idle core's dwell time expires and it moves one state down the ladder. -/
def execPstateDwell (c : CoreId) (s : State) : Out := fin s (s.dwell c.val)

/-- PSTATE_EXIT_DONE (spec 08 R206): A core finishes its exit to C0 and waiting work proceeds. -/
def execPstateExitDone (c : CoreId) (s : State) : Out := fin s (s.wakeCore c.val)

end Sys2Proof.Machine
end

