-- ==== Sys2Proof/Machine/FabricApi.lean ====
section
/-! DEFINITION. Fabric Management API commands over MCTP (spec 02 R54, R55). -/

namespace Sys2Proof.Machine

/-- IDENTIFY (spec 02 R54): The Fabric Management API command Identify is answered. -/
def execIdentify (q : Req) (s : State) : Out := fin s (s.fmFree q [])

/-- BACKGROUND_OPERATION_STATUS (spec 02 R54): The command Background Operation Status reports the running background
operation. -/
def execBackgroundOperationStatus (q : Req) (s : State) : Out := fin s (s.fmStatus q)

/-- GET_RESPONSE_MESSAGE_LIMIT (spec 02 R54): The command Get Response Message Limit is answered. -/
def execGetResponseMessageLimit (q : Req) (s : State) : Out := fin s (s.fmOk q [s.mgmt.msgLimit])

/-- SET_RESPONSE_MESSAGE_LIMIT (spec 02 R54): The command Set Response Message Limit sets the limit. -/
def execSetResponseMessageLimit (q : Req) (limit : BitVec 8) (s : State) : Out := fin s (s.fmLimit q limit.toNat)

/-- GET_EVENT_RECORDS (spec 02 R54): The command Get Event Records returns posted event records. -/
def execGetEventRecords (q : Req) (s : State) : Out := fin s (s.fmEvents q)

/-- CLEAR_EVENT_RECORDS (spec 02 R54): The command Clear Event Records clears posted event records. -/
def execClearEventRecords (q : Req) (all : Bool) (n : Nat) (s : State) : Out := fin s (s.fmClear q all n)

/-- GET_EVENT_INTERRUPT_POLICY (spec 02 R54): The command Get Event Interrupt Policy is answered. -/
def execGetEventInterruptPolicy (q : Req) (s : State) : Out := fin s (s.fmOk q [s.mgmt.policy.toNat])

/-- SET_EVENT_INTERRUPT_POLICY (spec 02 R54): The command Set Event Interrupt Policy sets the policy. -/
def execSetEventInterruptPolicy (q : Req) (v : Word) (s : State) : Out := fin s (s.fmPolicy q v)

/-- GET_SUPPORTED_LOGS (spec 02 R54): The command Get Supported Logs is answered. -/
def execGetSupportedLogs (q : Req) (s : State) : Out := fin s (s.fmFree q [])

/-- GET_LOG (spec 02 R54): The command Get Log returns a log. -/
def execGetLog (q : Req) (logId : Nat) (s : State) : Out := fin s (s.fmFree q [logId])

/-- IDENTIFY_SWITCH_DEVICE (spec 02 R54): The command Identify Switch Device is answered. -/
def execIdentifySwitchDevice (q : Req) (s : State) : Out := fin s (s.fmFree q [])

/-- GET_PHYSICAL_PORT_STATE (spec 02 R54): The command Get Physical Port State is answered. -/
def execGetPhysicalPortState (q : Req) (p : PortId) (s : State) : Out := fin s (s.fmPort q p.val)

/-- PHYSICAL_PORT_CONTROL (spec 02 R55): The command Physical Port Control is carried out as register writes through the
consistency check. -/
def execPhysicalPortControl (q : Req) (p : PortId) (op : BitVec 8) (s : State) : Out :=
  fin s (s.fmStart q 0x5102 (fun s => s.fmControl p.val op.toNat))

/-- SEND_PPB_CXL_IO_CONFIG_REQUEST (spec 02 R54): The command Send PPB CXL.io Configuration Request is carried out. -/
def execSendPpbCxlIoConfigRequest (q : Req) (p : PortId) (reg : BitVec 12) (write : Bool) (v : Word) (s : State) : Out :=
  fin s (s.fmConfigReq q p.val reg write v)

/-- GET_VIRTUAL_CXL_SWITCH_INFO (spec 02 R54): The command Get Virtual CXL Switch Info is answered. -/
def execGetVirtualCxlSwitchInfo (q : Req) (vcs : BitVec 8) (s : State) : Out := fin s (s.fmVcs q vcs.toNat)

/-- BIND_VPPB (spec 02 R55): The command Bind vPPB is carried out as configuration writes. -/
def execBindVppb (q : Req) (vcs : BitVec 8) (vppb : BitVec 8) (p : PortId) (s : State) : Out :=
  fin s (s.fmStart q 0x5201 (fun s => s.fmBind vcs.toNat vppb.toNat p.val))

/-- UNBIND_VPPB (spec 02 R55): The command Unbind vPPB is carried out as configuration writes. -/
def execUnbindVppb (q : Req) (vcs : BitVec 8) (vppb : BitVec 8) (s : State) : Out :=
  fin s (s.fmStart q 0x5202 (fun s => s.fmUnbind vcs.toNat vppb.toNat))

/-- GENERATE_AER_EVENT (spec 02 R54): The command Generate AER Event is carried out. -/
def execGenerateAerEvent (q : Req) (vcs : BitVec 8) (vppb : BitVec 8) (err : Word) (s : State) : Out :=
  fin s (s.fmAer q vcs.toNat vppb.toNat err)

/-- TUNNEL_MANAGEMENT_COMMAND (spec 02 R54): The command Tunnel Management Command is tunnelled towards a tray. -/
def execTunnelManagementCommand (q : Req) (p : PortId) (payload : List Byte) (s : State) : Out :=
  fin s (s.fmTunnel q p.val payload)

/-- GET_DCD_INFO (spec 02 R54): The command Get DCD Info is answered. -/
def execGetDcdInfo (q : Req) (s : State) : Out := fin s (s.fmFree q [])

/-- GET_HOST_DC_REGION_CONFIGURATION (spec 02 R54): The command Get Host DC Region Configuration is answered. -/
def execGetHostDcRegionConfiguration (q : Req) (p : PortId) (s : State) : Out := fin s (s.fmFree q [p.val])

/-- SET_DC_REGION_CONFIGURATION (spec 02 R55): The command Set DC Region Configuration is carried out as configuration
writes. -/
def execSetDcRegionConfiguration (q : Req) (_p : PortId) (entries : List (Nat × Word)) (s : State) : Out :=
  fin s (s.fmConfig q (State.fmWrites entries))

/-- GET_DC_REGION_EXTENT_LISTS (spec 02 R54): The command Get DC Region Extent Lists is answered. -/
def execGetDcRegionExtentLists (q : Req) (p : PortId) (s : State) : Out := fin s (s.fmOk q (p.val :: s.portExtents p.val))

/-- INITIATE_DYNAMIC_CAPACITY_ADD (spec 02 R55): The command Initiate Dynamic Capacity Add starts a background
operation. -/
def execInitiateDynamicCapacityAdd (q : Req) (p : PortId) (extents : List (BitVec 18)) (s : State) : Out :=
  fin s (s.fmStart q 0x5604 (fun s => s.fmDcd p.val true (extents.map (·.toNat))))

/-- INITIATE_DYNAMIC_CAPACITY_RELEASE (spec 02 R55): The command Initiate Dynamic Capacity Release starts a background
operation. -/
def execInitiateDynamicCapacityRelease (q : Req) (p : PortId) (extents : List (BitVec 18)) (s : State) : Out :=
  fin s (s.fmStart q 0x5605 (fun s => s.fmDcd p.val false (extents.map (·.toNat))))

/-- FMAPI_UNSUPPORTED (spec 02 R54): Any other Fabric Management API command is answered Unsupported. -/
def execFmapiUnsupported (q : Req) (_opcode : BitVec 16) (s : State) : Out := fin s (s.fm q fmUnsupported 0 [])

/-- BACKGROUND_OPERATION_DONE (spec 02 R55): The running background operation ends and a new one may start. -/
def execBackgroundOperationDone (s : State) : Out := fin s (s.fmDone)

end Sys2Proof.Machine
end

