-- ==== Sys2Proof/Machine/Links.lean ====
section
/-! DEFINITION. Links and Yarlia Direct: the commands of spec 02, and power states of links (16 R369). -/

namespace Sys2Proof.Machine

/-- LINK_UP (spec 02 R26): Link training on a port ends with the link in L0 at a width and rate that PCIe 7.0 allows. -/
def execLinkUp (p : PortId) (width : BitVec 2) (rate : BitVec 2) (partnerYd : Bool) (reversed : Bool) (s : State) : Out :=
  fin s (s.linkUp p.val width.toNat rate.toNat partnerYd reversed)

/-- LINK_DOWN (spec 02 R466): A port's link leaves L0, L0p and L1, and is handled as a quiesced or unquiesced link-down.
-/
def execLinkDown (p : PortId) (s : State) : Out := fin s (s.linkDown p.val)

/-- YD_FALLBACK (spec 02 R35): A YD link that failed to reach L0 three times within 100 ms is retrained in CXL mode. -/
def execYdFallback (p : PortId) (s : State) : Out := fin s (s.ydFallback p.val)

/-- L1_EXIT (spec 16 R369): A CXL port in L1 completes its exit to L0, and the requests that waited for it proceed. -/
def execL1Exit (p : PortId) (s : State) : Out := fin s (s.leaveL1 p.val)

/-- HOT_RESET (spec 16 R371): A hot reset from the link partner runs a PORT_RESET of that port. -/
def execHotReset (p : PortId) (s : State) : Out := fin s (if s.linked p.val then s.portReset p.val else s)

/-- YD_FLIT_RX (spec 02 R38): A whole YD flit is received, FEC-corrected, CRC and MAC checked, and its messages are
processed in slot order or a NAK is sent. -/
def execYdFlitRx (p : PortId) (flit : BitVec 2048) (macOk : Bool) (s : State) : Out := fin s (s.takeFlitIn p flit macOk)

/-- YD_NAK_RX (spec 02 R43): A received NAK makes the sender resend every flit from ACK + 1 in order. -/
def execYdNakRx (p : PortId) (ack : BitVec 12) (s : State) : Out := fin s (s.recvNak p.val ack)

/-- CREDIT (spec 02 R42): A CONTROL flit of subtype CREDIT returns slot credits for one of the four classes. -/
def execCredit (p : PortId) (cls : BitVec 2) (n : Nat) (s : State) : Out := fin s (s.recvCredit p.val cls.toNat n)

/-- INIT (spec 02 R36): The partner's INIT flit arrives with its FEID, device ID and incarnation, enabling PAYLOAD flits
and ending state of an older incarnation. -/
def execInit (p : PortId) (feid : Feid) (dev : DevId) (incarn : BitVec 16) (s : State) : Out :=
  fin s (s.recvInit p.val feid dev incarn)

/-- HB (spec 15 R336): A confirmed heartbeat from a neighbour marks it heard in the current interval. -/
def execHb (p : PortId) (src : Feid) (incarn : BitVec 16) (ndev : BitVec 8) (s : State) : Out :=
  fin s (s.take (.hb p src incarn ndev))

/-- HB_SEND (spec 02 R41): Every 20 µs the device sends a HB message in Q0 on every YD link. -/
def execHbSend (s : State) : Out := fin s (s.sendHbs)

/-- EGRESS_SCHEDULE (spec 13 R307): At a message boundary the port scheduler picks the next message from strict queues,
the guard or the weighted side. -/
def execEgressSchedule (p : PortId) (s : State) : Out := fin s (s.schedule p.val)

/-- TX_CRC (spec 21 R440): PORT_INJ.TX_CRC sends the next egress flit with a complemented CRC. -/
def execTxCrc (path : Path) (p : PortId) (s : State) : Out := fin s (s.command path (PORT_INJ_TX_CRC.addr p.val) (1))

/-- TX_BYTE (spec 21 R440): PORT_INJ.TX_BYTE sends the next egress flit with byte 17 inverted. -/
def execTxByte (path : Path) (p : PortId) (s : State) : Out := fin s (s.command path (PORT_INJ_TX_BYTE.addr p.val) (2))

/-- RX_CRC (spec 21 R440): PORT_INJ.RX_CRC treats the next ingress flit as failing its CRC. -/
def execRxCrc (path : Path) (p : PortId) (s : State) : Out := fin s (s.command path (PORT_INJ_RX_CRC.addr p.val) (4))

/-- L1_ENTRY (spec 16 R369): A CXL-mode link whose PORT_CFG.L1_EN = 1 enters L1 and PORT_LSTAT.PM becomes L1. -/
def execL1Entry (p : PortId) (s : State) : Out := fin s (s.l1Entry p.val)

/-- L0P_WIDTH_CHANGE (spec 02 R29): A link enters, changes or leaves an L0p width step that L0P_EN permits. -/
def execL0pWidthChange (p : PortId) (width : BitVec 2) (s : State) : Out := fin s (s.l0pChange p.val width.toNat)

end Sys2Proof.Machine
end

