-- ==== Sys2Proof/Machine/LiveCmds.lean ====
section
/-! DEFINITION. Liveness timers and commands (spec 15). -/

namespace Sys2Proof.Machine

/-- HB_INTERVAL_END (spec 15 R337): A 20 µs interval ends and neighbours unheard for MISS intervals become suspected. -/
def execHbIntervalEnd (s : State) : Out := fin s ((s.tick20.hbInterval).refill 20)

/-- SUSPECT_RESEND (spec 15 R338): Every 100 µs a juror resends its SUSPECT until a verdict or WITHDRAW. -/
def execSuspectResend (feid : Feid) (s : State) : Out := fin s (s.suspectResend feid)

/-- LIVE_ID_EXPIRE (spec 15 R338): A remembered LIVE message identity is forgotten after 10 ms. -/
def execLiveIdExpire (kind : BitVec 8) (m : LiveMsg) (s : State) : Out := fin s (s.forgetLive kind m)

/-- DECLARE (spec 15 R343): LIVE_CMD.GO with OP = DECLARE floods a verdict without votes. -/
def execDeclare (path : Path) (isPort : Bool) (port : BitVec 8) (feid : Feid) (s : State) : Out :=
  fin s (s.command path (LIVE_CMD_GO.addr) (5 + 8 * b2n isPort + 0x100 * port.toNat + 0x10000 * feid.toNat))

/-- FORGET (spec 15 R351): LIVE_CMD.GO with OP = FORGET marks a fence entry forgotten. -/
def execForget (path : Path) (feid : Feid) (s : State) : Out :=
  fin s (s.command path (LIVE_CMD_GO.addr) (6 + 0x10000 * feid.toNat))

/-- SELF_FENCE (spec 15 R345): LIVE_CMD.GO with OP = SELF_FENCE self-fences the device. -/
def execSelfFence (path : Path) (s : State) : Out := fin s (s.command path (LIVE_CMD_GO.addr) (7))

/-- REJOIN_RESEND (spec 15 R349): Every 100 µs a JOINING device resends REJOIN. -/
def execRejoinResend (s : State) : Out := fin s (s.rejoinResend)

/-- FLUSH_DONE (spec 15 R346): The flush of a self-fenced device ends and FLUSHING clears. -/
def execFlushDone (s : State) : Out := fin s (s.flushDone)

/-- PROG_SNAP (spec 15 R354): PROG_CTL.SNAP latches the three progress counters at one instant. -/
def execProgSnap (path : Path) (s : State) : Out := fin s (s.command path (PROG_CTL_SNAP.addr) (1))

/-- PROG_CLEAR (spec 15 R354): PROG_CTL.CLEAR clears the progress counters and their snapshots. -/
def execProgClear (path : Path) (s : State) : Out := fin s (s.command path (PROG_CTL_SNAP.addr) (2))

end Sys2Proof.Machine
end

