-- ==== Sys2Proof/Machine/MapCmds.lean ====
section
/-! DEFINITION. The composition map, hand-over, the home and regions (spec 03, 04, 05). -/

namespace Sys2Proof.Machine

/-- MAP_COMMIT (spec 03 R60): A write of MAP_COMMIT.COMMIT = 1 starts the check of the pending bank. -/
def execMapCommit (path : Path) (s : State) : Out := fin s (s.command path (MAP_COMMIT_COMMIT.addr) (1))

/-- COMMIT_CHECK_DONE (spec 03 R60): The pending-bank check ends: the commit is refused with one reason, or the bank
becomes current under a new epoch. -/
def execCommitCheckDone (s : State) : Out := fin s (s.commitCheckDone)

/-- DCD_RELEASE (spec 03 R68): Once every back-invalidation for a removed extent has ended, a forced DCD Release
Capacity event is sent. -/
def execDcdRelease (p : PortId) (extent : BitVec 18) (s : State) : Out := fin s (s.dcdRelease p.val extent.toNat)

/-- PENDING_RELOAD_DONE (spec 03 R62): The reload of the pending bank ends, PENDING_READY returns to 1 and held window
writes apply. -/
def execPendingReloadDone (s : State) : Out := fin s (s.reloadDone)

/-- MAP_XFER (spec 03 R71): A write to MAP_XFER sets an extent's owner slice in the pending bank and commits it. -/
def execMapXfer (path : Path) (extent : BitVec 18) (slice : BitVec 8) (s : State) : Out :=
  fin s (s.command path (MAP_XFER_EXTENT.addr) (extent.toNat + 2 ^ 18 * slice.toNat))

/-- EPOCH_RETIRE (spec 03 R64): MAP_INFLIGHT.COUNT reaches 0, the draining epoch retires and held requests are released.
-/
def execEpochRetire (s : State) : Out := fin s (s.epochRetire)

/-- DRAIN_EXPIRY (spec 03 R65): The drain limit expires: remaining requests end poisoned, their extents are tainted and
the epoch retires. -/
def execDrainExpiry (s : State) : Out := fin s (s.drainExpiry)

/-- GIVE_READY (spec 03 R72): The old home's admitted requests and write-backs end, the summary is written and GIVE is
sent. -/
def execGiveReady (extent : BitVec 18) (s : State) : Out := fin s (s.giveReady extent.toNat)

/-- SUMMARY_STORED (spec 03 R73): The new home has read and stored the summary, enters TAKING and sends TAKE. -/
def execSummaryStored (extent : BitVec 18) (s : State) : Out := fin s (s.summaryEnd extent.toNat)

/-- HANDOFF_RETRANSMIT (spec 03 R74): Every 100 µs a hand-over side resends its last message until answered. -/
def execHandoffRetransmit (extent : BitVec 18) (s : State) : Out := fin s (s.handAgain extent.toNat)

/-- HANDOFF_LIMIT (spec 03 R76): MAP_HO_LIMIT expires in GIVING or AWAITING, returning to OWNED or entering FAILED. -/
def execHandoffLimit (extent : BitVec 18) (s : State) : Out := fin s (s.hoLimit extent.toNat)

/-- MEM_READ_DONE (spec 04 R90): A speculative or confirmed data read returns to the central die and is used or
discarded. -/
def execMemReadDone (id : Nat) (s : State) : Out := fin s (s.memDone id)

/-- SNOOP_TIMEOUT (spec 04 R92): T_SNP expires on a BISnp: the line is poisoned or left, the holder cleared and waiting
requests completed. -/
def execSnoopTimeout (p : PortId) (addr : BitVec 48) (s : State) : Out := fin s (s.snoopTimeout p.val addr.toNat)

/-- DIR_MIRROR_REBUILT (spec 04 R83): The second copy of the directory backing store is re-established on a surviving
stack. -/
def execDirMirrorRebuilt (s : State) : Out := fin s (s.mirrorRebuilt)

/-- REPL_WINDOW_END (spec 04 R95): A 10 ms replica window ends and candidate pages are replicated or requested. -/
def execReplWindowEnd (s : State) : Out := fin s (s.replWindow)

/-- REPL_FILL_DONE (spec 04 R97): A replica fill completes and the replica comes into use. -/
def execReplFillDone (page : BitVec 36) (s : State) : Out := fin s (s.fillDone page.toNat)

/-- REPL_INV_RETRANSMIT (spec 04 R98): Every 100 µs an unacknowledged replica invalidation is resent. -/
def execReplInvRetransmit (page : BitVec 36) (s : State) : Out := fin s (s.invAgain page.toNat)

/-- PUB_CREATE (spec 05 R101): PUB_CMD.GO with OP = CREATE creates a region record. -/
def execPubCreate (path : Path) (s : State) : Out := fin s (s.command path (PUB_CMD_GO.addr) (5))

/-- PUB_DESTROY (spec 05 R115): PUB_CMD.GO with OP = DESTROY marks a region closing. -/
def execPubDestroy (path : Path) (s : State) : Out := fin s (s.command path (PUB_CMD_GO.addr) (6))

/-- PUB_RING_TAIL (spec 05 R114): A write of PUB_RING_TAIL frees ring space so waiting retirements proceed. -/
def execPubRingTail (path : Path) (tail : BitVec 20) (s : State) : Out :=
  fin s (s.command path (PUB_RING_TAIL_TAIL.addr) (tail.toNat))

/-- RGN_INV_RETRANSMIT (spec 05 R117): Every 100 µs an unacknowledged RGN_INV is resent. -/
def execRgnInvRetransmit (region : Word) (s : State) : Out := fin s (s.rgnAgain region.toNat)

/-- PUBLISH_LIST_READ (spec 05 R107): The extent list read from LIST_ADDR returns and the waiting PUBLISH is judged. -/
def execPublishListRead (src : Feid) (tag : BitVec 16) (entries : List Word) (poison : Bool) (s : State) : Out :=
  fin s (s.listRead src tag entries poison)

end Sys2Proof.Machine
end

