-- ==== Sys2Proof/Machine/Messages.lean ====
section
/-! DEFINITION. Messages of YD, STITCH_KEY and the liveness protocol that arrive at a port (spec 02 to 05, 09, 11, 12, 15), and the
stitch ring (12 R286). -/

namespace Sys2Proof.Machine

/-- RD (spec 04 R79): A YD read of one 64 B line is routed and, for a pool line, ordered uncached at the home. -/
def execRd (p : PortId) (h : Hdr) (s : State) : Out := fin s (s.take (.rd p h))

/-- WR (spec 04 R84): A YD write of one 64 B line is routed and ordered at its home or forwarded to a peer. -/
def execWr (p : PortId) (h : Hdr) (d : Line) (s : State) : Out := fin s (s.take (.wr p h d))

/-- WR_MASK (spec 02 R40): A YD masked write, preceded by its WR_MASK_EN, writes the enabled bytes of one line. -/
def execWrMask (p : PortId) (h : Hdr) (mask : BitVec 64) (d : Line) (s : State) : Out := fin s (s.take (.wrMask p h mask d))

/-- RSP_DATA (spec 04 R89): Read data returns for a read the device issued to a peer or the home. -/
def execRspData (p : PortId) (h : Hdr) (d : Line) (s : State) : Out := fin s (s.take (.rspData p h d))

/-- RSP (spec 04 R89): A completion without data returns for a request the device issued. -/
def execRsp (p : PortId) (h : Hdr) (s : State) : Out := fin s (s.take (.rsp p h))

/-- ATOM (spec 05 R118): A YD remote atomic is looked up in the reply cache and executed once as one transaction at the
home. -/
def execAtom (p : PortId) (h : Hdr) (slots : List Slot) (s : State) : Out := fin s (s.take (.atom p h slots))

/-- ATOM_RSP (spec 05 R120): The result of an atomic the device issued returns. -/
def execAtomRsp (p : PortId) (h : Hdr) (slots : List Slot) (s : State) : Out := fin s (s.take (.atomRsp p h slots))

/-- ATOM_ACK (spec 05 R122): An ATOM_ACK releases up to three reply-cache entries of its requester. -/
def execAtomAck (p : PortId) (h : Hdr) (s : State) : Out := fin s (s.take (.atomAck p h))

/-- PUBLISH (spec 05 R107): A PUBLISH request is ordered and judged, and on success seals extents and makes a new region
version current. -/
def execPublish (p : PortId) (h : Hdr) (slots : List Slot) (s : State) : Out := fin s (s.take (.publish p h slots))

/-- OPEN (spec 05 R111): An OPEN request pins a region version and writes its extent list to the requester. -/
def execOpenReq (p : PortId) (h : Hdr) (slots : List Slot) (s : State) : Out := fin s (s.take (.openReq p h slots))

/-- CLOSE (spec 05 R112): A CLOSE request lowers the count of a pin and may retire a version. -/
def execClose (p : PortId) (h : Hdr) (slots : List Slot) (s : State) : Out := fin s (s.take (.close p h slots))

/-- REPL_REQ (spec 04 R96): A peer's request for a page replica is granted or refused by the home. -/
def execReplReq (p : PortId) (h : Hdr) (slots : List Slot) (s : State) : Out := fin s (s.take (.replReq p h slots))

/-- REPL_INV (spec 04 R98): A replica invalidation is acknowledged once replica reads already begun have completed. -/
def execReplInv (p : PortId) (h : Hdr) (slots : List Slot) (s : State) : Out := fin s (s.take (.replInv p h slots))

/-- RGN_INV (spec 05 R117): A region-replica invalidation is acknowledged after OPENs already begun are answered, and
OPENs are forwarded thereafter. -/
def execRgnInv (p : PortId) (h : Hdr) (slots : List Slot) (s : State) : Out := fin s (s.take (.rgnInv p h slots))

/-- PUB_RSP (spec 05 R106): A publication or replica response arrives for a request the device issued or forwarded. -/
def execPubRsp (p : PortId) (h : Hdr) (slots : List Slot) (s : State) : Out := fin s (s.take (.pubRsp p h slots))

/-- TRIGGER (spec 09 R212): A whole trigger line written to a trigger window is judged and accepted into the context's
queue or refused. -/
def execTrigger (via : Via) (p : PortId) (h : Hdr) (d : Line) (whole : Bool) (s : State) : Out :=
  fin s (s.take (.trigger via p h d whole))

/-- COLL (spec 11 R257): A collective contribution chunk is checked, opens or joins the group's operation, and is
reduced in rank order. -/
def execColl (p : PortId) (h : Hdr) (slots : List Slot) (s : State) : Out := fin s (s.take (.coll p h slots))

/-- COLL_RES (spec 11 R274): A result chunk or status arrives from the parent device and is passed down to the entries.
-/
def execCollRes (p : PortId) (h : Hdr) (slots : List Slot) (s : State) : Out := fin s (s.take (.collRes p h slots))

/-- YD_FENCE (spec 04 R89): A YD FENCE holds the sender's later messages until its earlier ones reach their ordering
points. -/
def execYdFence (p : PortId) (src : Feid) (s : State) : Out := fin s (s.take (.ydFence p src))

/-- SUSPECT (spec 15 R339): A SUSPECT vote is recorded and flooded, and a verdict is reached when a majority of jurors
suspect. -/
def execSuspect (p : PortId) (m : LiveMsg) (s : State) : Out := fin s (s.take (.suspect p m))

/-- WITHDRAW (spec 15 R337): A WITHDRAW removes a juror's vote and is flooded. -/
def execWithdraw (p : PortId) (m : LiveMsg) (s : State) : Out := fin s (s.take (.withdraw p m))

/-- VERDICT (spec 15 R341): A VERDICT is flooded and applied: the subject is fenced and every consequence of a verdict
runs. -/
def execVerdict (p : PortId) (m : LiveMsg) (s : State) : Out := fin s (s.take (.verdict p m))

/-- REJOIN (spec 15 R349): A REJOIN under a newer incarnation clears the fence entry and is answered with REJOIN_ACK and
FENCE_ENTRY messages. -/
def execRejoin (p : PortId) (m : LiveMsg) (s : State) : Out := fin s (s.take (.rejoin p m))

/-- REJOIN_ACK (spec 15 R349): A neighbour's answer to this device's REJOIN is counted towards MEMBER state. -/
def execRejoinAck (p : PortId) (m : LiveMsg) (s : State) : Out := fin s (s.take (.rejoinAck p m))

/-- FENCE_ENTRY (spec 15 R349): A fence-table entry from a neighbour is entered into the joining device's table. -/
def execFenceEntry (p : PortId) (m : LiveMsg) (s : State) : Out := fin s (s.take (.fenceEntry p m))

/-- GIVE (spec 03 R73): A GIVE reaches the new home, which reads the hand-over summary or enters FAILED on a failed
status. -/
def execGive (p : PortId) (m : HandMsg) (s : State) : Out := fin s (s.take (.give p m))

/-- TAKE (spec 03 R73): A TAKE reaches the old home, which sends COMMIT and enters GIVEN_UNCONFIRMED, or answers GIVE
HANDOFF_FAILED. -/
def execTake (p : PortId) (m : HandMsg) (s : State) : Out := fin s (s.take (.take p m))

/-- HANDOFF_COMMIT (spec 03 R73): A COMMIT reaches the new home, which becomes OWNED, serves its queue and sends
COMMIT_ACK. -/
def execHandoffCommit (p : PortId) (m : HandMsg) (s : State) : Out := fin s (s.take (.handoffCommit p m))

/-- COMMIT_ACK (spec 03 R73): A COMMIT_ACK reaches the old home, which enters GIVEN and forwards its queue. -/
def execCommitAck (p : PortId) (m : HandMsg) (s : State) : Out := fin s (s.take (.commitAck p m))

/-- STITCH_KEY (spec 12 R289): A chain lookup key from another member is accepted and searched in the chain cores, or
answered DENIED. -/
def execStitchKey (p : PortId) (h : StitchHdr) (all : Bool) (key : BitVec 160) (s : State) : Out :=
  fin s (s.take (.stitchKey p h all key))

/-- BEST_RSP (spec 12 R286): The winner of a best-match chain lookup arrives at the requester. -/
def execBestRsp (p : PortId) (h : StitchHdr) (hit : Bool) (m : Match) (falseHits : BitVec 8) (s : State) : Out :=
  fin s (s.take (.bestRsp p h hit m falseHits))

/-- ALL_RSP (spec 12 R287): Matches from one chain member arrive and are merged in ascending global index. -/
def execAllRsp (p : PortId) (h : StitchHdr) (last : Bool) (count : BitVec 24) (ms : List Match) (s : State) : Out :=
  fin s (s.take (.allRsp p h last count ms))

/-- TUCK_CONTINUE (spec 12 R297): A CONTINUE from the upper device is answered by an ARMED lower device with its top
entry, or with ABORT. -/
def execTuckContinue (p : PortId) (h : StitchHdr) (s : State) : Out := fin s (s.take (.tuckContinue p h))

/-- TUCK_ENTRY (spec 12 R297): The lower device's top entry arrives; the upper device writes it, sends ACK and returns
to IDLE. -/
def execTuckEntry (p : PortId) (h : StitchHdr) (part : Bool) (half : BitVec 256) (s : State) : Out :=
  fin s (s.take (.tuckEntry p h part half))

/-- TUCK_ACK (spec 12 R297): The ACK of a tuck crossing starts the lower device's 10 µs wait before RUN. -/
def execTuckAck (p : PortId) (h : StitchHdr) (s : State) : Out := fin s (s.take (.tuckAck p h))

/-- TUCK_ABORT_MSG (spec 12 R299): A TUCK ABORT message stops the tuck at the next copy boundary and returns the device
to IDLE. -/
def execTuckAbortMsg (p : PortId) (h : StitchHdr) (s : State) : Out := fin s (s.take (.tuckAbortMsg p h))

/-- STITCH_FRAME (spec 12 R286): A merge or announce frame arrives on STITCH_IN and is merged with the local result,
forwarded or answered. -/
def execStitchFrame (w : Word) (s : State) : Out := fin s (s.recvFrame w)

end Sys2Proof.Machine
end

