-- ==== Sys2Proof/Machine/PocketCmds.lean ====
section
/-! DEFINITION. The Pocket (spec 17). -/

namespace Sys2Proof.Machine

/-- POCKET_PERIODIC (spec 17 R383): A 15-minute RTC boundary makes a periodic record fall due. -/
def execPocketPeriodic (s : State) : Out := fin s (s.pocketPeriodic)

/-- SEAL_BREAK (spec 17 R389): Opening the Pocket's lid increments the seal count and a seal-break record falls due. -/
def execSealBreak (s : State) : Out := fin s (s.sealBreak)

/-- POCKET_RING (spec 17 R387): POCKET_DB.RING hands the nonce to the Pocket, or is dropped while PENDING. -/
def execPocketRing (path : Path) (s : State) : Out := fin s (s.command path (POCKET_DB_RING.addr) (1))

/-- POCKET_SIGN_DONE (spec 17 R384): The Pocket finishes signing a record and starts the next one due. -/
def execPocketSignDone (r : BitVec 256) (t : BitVec 256) (s : State) : Out := fin s (s.pocketSigned r t)

/-- POCKET_MIRROR_WRITE (spec 17 R385): Every 100 ms the Pocket writes the mirror page, and energy is attributed to
contexts. -/
def execPocketMirrorWrite (mwhA : Nat) (mwhB : Nat) (s : State) : Out := fin s (s.mirrorWrite mwhA mwhB)

/-- POCKET_ALIVE_TIMEOUT (spec 17 R386): The mirror page unwritten for 300 ms clears POCKET_STAT.ALIVE. -/
def execPocketAliveTimeout (s : State) : Out := fin s (s.aliveTimeout)

/-- POCKET_POWER_LOSS (spec 17 R381): Both feeds below 100 V make the Pocket log a power-loss entry from its own
storage. -/
def execPocketPowerLoss (s : State) : Out := fin s (s.pocketPowerLoss)

/-- POCKET_PULSE (spec 17 R388): Each 100 mWh of E_A + E_B emits a 20 ms pulse. -/
def execPocketPulse (s : State) : Out := fin s (s.pocketPulse)

/-- OPTICAL_PORT_READ (spec 17 R390): A verifier reads registers, log or certificate through the optical test port. -/
def execOpticalPortRead (what : OpticalItem) (s : State) : Out := fin s (s.opticalRead what)

/-- RTC_ADJUST (spec 17 R390): The Pocket's RTC is adjusted through the optical test port. -/
def execRtcAdjust (seconds : BitVec 64) (s : State) : Out := fin s (s.rtcAdjust seconds.toNat)

/-- POCKET_POWER_UP (spec 17 R389): The Pocket regains power from a feed above 100 V and signs any seal-break record
that fell due while it was unpowered. -/
def execPocketPowerUp (s : State) : Out := fin s (s.pocketPowerUp)

/-- XTAL_FAULT (spec 17 R382): The Pocket detects a fault of its 32.768 kHz crystal, logs an event entry and sets the
XTAL_FAULT flag. -/
def execXtalFault (s : State) : Out := fin s (s.xtalFault)

/-- OVERRANGE (spec 17 R378): A feed exceeds 450 V or 15 A at the Pocket's measuring point, the reading saturates, and
OVERRANGE is logged and flagged. -/
def execOverrange (_f : Feed) (s : State) : Out := fin s (s.overrange)

end Sys2Proof.Machine
end

