-- ==== Sys2Proof/Machine/PowerCmds.lean ====
section
/-! DEFINITION. Power, clocks, reset, start-up and firmware (spec 16, 18, 21 R440, 22). -/

namespace Sys2Proof.Machine

/-- PTM_EXCHANGE (spec 16 R368): A PTM exchange with the time root slews or steps CLK_TS. -/
def execPtmExchange (rootTs : BitVec 64) (s : State) : Out := fin s (s.ptmExchange rootTs)

/-- PPS (spec 16 R368): CLK_TS crosses a whole second and TS_PPS pulses high for 100 ns. -/
def execPps (s : State) : Out := fin s (s.pps)

/-- FEED_GOOD (spec 16 R356): A feed stays in range for 10 ms and is judged good. -/
def execFeedGood (f : Feed) (s : State) : Out := fin s (s.feedGood f)

/-- FEED_BAD (spec 16 R356): A feed is out of range for 20 µs, is judged bad and disconnected, and the load transfers or
hold-up begins. -/
def execFeedBad (f : Feed) (s : State) : Out := fin s (s.feedBad f)

/-- FEED_RETURN (spec 16 R358): Feed A good for RETURN_MS takes the load back from B. -/
def execFeedReturn (s : State) : Out := fin s (s.feedReturn)

/-- HOLDUP_END (spec 16 R359): Hold-up ends with no good feed and the dies lose power. -/
def execHoldupEnd (s : State) : Out := fin s (s.holdupEnd)

/-- PWR_CAP_STEP (spec 16 R361): Every 100 µs engine issue duty is lowered or raised against the power cap. -/
def execPwrCapStep (watts : BitVec 16) (s : State) : Out := fin s (s.capStep watts.toNat)

/-- PWR_PEAK (spec 16 R361): Input above 2.9 kW for 50 µs stops engine issue until it falls below 2.4 kW. -/
def execPwrPeak (watts : BitVec 16) (s : State) : Out := fin s (s.peakStep watts.toNat)

/-- THERM_STEP (spec 16 R362): Every 100 µs each die's throttle is stepped by its hottest sensor. -/
def execThermStep (die : BitVec 5) (tempC : BitVec 8) (s : State) : Out := fin s (s.thermStep die.toNat tempC.toNat)

/-- THERMAL_TRIP (spec 16 R363): A sensor at 105 °C for 1 ms trips the module and removes power from the dies. -/
def execThermalTrip (_die : BitVec 5) (s : State) : Out := fin s (s.thermalTrip)

/-- REFCLK_LOSS (spec 16 R367): REFCLK absent or out of tolerance for 1 µs drops links and holds the device in reset. -/
def execRefclkLoss (s : State) : Out := fin s (s.refclkLoss)

/-- REFCLK_RETURN (spec 16 R367): REFCLK stable for 10 ms starts a DEV_RESET with CAUSE 0x5. -/
def execRefclkReturn (s : State) : Out := fin s (s.refclkReturn)

/-- HBM_SR_ENTER (spec 16 R370): A stack idle for DWELL_MS enters self-refresh. -/
def execHbmSrEnter (k : DieId) (s : State) : Out := fin s (s.srEnter k.val)

/-- DEV_RESET (spec 16 R371): RST_CMD.GO with FLUSH = 0 performs a DEV_RESET within 1 µs. -/
def execDevReset (path : Path) (s : State) : Out := fin s (s.command path (RST_CMD_GO.addr) (2))

/-- FLUSH_RESET (spec 16 R373): RST_CMD.GO with FLUSH = 1 self-fences, waits for the flush and then resets. -/
def execFlushReset (path : Path) (s : State) : Out := fin s (s.command path (RST_CMD_GO.addr) (3))

/-- DEV_RESET_N (spec 22 R456): A low pulse of 1 µs or more on DEV_RESET_N starts a DEV_RESET. -/
def execDevResetN (lowNs : Nat) (s : State) : Out := fin s (s.devResetN lowNs)

/-- RESET_N_LONG_LOW (spec 16 R363): DEV_RESET_N held low 100 ms while tripped requests a POR. -/
def execResetNLongLow (s : State) : Out := fin s (s.resetNLongLow)

/-- POR (spec 16 R371): Power applied with no good feed before starts a power-on reset. -/
def execPor (s : State) : Out := fin s (s.por)

/-- BOOT_ROM_START (spec 18 R399): The boot ROM checks the attempt count, reverts if needed, verifies and starts the
active image. -/
def execBootRomStart (s : State) : Out := fin s (s.bootRomStart)

/-- HBM_TRAINING_DONE (spec 16 R375): HBM training of a stack ends and its page is enabled or left disabled. -/
def execHbmTrainingDone (k : DieId) (ok : Bool) (s : State) : Out := fin s (s.trainingDone k.val ok)

/-- CALIBRATION_DONE (spec 21 R443): SerDes calibration of a port die ends and failed lanes are recorded. -/
def execCalibrationDone (d : DieId) (failed : BitVec 128) (s : State) : Out := fin s (s.calibrationDone d.val failed.toNat)

/-- READY (spec 16 R375): Start-up step 8 ends and RST_STAT.READY becomes 1. -/
def execReady (s : State) : Out := fin s (s.becomeReady)

/-- BOOT_FAILURE (spec 18 R399): The firmware halts, causing a DEV_RESET. -/
def execBootFailure (s : State) : Out := fin s (s.bootFailed 4)

/-- READY_TIMEOUT (spec 18 R399): READY is not set within 8 s of step 3 and a DEV_RESET follows. -/
def execReadyTimeout (s : State) : Out := fin s (s.bootFailed 3)

/-- STAGE (spec 18 R396): FW_CTL.GO with OP = STAGE erases the inactive slot and writes an image into it. -/
def execStage (path : Path) (s : State) : Out :=
  fin s (s.command path (FW_CTL_GO.addr) (insBits (s.reg FW_CTL_GO.addr) 3 0 9))

/-- STAGE_DONE (spec 18 R396): Staging ends with the slot valid or invalid and RESULT set. -/
def execStageDone (code : BitVec 16) (svn : BitVec 7) (major : Byte) (minor : Byte) (s : State) : Out :=
  fin s (s.fwStageDone code.toNat svn.toNat major.toNat minor.toNat)

/-- ACTIVATE (spec 18 R397): FW_CTL.GO with OP = ACTIVATE sets NEXT to the inactive slot. -/
def execActivate (path : Path) (s : State) : Out :=
  fin s (s.command path (FW_CTL_GO.addr) (insBits (s.reg FW_CTL_GO.addr) 3 0 10))

/-- COMMIT_SVN (spec 18 R395): FW_CTL.GO with OP = COMMIT_SVN advances the anti-rollback fuse counter. -/
def execCommitSvn (path : Path) (s : State) : Out :=
  fin s (s.command path (FW_CTL_GO.addr) (insBits (s.reg FW_CTL_GO.addr) 3 0 11))

/-- SETTINGS_SAVE (spec 21 R434): DEV_SAVE.GO snapshots savable settings and writes them to the older copy. -/
def execSettingsSave (path : Path) (s : State) : Out :=
  fin s (s.command path (DEV_SAVE_GO.addr) (1 + 2 * s.rd DEV_SAVE_AUTO))

/-- SETTINGS_SAVE_DONE (spec 21 R434): A settings save ends, and a booked save starts. -/
def execSettingsSaveDone (ok : Bool) (s : State) : Out := fin s (s.settingsDone ok)

/-- DIE_LINK_LOSS (spec 21 R442): A die link stays inactive for 10 µs and its ports or cores and stack are lost. -/
def execDieLinkLoss (d : DieId) (compute : Bool) (s : State) : Out := fin s (s.dieLinkLoss d.val compute)

/-- PTM_UNLOCK (spec 16 R368): CLK_STAT.PTM_LOCK falls to 0 and CLK_TS runs free, setting PG_ERR.PTM_UNLOCK. -/
def execPtmUnlock (s : State) : Out := fin s (s.ptmUnlock)

/-- DEV_RESET_N_RELEASE (spec 22 R456): DEV_RESET_N returns high and start-up, held at the beginning of step 3,
continues. -/
def execDevResetNRelease (s : State) : Out := fin s (s.devResetNRelease)

end Sys2Proof.Machine
end

