-- ==== Sys2Proof/Machine/Registers.lean ====
section
/-! DEFINITION. Register-window messages, pages, registers and table windows (spec 20, 21 R435 to R437). -/

namespace Sys2Proof.Machine

/-- REG_WINDOW_READ (spec 21 R436): A register-window READ datagram reads COUNT registers consecutively and is answered
with READ_RSP. -/
def execRegWindowRead (g : Datagram) (s : State) : Out := fin s (s.datagram g)

/-- REG_WINDOW_WRITE (spec 21 R436): A register-window WRITE datagram writes COUNT registers consecutively and is
answered with WRITE_RSP. -/
def execRegWindowWrite (g : Datagram) (s : State) : Out := fin s (s.datagram g)

/-- NET_CONFIG_APPLY (spec 21 R435): A written IPv4 or UDP setting takes effect 1 ms after it was applied. -/
def execNetConfigApply (s : State) : Out := fin s (s.netApply)

/-- PAGE_ENABLE (spec 20 R421): A write of PG_CTL.ENABLE = 1 to a disabled page starts its consistency check. -/
def execPageEnable (path : Path) (g : Page) (s : State) : Out :=
  fin s (s.command path (PG_CTL_ENABLE.at g) (insBits (s.ctlNow g) 0 0 1))

/-- ENABLE_CHECK_DONE (spec 20 R421): A consistency check ends, enabling the block or refusing with one reason, and held
writes apply. -/
def execEnableCheckDone (g : Page) (selfTestOk : Bool) (s : State) : Out := fin s (s.enableDone g selfTestOk)

/-- PAGE_DISABLE (spec 01 R20): A write of PG_CTL.ENABLE = 0 quiesces and disables dependent blocks, then the block. -/
def execPageDisable (path : Path) (g : Page) (s : State) : Out :=
  fin s (s.command path (PG_CTL_ENABLE.at g) (insBits (s.ctlNow g) 0 0 0))

/-- PAGE_QUIESCE (spec 20 R419): A write of PG_CTL.QUIESCE = 1 makes the block hold new work and finish admitted work.
-/
def execPageQuiesce (path : Path) (g : Page) (s : State) : Out :=
  fin s (s.command path (PG_CTL_ENABLE.at g) (insBits (s.ctlNow g) 1 1 1))

/-- PAGE_QUIESCE_RELEASE (spec 20 R419): Clearing PG_CTL.QUIESCE releases held work in arrival order. -/
def execPageQuiesceRelease (path : Path) (g : Page) (s : State) : Out :=
  fin s (s.command path (PG_CTL_ENABLE.at g) (insBits (s.ctlNow g) 1 1 0))

/-- BLOCK_QUIESCED (spec 20 R419): The last admitted work of a quiescing block ends and PG_STAT.QUIESCED becomes 1. -/
def execBlockQuiesced (g : Page) (s : State) : Out := fin s (s.blockQuiesced g)

/-- PAGE_SOFT_RESET (spec 16 R372): A write of PG_CTL.SOFT_RESET = 1 disables the block and its dependants and starts
its soft reset. -/
def execPageSoftReset (path : Path) (g : Page) (s : State) : Out :=
  fin s (s.command path (PG_CTL_ENABLE.at g) (if g.blk = .port then insBits (s.ctlNow g) 2 2 1 else insBits (insBits (s.ctlNow g) 0 0 0) 2 2 1))

/-- SOFT_RESET_DONE (spec 16 R372): A block soft reset ends, SOFT_RESET reads 0 and held writes apply. -/
def execSoftResetDone (g : Page) (s : State) : Out := fin s (s.resetDone g)

/-- PAGE_LOCK (spec 20 R423): A write of PG_CTL.LOCK = 1 freezes the page until the next DEV_RESET. -/
def execPageLock (path : Path) (g : Page) (s : State) : Out :=
  fin s (s.command path (PG_CTL_ENABLE.at g) (insBits (s.ctlNow g) 31 31 1))

/-- PG_ERR_INJ (spec 20 R424): A write to PG_ERR_INJ sets PG_ERR bits as a real occurrence would. -/
def execPgErrInj (path : Path) (g : Page) (v : Word) (s : State) : Out :=
  fin s (s.command path (PG_ERR_INJ_INJ.at g) (v.toNat))

/-- REGISTER_WRITE (spec 00 R7): A write to a register with no row of its own sets, refuses or ignores its fields under
range, lock and type rules. -/
def execRegisterWrite (path : Path) (addr : BitVec 26) (v : Word) (be : BitVec 4) (s : State) : Out :=
  fin s (if s.mgmtUp then (s.writeBe { path := path } addr.toNat v.toNat be).1 else s)

/-- LO_READ_LATCH (spec 20 R417): A read of the _LO half of a read-only 64-bit pair latches the _HI half. -/
def execLoReadLatch (path : Path) (addr : BitVec 26) (s : State) : Out := fin s (s.readCmd path addr.toNat)

/-- TABLE_WINDOW_READ (spec 20 R429): A read of dword 0 of a table-window entry captures the entry for later dword
reads. -/
def execTableWindowRead (path : Path) (addr : BitVec 26) (s : State) : Out := fin s (s.readCmd path addr.toNat)

/-- TABLE_WINDOW_WRITE (spec 20 R430): A write to a table-window dword stages it, and the highest dword applies and
checks the whole entry. -/
def execTableWindowWrite (path : Path) (addr : BitVec 26) (v : Word) (s : State) : Out :=
  fin s (s.command path (addr.toNat) (v.toNat))

/-- HBM_INJ_CE (spec 21 R440): HBM_INJ.CE stores the next write with one symbol in error. -/
def execHbmInjCe (path : Path) (k : DieId) (s : State) : Out := fin s (s.command path (HBM_INJ_CE.addr k.val) (1))

/-- HBM_INJ_UE (spec 21 R440): HBM_INJ.UE stores the next write with two symbols in error. -/
def execHbmInjUe (path : Path) (k : DieId) (s : State) : Out := fin s (s.command path (HBM_INJ_UE.addr k.val) (2))

/-- PMON_FREEZE (spec 19 R407): PMON_CTL.FREEZE = 1 stops all counters at one edge. -/
def execPmonFreeze (path : Path) (s : State) : Out :=
  fin s (s.command path (PMON_CTL_FREEZE.addr) (insBits (s.reg PMON_CTL_FREEZE.addr) 0 0 1))

/-- PMON_UNFREEZE (spec 19 R407): Clearing PMON_CTL.FREEZE restarts all counters at one edge. -/
def execPmonUnfreeze (path : Path) (s : State) : Out :=
  fin s (s.command path (PMON_CTL_FREEZE.addr) (insBits (s.reg PMON_CTL_FREEZE.addr) 0 0 0))

/-- CLEAR_ALL (spec 19 R403): PMON_CTL.CLEAR_ALL zeroes all counters and PMON_OVF. -/
def execClearAll (path : Path) (s : State) : Out :=
  fin s (s.command path (PMON_CTL_CLEAR_ALL.addr) (insBits (s.reg PMON_CTL_FREEZE.addr) 2 2 1))

/-- COUNTER_LOAD (spec 19 R404): A write of PMON_CNT_HI loads the staged 48-bit counter value. -/
def execCounterLoad (path : Path) (n : BitVec 8) (hi : BitVec 16) (s : State) : Out :=
  fin s (s.command path (PMON_CNT_HI_COUNT.ref.at ⟨.pmon, 0⟩ n.toNat) (hi.toNat))

/-- SMP_ENABLE (spec 19 R408): Setting PMON_SMP_CTL.EN loads the LFSR from the seed and starts sampling. -/
def execSmpEnable (path : Path) (s : State) : Out :=
  fin s (s.command path (PMON_SMP_CTL_EN.addr) (insBits (s.reg PMON_SMP_CTL_EN.addr) 0 0 1))

/-- NET_LINK_CHANGE (spec 02 R53): The 25GBASE-R management Ethernet link comes up or goes down, changing
DEV_NET_STAT.LINK_UP. -/
def execNetLinkChange (up : Bool) (s : State) : Out := fin s (s.netLink up)

end Sys2Proof.Machine
end

