-- ==== Sys2Proof/Machine/TierCmds.lean ====
section
/-! DEFINITION. Tiers and prefetch (spec 06). -/

namespace Sys2Proof.Machine

/-- TIER_WINDOW_END (spec 06 R131): A 10 ms promotion window ends and pages with enough reads are promoted to T1. -/
def execTierWindowEnd (s : State) : Out := fin s (s.windowEnd)

/-- TIER_MOVE_DONE (spec 06 R132): The last line of a move is copied and the page's placement switches. -/
def execTierMoveDone (page : BitVec 32) (s : State) : Out := fin s (s.moveDone page.toNat)

/-- WB_TIMER (spec 06 R133): A T1 unit dirty for WB_MS is written back, or retried while its port is down. -/
def execWbTimer (unit : BitVec 36) (s : State) : Out := fin s (s.startWb unit.toNat)

/-- WRITEBACK_DONE (spec 06 R133): A write-back of a dirty unit completes and the unit becomes clean. -/
def execWritebackDone (unit : BitVec 36) (s : State) : Out := fin s (s.wbDone unit.toNat)

/-- COLD_TIMER (spec 06 R138): A T2 page idle for COLD_S seconds starts packing into T3. -/
def execColdTimer (page : BitVec 32) (s : State) : Out := fin s (s.startPack page.toNat)

/-- PACK_DONE (spec 06 R138): Packing ends, the page enters T3 and its 64 KiB frame is freed. -/
def execPackDone (page : BitVec 32) (s : State) : Out := fin s (s.packDone page.toNat)

/-- T4_TIMER (spec 06 R139): A T3 page idle for 8 × COLD_S seconds starts copying into the T4 window. -/
def execT4Timer (page : BitVec 32) (s : State) : Out := fin s (s.startT4 page.toNat)

/-- T4_COPY_DONE (spec 06 R139): The T4 DMA of a page completes and its entry becomes T4. -/
def execT4CopyDone (page : BitVec 32) (s : State) : Out := fin s (s.t4Done page.toNat)

/-- EXPAND_DONE (spec 06 R140): A T3 or T4 page is expanded into T2 or T1 and serves its waiting accesses. -/
def execExpandDone (page : BitVec 32) (s : State) : Out := fin s (s.expandDone page.toNat)

/-- PREF_REGISTER (spec 06 R142): CTX_PREF_CMD.GO with OP = REGISTER registers a prefetch schedule or refuses it. -/
def execPrefRegister (path : Path) (c : CtxId) (sched : BitVec 6) (s : State) : Out :=
  fin s (s.command path (CTX_PREF_CMD_GO.addr c.val) (sched.toNat + 0x140))

/-- PREF_UNREGISTER (spec 06 R155): CTX_PREF_CMD.GO with OP = UNREGISTER stops a schedule and ends its pins. -/
def execPrefUnregister (path : Path) (c : CtxId) (sched : BitVec 6) (s : State) : Out :=
  fin s (s.command path (CTX_PREF_CMD_GO.addr c.val) (sched.toNat + 0x180))

/-- STEP_SET (spec 06 R143): A CTX_STEP write with SET = 1 moves a schedule's clock to STEP and issues staging. -/
def execStepSet (path : Path) (c : CtxId) (sched : BitVec 6) (step : BitVec 12) (s : State) : Out :=
  fin s (s.command path (CTX_STEP_SET.addr c.val) (sched.toNat + 0x40 + 0x80 * step.toNat))

/-- STEP_ADVANCE (spec 06 R143): A CTX_STEP write with SET = 0 advances a schedule's clock by one and issues staging. -/
def execStepAdvance (path : Path) (c : CtxId) (sched : BitVec 6) (s : State) : Out :=
  fin s (s.command path (CTX_STEP_SET.addr c.val) (sched.toNat))

/-- PREF_DEADLINE (spec 06 R146): A step's deadline passes and late pages take the fallback path. -/
def execPrefDeadline (c : CtxId) (sched : BitVec 6) (s : State) : Out := fin s (s.deadline (schedKey c.val sched.toNat))

/-- PREF_STAGE_DONE (spec 06 R145): A staged page arrives in T1 and is pinned, and waiting accesses proceed. -/
def execPrefStageDone (c : CtxId) (sched : BitVec 6) (page : BitVec 32) (s : State) : Out :=
  fin s (s.stageDone (schedKey c.val sched.toNat) page.toNat)

/-- TIER_REBUILD (spec 06 R152): TIER_REBUILD.GO starts the rebuild of one extent or is refused while busy. -/
def execTierRebuild (path : Path) (extent : BitVec 18) (s : State) : Out :=
  fin s (s.command path (TIER_REBUILD_EXTENT.addr) (extent.toNat + 0x40000))

/-- REBUILD_DONE (spec 06 R152): A rebuild ends and TIER_REBUILD_STAT.BUSY clears. -/
def execRebuildDone (s : State) : Out := fin s (s.rebuildDone)

/-- HBM_STACK_FAIL (spec 06 R153): An HBM stack fails and the tier manager and directory recover from the loss. -/
def execHbmStackFail (k : DieId) (s : State) : Out := fin s (s.stackFail k.val)

/-- SMAP_INIT_DONE (spec 07 R160): The size-map entries of a newly valid CMPR extent are written and accesses to it
proceed. -/
def execSmapInitDone (extent : BitVec 18) (s : State) : Out := fin s (s.smapDone extent.toNat)

end Sys2Proof.Machine
end

