-- ==== Sys2Proof/Machine/Dispatch.lean ====
section
/-! DEFINITION. Dispatch: every command to its meaning. -/

namespace Sys2Proof.Machine

/-- The effect of a command on everything but the queue. -/
def exec (i : Instr) (s : State) : Host.Outcome State Fault Refusal :=
  match i with
  | .linkUp p width rate partnerYd reversed => Sys2Proof.Machine.execLinkUp p width rate partnerYd reversed s
  | .linkDown p => Sys2Proof.Machine.execLinkDown p s
  | .ydFallback p => Sys2Proof.Machine.execYdFallback p s
  | .l1Exit p => Sys2Proof.Machine.execL1Exit p s
  | .hotReset p => Sys2Proof.Machine.execHotReset p s
  | .ydFlitRx p flit macOk => Sys2Proof.Machine.execYdFlitRx p flit macOk s
  | .ydNakRx p ack => Sys2Proof.Machine.execYdNakRx p ack s
  | .credit p cls n => Sys2Proof.Machine.execCredit p cls n s
  | .init p feid dev incarn => Sys2Proof.Machine.execInit p feid dev incarn s
  | .hb p src incarn ndev => Sys2Proof.Machine.execHb p src incarn ndev s
  | .hbSend => Sys2Proof.Machine.execHbSend s
  | .rd p h => Sys2Proof.Machine.execRd p h s
  | .wr p h d => Sys2Proof.Machine.execWr p h d s
  | .wrMask p h mask d => Sys2Proof.Machine.execWrMask p h mask d s
  | .rspData p h d => Sys2Proof.Machine.execRspData p h d s
  | .rsp p h => Sys2Proof.Machine.execRsp p h s
  | .atom p h slots => Sys2Proof.Machine.execAtom p h slots s
  | .atomRsp p h slots => Sys2Proof.Machine.execAtomRsp p h slots s
  | .atomAck p h => Sys2Proof.Machine.execAtomAck p h s
  | .publish p h slots => Sys2Proof.Machine.execPublish p h slots s
  | .openReq p h slots => Sys2Proof.Machine.execOpenReq p h slots s
  | .close p h slots => Sys2Proof.Machine.execClose p h slots s
  | .replReq p h slots => Sys2Proof.Machine.execReplReq p h slots s
  | .replInv p h slots => Sys2Proof.Machine.execReplInv p h slots s
  | .rgnInv p h slots => Sys2Proof.Machine.execRgnInv p h slots s
  | .pubRsp p h slots => Sys2Proof.Machine.execPubRsp p h slots s
  | .trigger via p h d whole => Sys2Proof.Machine.execTrigger via p h d whole s
  | .coll p h slots => Sys2Proof.Machine.execColl p h slots s
  | .collRes p h slots => Sys2Proof.Machine.execCollRes p h slots s
  | .ydFence p src => Sys2Proof.Machine.execYdFence p src s
  | .suspect p m => Sys2Proof.Machine.execSuspect p m s
  | .withdraw p m => Sys2Proof.Machine.execWithdraw p m s
  | .verdict p m => Sys2Proof.Machine.execVerdict p m s
  | .rejoin p m => Sys2Proof.Machine.execRejoin p m s
  | .rejoinAck p m => Sys2Proof.Machine.execRejoinAck p m s
  | .fenceEntry p m => Sys2Proof.Machine.execFenceEntry p m s
  | .give p m => Sys2Proof.Machine.execGive p m s
  | .take p m => Sys2Proof.Machine.execTake p m s
  | .handoffCommit p m => Sys2Proof.Machine.execHandoffCommit p m s
  | .commitAck p m => Sys2Proof.Machine.execCommitAck p m s
  | .stitchKey p h all key => Sys2Proof.Machine.execStitchKey p h all key s
  | .bestRsp p h hit m falseHits => Sys2Proof.Machine.execBestRsp p h hit m falseHits s
  | .allRsp p h last count ms => Sys2Proof.Machine.execAllRsp p h last count ms s
  | .tuckContinue p h => Sys2Proof.Machine.execTuckContinue p h s
  | .tuckEntry p h part half => Sys2Proof.Machine.execTuckEntry p h part half s
  | .tuckAck p h => Sys2Proof.Machine.execTuckAck p h s
  | .tuckAbortMsg p h => Sys2Proof.Machine.execTuckAbortMsg p h s
  | .stitchFrame w => Sys2Proof.Machine.execStitchFrame w s
  | .memRd p tag addr own dpid => Sys2Proof.Machine.execMemRd p tag addr own s dpid
  | .memInv p tag addr dpid => Sys2Proof.Machine.execMemInv p tag addr s dpid
  | .memWr p tag addr d mask poison wb dpid => Sys2Proof.Machine.execMemWr p tag addr d mask poison wb s dpid
  | .birsp p addr shared => Sys2Proof.Machine.execBirsp p addr shared s
  | .biconflict p tag addr => Sys2Proof.Machine.execBiconflict p tag addr s
  | .cxlIoMemWr p addr dws poison dpid => Sys2Proof.Machine.execCxlIoMemWr p addr dws poison s dpid
  | .cxlIoMemRd p tag addr len dpid => Sys2Proof.Machine.execCxlIoMemRd p tag addr len s dpid
  | .atomicOp p tag addr op size operand swapv dpid => Sys2Proof.Machine.execAtomicOp p tag addr op size operand swapv s dpid
  | .cfgRd p tag reg => Sys2Proof.Machine.execCfgRd p tag reg s
  | .trayCpl id r => Sys2Proof.Machine.execTrayCpl id r s
  | .trayTimeout id => Sys2Proof.Machine.execTrayTimeout id s
  | .hostCpl p tag ok data dpid => Sys2Proof.Machine.execHostCpl p tag ok data s dpid
  | .cplTimeout p => Sys2Proof.Machine.execCplTimeout p s
  | .ptmExchange rootTs => Sys2Proof.Machine.execPtmExchange rootTs s
  | .pps => Sys2Proof.Machine.execPps s
  | .regWindowRead g => Sys2Proof.Machine.execRegWindowRead g s
  | .regWindowWrite g => Sys2Proof.Machine.execRegWindowWrite g s
  | .netConfigApply => Sys2Proof.Machine.execNetConfigApply s
  | .identify q => Sys2Proof.Machine.execIdentify q s
  | .backgroundOperationStatus q => Sys2Proof.Machine.execBackgroundOperationStatus q s
  | .getResponseMessageLimit q => Sys2Proof.Machine.execGetResponseMessageLimit q s
  | .setResponseMessageLimit q limit => Sys2Proof.Machine.execSetResponseMessageLimit q limit s
  | .getEventRecords q => Sys2Proof.Machine.execGetEventRecords q s
  | .clearEventRecords q all n => Sys2Proof.Machine.execClearEventRecords q all n s
  | .getEventInterruptPolicy q => Sys2Proof.Machine.execGetEventInterruptPolicy q s
  | .setEventInterruptPolicy q v => Sys2Proof.Machine.execSetEventInterruptPolicy q v s
  | .getSupportedLogs q => Sys2Proof.Machine.execGetSupportedLogs q s
  | .getLog q logId => Sys2Proof.Machine.execGetLog q logId s
  | .identifySwitchDevice q => Sys2Proof.Machine.execIdentifySwitchDevice q s
  | .getPhysicalPortState q p => Sys2Proof.Machine.execGetPhysicalPortState q p s
  | .physicalPortControl q p op => Sys2Proof.Machine.execPhysicalPortControl q p op s
  | .sendPpbCxlIoConfigRequest q p reg write v => Sys2Proof.Machine.execSendPpbCxlIoConfigRequest q p reg write v s
  | .getVirtualCxlSwitchInfo q vcs => Sys2Proof.Machine.execGetVirtualCxlSwitchInfo q vcs s
  | .bindVppb q vcs vppb p => Sys2Proof.Machine.execBindVppb q vcs vppb p s
  | .unbindVppb q vcs vppb => Sys2Proof.Machine.execUnbindVppb q vcs vppb s
  | .generateAerEvent q vcs vppb err => Sys2Proof.Machine.execGenerateAerEvent q vcs vppb err s
  | .tunnelManagementCommand q p payload => Sys2Proof.Machine.execTunnelManagementCommand q p payload s
  | .getDcdInfo q => Sys2Proof.Machine.execGetDcdInfo q s
  | .getHostDcRegionConfiguration q p => Sys2Proof.Machine.execGetHostDcRegionConfiguration q p s
  | .setDcRegionConfiguration q p entries => Sys2Proof.Machine.execSetDcRegionConfiguration q p entries s
  | .getDcRegionExtentLists q p => Sys2Proof.Machine.execGetDcRegionExtentLists q p s
  | .initiateDynamicCapacityAdd q p extents => Sys2Proof.Machine.execInitiateDynamicCapacityAdd q p extents s
  | .initiateDynamicCapacityRelease q p extents => Sys2Proof.Machine.execInitiateDynamicCapacityRelease q p extents s
  | .fmapiUnsupported q opcode => Sys2Proof.Machine.execFmapiUnsupported q opcode s
  | .backgroundOperationDone => Sys2Proof.Machine.execBackgroundOperationDone s
  | .getVersion r => Sys2Proof.Machine.execGetVersion r s
  | .getCapabilities r => Sys2Proof.Machine.execGetCapabilities r s
  | .negotiateAlgorithms r => Sys2Proof.Machine.execNegotiateAlgorithms r s
  | .getDigests r => Sys2Proof.Machine.execGetDigests r s
  | .getCertificate r slot => Sys2Proof.Machine.execGetCertificate r slot s
  | .challenge r slot => Sys2Proof.Machine.execChallenge r slot s
  | .getMeasurements r index => Sys2Proof.Machine.execGetMeasurements r index s
  | .keyExchange r => Sys2Proof.Machine.execKeyExchange r s
  | .finish r ok => Sys2Proof.Machine.execFinish r ok s
  | .heartbeat r => Sys2Proof.Machine.execHeartbeat r s
  | .keyUpdate r => Sys2Proof.Machine.execKeyUpdate r s
  | .endSession r => Sys2Proof.Machine.execEndSession r s
  | .vendorDefinedRequest r p k => Sys2Proof.Machine.execVendorDefinedRequest r p k s
  | .spdmUnsupported r code => Sys2Proof.Machine.execSpdmUnsupported r code s
  | .signedBatch path b => Sys2Proof.Machine.execSignedBatch path b s
  | .pageEnable path g => Sys2Proof.Machine.execPageEnable path g s
  | .enableCheckDone g selfTestOk => Sys2Proof.Machine.execEnableCheckDone g selfTestOk s
  | .pageDisable path g => Sys2Proof.Machine.execPageDisable path g s
  | .pageQuiesce path g => Sys2Proof.Machine.execPageQuiesce path g s
  | .pageQuiesceRelease path g => Sys2Proof.Machine.execPageQuiesceRelease path g s
  | .blockQuiesced g => Sys2Proof.Machine.execBlockQuiesced g s
  | .pageSoftReset path g => Sys2Proof.Machine.execPageSoftReset path g s
  | .softResetDone g => Sys2Proof.Machine.execSoftResetDone g s
  | .pageLock path g => Sys2Proof.Machine.execPageLock path g s
  | .pgErrInj path g v => Sys2Proof.Machine.execPgErrInj path g v s
  | .registerWrite path addr v be => Sys2Proof.Machine.execRegisterWrite path addr v be s
  | .loReadLatch path addr => Sys2Proof.Machine.execLoReadLatch path addr s
  | .tableWindowRead path addr => Sys2Proof.Machine.execTableWindowRead path addr s
  | .tableWindowWrite path addr v => Sys2Proof.Machine.execTableWindowWrite path addr v s
  | .mapCommit path => Sys2Proof.Machine.execMapCommit path s
  | .commitCheckDone => Sys2Proof.Machine.execCommitCheckDone s
  | .dcdRelease p extent => Sys2Proof.Machine.execDcdRelease p extent s
  | .pendingReloadDone => Sys2Proof.Machine.execPendingReloadDone s
  | .mapXfer path extent slice => Sys2Proof.Machine.execMapXfer path extent slice s
  | .epochRetire => Sys2Proof.Machine.execEpochRetire s
  | .drainExpiry => Sys2Proof.Machine.execDrainExpiry s
  | .giveReady extent => Sys2Proof.Machine.execGiveReady extent s
  | .summaryStored extent => Sys2Proof.Machine.execSummaryStored extent s
  | .handoffRetransmit extent => Sys2Proof.Machine.execHandoffRetransmit extent s
  | .handoffLimit extent => Sys2Proof.Machine.execHandoffLimit extent s
  | .memReadDone id => Sys2Proof.Machine.execMemReadDone id s
  | .snoopTimeout p addr => Sys2Proof.Machine.execSnoopTimeout p addr s
  | .dirMirrorRebuilt => Sys2Proof.Machine.execDirMirrorRebuilt s
  | .replWindowEnd => Sys2Proof.Machine.execReplWindowEnd s
  | .replFillDone page => Sys2Proof.Machine.execReplFillDone page s
  | .replInvRetransmit page => Sys2Proof.Machine.execReplInvRetransmit page s
  | .pubCreate path => Sys2Proof.Machine.execPubCreate path s
  | .pubDestroy path => Sys2Proof.Machine.execPubDestroy path s
  | .pubRingTail path tail => Sys2Proof.Machine.execPubRingTail path tail s
  | .rgnInvRetransmit region => Sys2Proof.Machine.execRgnInvRetransmit region s
  | .publishListRead src tag entries poison => Sys2Proof.Machine.execPublishListRead src tag entries poison s
  | .tierWindowEnd => Sys2Proof.Machine.execTierWindowEnd s
  | .tierMoveDone page => Sys2Proof.Machine.execTierMoveDone page s
  | .wbTimer unit => Sys2Proof.Machine.execWbTimer unit s
  | .writebackDone unit => Sys2Proof.Machine.execWritebackDone unit s
  | .coldTimer page => Sys2Proof.Machine.execColdTimer page s
  | .packDone page => Sys2Proof.Machine.execPackDone page s
  | .t4Timer page => Sys2Proof.Machine.execT4Timer page s
  | .t4CopyDone page => Sys2Proof.Machine.execT4CopyDone page s
  | .expandDone page => Sys2Proof.Machine.execExpandDone page s
  | .prefRegister path c sched => Sys2Proof.Machine.execPrefRegister path c sched s
  | .prefUnregister path c sched => Sys2Proof.Machine.execPrefUnregister path c sched s
  | .stepSet path c sched step => Sys2Proof.Machine.execStepSet path c sched step s
  | .stepAdvance path c sched => Sys2Proof.Machine.execStepAdvance path c sched s
  | .prefDeadline c sched => Sys2Proof.Machine.execPrefDeadline c sched s
  | .prefStageDone c sched page => Sys2Proof.Machine.execPrefStageDone c sched page s
  | .tierRebuild path extent => Sys2Proof.Machine.execTierRebuild path extent s
  | .rebuildDone => Sys2Proof.Machine.execRebuildDone s
  | .hbmStackFail k => Sys2Proof.Machine.execHbmStackFail k s
  | .smapInitDone extent => Sys2Proof.Machine.execSmapInitDone extent s
  | .coreDispatch c => Sys2Proof.Machine.execCoreDispatch c s
  | .descFetchDone c => Sys2Proof.Machine.execDescFetchDone c s
  | .gather c => Sys2Proof.Machine.execGather c s
  | .scatter c => Sys2Proof.Machine.execScatter c s
  | .copy c => Sys2Proof.Machine.execCopy c s
  | .filter c => Sys2Proof.Machine.execFilter c s
  | .score c => Sys2Proof.Machine.execScore c s
  | .topk c => Sys2Proof.Machine.execTopk c s
  | .attnPartial c => Sys2Proof.Machine.execAttnPartial c s
  | .merge c => Sys2Proof.Machine.execMerge c s
  | .reduceLocal c => Sys2Proof.Machine.execReduceLocal c s
  | .moeDispatch c => Sys2Proof.Machine.execMoeDispatch c s
  | .moeCombine c => Sys2Proof.Machine.execMoeCombine c s
  | .compress c => Sys2Proof.Machine.execCompress c s
  | .expand c => Sys2Proof.Machine.execExpand c s
  | .atomicBatch c => Sys2Proof.Machine.execAtomicBatch c s
  | .fence c => Sys2Proof.Machine.execFence c s
  | .signal c => Sys2Proof.Machine.execSignal c s
  | .wait c => Sys2Proof.Machine.execWait c s
  | .step c => Sys2Proof.Machine.execStep c s
  | .nop c => Sys2Proof.Machine.execNop c s
  | .descCommit c => Sys2Proof.Machine.execDescCommit c s
  | .waitRecheck x proc => Sys2Proof.Machine.execWaitRecheck x proc s
  | .waitLimit x proc => Sys2Proof.Machine.execWaitLimit x proc s
  | .remoteAccessTimeout c => Sys2Proof.Machine.execRemoteAccessTimeout c s
  | .completionRecord x proc => Sys2Proof.Machine.execCompletionRecord x proc s
  | .counterIncrement x proc => Sys2Proof.Machine.execCounterIncrement x proc s
  | .ctxPause path x pause => Sys2Proof.Machine.execCtxPause path x pause s
  | .preemptCheck c => Sys2Proof.Machine.execPreemptCheck c s
  | .preemptSaveDone c => Sys2Proof.Machine.execPreemptSaveDone c s
  | .restoreDone c => Sys2Proof.Machine.execRestoreDone c s
  | .coreFault c cause => Sys2Proof.Machine.execCoreFault c cause s
  | .coreWatchdog c => Sys2Proof.Machine.execCoreWatchdog c s
  | .replayStart c => Sys2Proof.Machine.execReplayStart c s
  | .coreInjArm path c cause => Sys2Proof.Machine.execCoreInjArm path c cause s
  | .pstateDwell c => Sys2Proof.Machine.execPstateDwell c s
  | .pstateExitDone c => Sys2Proof.Machine.execPstateExitDone c s
  | .collDefine path group => Sys2Proof.Machine.execCollDefine path group s
  | .collDelete path group => Sys2Proof.Machine.execCollDelete path group s
  | .collWindowWrite p group off d whole poison => Sys2Proof.Machine.execCollWindowWrite p group off d whole poison s
  | .collLimit group => Sys2Proof.Machine.execCollLimit group s
  | .tuckArm path => Sys2Proof.Machine.execTuckArm path s
  | .tuckResume path => Sys2Proof.Machine.execTuckResume path s
  | .tuckAbort path => Sys2Proof.Machine.execTuckAbort path s
  | .tuckCopy => Sys2Proof.Machine.execTuckCopy s
  | .tuckCrossWait => Sys2Proof.Machine.execTuckCrossWait s
  | .tuckRetransmit => Sys2Proof.Machine.execTuckRetransmit s
  | .stitchLapse slot => Sys2Proof.Machine.execStitchLapse slot s
  | .stitchSlotFree slot => Sys2Proof.Machine.execStitchSlotFree slot s
  | .filtScrub c entry => Sys2Proof.Machine.execFiltScrub c entry s
  | .filtSoftError c entry => Sys2Proof.Machine.execFiltSoftError c entry s
  | .egressSchedule p => Sys2Proof.Machine.execEgressSchedule p s
  | .keyLoad path k => Sys2Proof.Machine.execKeyLoad path k s
  | .retire path x => Sys2Proof.Machine.execRetire path x s
  | .ctxZeroise x => Sys2Proof.Machine.execCtxZeroise x s
  | .coolingEnd x => Sys2Proof.Machine.execCoolingEnd x s
  | .ctxReset path x => Sys2Proof.Machine.execCtxReset path x s
  | .secBatchGo path => Sys2Proof.Machine.execSecBatchGo path s
  | .secBatchReadDone ok b => Sys2Proof.Machine.execSecBatchReadDone ok b s
  | .hbIntervalEnd => Sys2Proof.Machine.execHbIntervalEnd s
  | .suspectResend feid => Sys2Proof.Machine.execSuspectResend feid s
  | .liveIdExpire kind m => Sys2Proof.Machine.execLiveIdExpire kind m s
  | .declare path isPort port feid => Sys2Proof.Machine.execDeclare path isPort port feid s
  | .forget path feid => Sys2Proof.Machine.execForget path feid s
  | .selfFence path => Sys2Proof.Machine.execSelfFence path s
  | .rejoinResend => Sys2Proof.Machine.execRejoinResend s
  | .flushDone => Sys2Proof.Machine.execFlushDone s
  | .progSnap path => Sys2Proof.Machine.execProgSnap path s
  | .progClear path => Sys2Proof.Machine.execProgClear path s
  | .feedGood f => Sys2Proof.Machine.execFeedGood f s
  | .feedBad f => Sys2Proof.Machine.execFeedBad f s
  | .feedReturn => Sys2Proof.Machine.execFeedReturn s
  | .holdupEnd => Sys2Proof.Machine.execHoldupEnd s
  | .pwrCapStep watts => Sys2Proof.Machine.execPwrCapStep watts s
  | .pwrPeak watts => Sys2Proof.Machine.execPwrPeak watts s
  | .thermStep die tempC => Sys2Proof.Machine.execThermStep die tempC s
  | .thermalTrip die => Sys2Proof.Machine.execThermalTrip die s
  | .refclkLoss => Sys2Proof.Machine.execRefclkLoss s
  | .refclkReturn => Sys2Proof.Machine.execRefclkReturn s
  | .hbmSrEnter k => Sys2Proof.Machine.execHbmSrEnter k s
  | .devReset path => Sys2Proof.Machine.execDevReset path s
  | .flushReset path => Sys2Proof.Machine.execFlushReset path s
  | .devResetN lowNs => Sys2Proof.Machine.execDevResetN lowNs s
  | .resetNLongLow => Sys2Proof.Machine.execResetNLongLow s
  | .por => Sys2Proof.Machine.execPor s
  | .bootRomStart => Sys2Proof.Machine.execBootRomStart s
  | .hbmTrainingDone k ok => Sys2Proof.Machine.execHbmTrainingDone k ok s
  | .calibrationDone d failed => Sys2Proof.Machine.execCalibrationDone d failed s
  | .ready => Sys2Proof.Machine.execReady s
  | .bootFailure => Sys2Proof.Machine.execBootFailure s
  | .readyTimeout => Sys2Proof.Machine.execReadyTimeout s
  | .stage path => Sys2Proof.Machine.execStage path s
  | .stageDone code svn major minor => Sys2Proof.Machine.execStageDone code svn major minor s
  | .activate path => Sys2Proof.Machine.execActivate path s
  | .commitSvn path => Sys2Proof.Machine.execCommitSvn path s
  | .settingsSave path => Sys2Proof.Machine.execSettingsSave path s
  | .settingsSaveDone ok => Sys2Proof.Machine.execSettingsSaveDone ok s
  | .dieLinkLoss d compute => Sys2Proof.Machine.execDieLinkLoss d compute s
  | .txCrc path p => Sys2Proof.Machine.execTxCrc path p s
  | .txByte path p => Sys2Proof.Machine.execTxByte path p s
  | .rxCrc path p => Sys2Proof.Machine.execRxCrc path p s
  | .hbmInjCe path k => Sys2Proof.Machine.execHbmInjCe path k s
  | .hbmInjUe path k => Sys2Proof.Machine.execHbmInjUe path k s
  | .pocketPeriodic => Sys2Proof.Machine.execPocketPeriodic s
  | .sealBreak => Sys2Proof.Machine.execSealBreak s
  | .pocketRing path => Sys2Proof.Machine.execPocketRing path s
  | .pocketSignDone r t => Sys2Proof.Machine.execPocketSignDone r t s
  | .pocketMirrorWrite mwhA mwhB => Sys2Proof.Machine.execPocketMirrorWrite mwhA mwhB s
  | .pocketAliveTimeout => Sys2Proof.Machine.execPocketAliveTimeout s
  | .pocketPowerLoss => Sys2Proof.Machine.execPocketPowerLoss s
  | .pocketPulse => Sys2Proof.Machine.execPocketPulse s
  | .opticalPortRead what => Sys2Proof.Machine.execOpticalPortRead what s
  | .rtcAdjust seconds => Sys2Proof.Machine.execRtcAdjust seconds s
  | .pmonFreeze path => Sys2Proof.Machine.execPmonFreeze path s
  | .pmonUnfreeze path => Sys2Proof.Machine.execPmonUnfreeze path s
  | .clearAll path => Sys2Proof.Machine.execClearAll path s
  | .counterLoad path n hi => Sys2Proof.Machine.execCounterLoad path n hi s
  | .smpEnable path => Sys2Proof.Machine.execSmpEnable path s
  | .l1Entry p => Sys2Proof.Machine.execL1Entry p s
  | .l0pWidthChange p width => Sys2Proof.Machine.execL0pWidthChange p width s
  | .netLinkChange up => Sys2Proof.Machine.execNetLinkChange up s
  | .ptmUnlock => Sys2Proof.Machine.execPtmUnlock s
  | .devResetNRelease => Sys2Proof.Machine.execDevResetNRelease s
  | .pocketPowerUp => Sys2Proof.Machine.execPocketPowerUp s
  | .xtalFault => Sys2Proof.Machine.execXtalFault s
  | .overrange f => Sys2Proof.Machine.execOverrange f s

end Sys2Proof.Machine
end

