-- ==== Sys2Proof/Machine/Step.lean ====
section
/-! DEFINITION. Step: the command at the front of the queue runs; an empty queue is an idle step (assumption log 1). -/

namespace Sys2Proof.Machine

/-- One step: the front command on the state with the queue's rest. -/
def step (s : State) : Host.Outcome State Fault Refusal :=
  match s.pending with
  | [] => .next s
  | c :: rest => exec c { s with pending := rest }

/-- A state with one more command at the front of its queue. -/
def State.enqueue (s : State) (c : Instr) : State := { s with pending := c :: s.pending }

/-- The command a table word spells at the front of the queue; unchanged where the word spells none. -/
def State.withFetchWord (s : State) (nbits w : Nat) : State :=
  match decodeTableWord nbits w with
  | none => s
  | some c => s.enqueue c

end Sys2Proof.Machine
end

