-- ==== Sys2Proof/Safety.lean ====
section
/-! DEFINITION. Safety: what counts as a safe state and a safe run, in the terms statements use. -/

namespace Sys2Proof.Machine

/-- Pool memory is in canonical form: addresses rising, no listed byte 0, in what the home serves and in what the trays hold. -/
def State.MemOk (s : State) : Prop := Memory.wf s.pool.cur.bytes = true ∧ Memory.wf s.pool.tray.bytes = true

/-- A port that holds no message back: none in its ingress buffer, none behind a FENCE, no credit withheld. -/
structure PortSt.Idle (x : PortSt) : Prop where
  held   : x.held = []
  fences : x.fences = []
  owed   : x.owed.any (fun n => n != 0) = false

/-- Nothing waits: no page that closes, no request held at a block, a port, a FENCE or a region, no home transaction, no handed-over
line without a directory entry, no group or schedule command that reads its image, no schedule, no tagged item, no withheld credit. In
such a state nothing but the command itself changes anything. -/
structure State.Quiet (s : State) : Prop where
  closing : s.closing = []
  blocked : s.home.blocked = []
  txns    : s.home.txns = []
  adopt   : s.home.adopt = []
  defines : s.home.defines = []
  regions : s.pub.regions = []
  prefOps : s.tier.prefOps = []
  scheds  : s.tier.scheds = []
  tagged  : s.pmon.tagged = []
  ports   : ∀ q ∈ s.ports, q.2.Idle

/-- An operator's register writes to a page take effect when they arrive: the management subsystem runs, the path is no tenant's,
the profile is not PROFILE_F, the page is not locked and neither checks itself nor resets (spec 14 R326, R330; 20 R422, R423). -/
def State.Takes (s : State) (path : Path) (g : Page) : Prop :=
  s.mgmtUp = true ∧ (∀ p, path ≠ .tenant p) ∧ s.profile ≠ profileF ∧ s.hrd (errPage g) PG_CTL_LOCK ≠ 1 ∧ s.holdsWrites g = false

/-- A command ends with the effect t: exec answers the next state in which the work that t lets go on has gone on, and t itself
where t leaves nothing waiting. -/
def Ends (c : Instr) (s t : State) : Prop :=
  exec c s = .next (s.finish t) ∧ (t.Quiet → t.MemOk → exec c s = .next t)

/-- Two states that agree in all work of the block: its ports and queues, maps, home, publications, reply cache, memory, tiers,
procedures, tables, groups, keys and liveness. What may differ are registers, counters, power, Pocket, flash, time and outputs. -/
abbrev State.SameWork (s t : State) : Prop :=
  t.qos = s.qos ∧ t.ports = s.ports ∧ t.map = s.map ∧ t.home = s.home ∧ t.pub = s.pub ∧ t.rc = s.rc ∧ t.pool = s.pool ∧
    t.tier = s.tier ∧ t.procs = s.procs ∧ t.filt = s.filt ∧ t.coll = s.coll ∧ t.sec = s.sec ∧ t.live = s.live ∧ t.closing = s.closing

/-- Two states whose registers agree but for those listed and PMON's page, where an event may be counted. -/
def State.SameRegsBut (s t : State) (l : List Nat) : Prop := ∀ b, b ∉ l → b / 0x1000 ≠ 0x13 → t.reg b = s.reg b

/-- A message comes in: its port's link carries it, its sender is neither fenced nor behind a FENCE, its port does not quiesce and its
ingress buffer holds nothing, the device and the port bar no tenant traffic, and nothing samples it (spec 02 R38, R466; 03 R70; 04 R89;
15 R341, R344, R346; 19 R408). -/
def State.Admits (s : State) (p : PortId) (c : Instr) : Prop :=
  ingressPort c = some p ∧ s.gate p.val c = .pass ∧ (∀ f, fenceSrc c = some f → s.feidFenced f = false ∧ s.fencing p.val f = false) ∧
    s.quiescing .port p.val = false ∧ s.backed p.val = false ∧ s.barred p.val = false ∧ s.flag PMON_SMP_CTL_EN = false

/-- The route of a port's address is a POOL entry that leads to pool address a (spec 03 R58). -/
def State.LeadsTo (s : State) (p : PortId) (addr a : Nat) : Prop :=
  ∃ e, s.map.cur.route p.val addr = some e ∧ rtAction e = .pool ∧ a = addr - rtBase e + rtOffset e

/-- Nothing but the request itself runs, the home takes a request of a port for pool address a at once, no port holds the line,
no replica of its page is with a peer, and its page is in T1 and has been written, where the line has no stored error (spec 04 R84, R87,
R98; 06 R131, R137).
The extent is neither CMPR nor sealed; speculation is off. -/
def State.ServesT1 (s : State) (p : PortId) (a : Nat) : Prop :=
  s.Quiet ∧ s.MemOk ∧ s.homeTakes s.epoch p.val (a / 2 ^ 30) = true ∧ s.dirAt (a / 64) = none ∧ s.fullSet (a / 64) = none ∧
    Tbl.get s.home.repl.peers (a / 4096) [] = [] ∧ Tbl.get s.home.repl.invWait (a / 4096) [] = [] ∧
    (Tbl.get? s.tier.t1 (pageNo a)).isSome = true ∧
    (s.paged (s.map.cur.extent (a / 2 ^ 30)) = true → (s.pageEnt (pageNo a)).tier ≠ .zero) ∧ Tbl.get? s.pool.ue (a / 64) = none ∧
    exCmpr (s.map.cur.extent (a / 2 ^ 30)) = false ∧ s.isSealed (a / 2 ^ 30) = false ∧ s.flag HOME_CTL_SPEC_EN = false

/-- A port's egress has gained one message. -/
def State.Sends (s t : State) (p : Nat) (m : Msg) : Prop := ∃ e : Queued, e.msg = m ∧ (t.port p).egress = (s.port p).egress ++ [e]

/-- What a memory request leaves unchanged: every port but the one it answers on, the map, keys, procedures, tables, groups,
liveness, power, Pocket, flash and management. -/
def State.OnlyMemory (s t : State) (p : Nat) : Prop :=
  (∀ q, q ≠ p → t.port q = s.port q) ∧ t.map = s.map ∧ t.sec = s.sec ∧ t.procs = s.procs ∧ t.filt = s.filt ∧ t.coll = s.coll ∧
    t.live = s.live ∧ t.pub = s.pub ∧ t.power = s.power ∧ t.pocket = s.pocket ∧ t.fw = s.fw ∧ t.mgmt = s.mgmt ∧ t.qos = s.qos ∧
    t.out = s.out ∧ t.closing = s.closing

/-- A run is safe when no step of it stops. -/
def SafeRun (n : Nat) (s : State) : Prop := ∃ t, Sys2Proof.core.run n s = .next t

end Sys2Proof.Machine
end

