-- ==== Sys2Proof/Certificates/Slice0/Obligations.lean ====
section
/-! DEFINITION. The statements for the provers, by chapter: each says for its commands the next state they answer, with what they leave
unchanged, under hypotheses on the state and the operands alone. `Ends` (Sys2Proof/Safety.lean) is the completion: exec answers the next
state that the effect leads to. -/

open Sys2Proof Sys2Proof.Machine

/-! ### The block as a whole -/

/-- The block's step: the command at the front of the queue runs on the state with the queue's rest; an empty queue is an idle step
(the model's choice, assumption log 1). No row of the table gives bits, so no word spells a command. -/
def Obligations.StepServesTheQueue : Prop := ∀ (s : State) (c : Instr),
  step { s with pending := c :: s.pending } = exec c s ∧ (s.pending = [] → step s = .next s) ∧
    ∀ n w, decodeTableWord n w = none ∧ s.withFetchWord n w = s

/-- Every command is taken in its turn and none stops the block: from any state, n steps answer a state whose queue is the old one
without its first n commands. -/
def Obligations.CommandsRunInOrder : Prop := ∀ (n : Nat) (s : State), ∃ t, core.run n s = .next t ∧ t.pending = s.pending.drop n

/-- The invariant of memory: every step keeps pool memory, as the home serves it and as the trays hold it, in its one canonical form.
-/
def Obligations.MemoryStaysCanonical : Prop := ∀ s t : State, s.MemOk → step s = .next t →
  t.MemOk ∧ Memory.canon t.pool.cur.bytes = t.pool.cur.bytes ∧ Memory.canon t.pool.tray.bytes = t.pool.tray.bytes

/-! ### Codecs (spec 02, 07) -/

/-- A byte list with one byte replaced. -/
def wrongAt (l : List Byte) (i : Nat) (b : Byte) : List Byte := l.set i b

/-- R37 to R39, R46, R48: the YD flit. A PAYLOAD flit of at most fifteen slots, as this device builds it, is received as it was sent:
FEC finds nothing to correct, the CRC fits, the flit does not read as stomped, and its slots are the slots sent, then EMPTY. Wherever
one byte of each of its two codes is wrong on the wire, FEC gives the 252 bytes that were sent. A header slot gives back its header,
opcode and length. -/
def Obligations.FlitsRoundTrip : Prop := ∀ (seq ack : BitVec 12) (slots : List Slot), slots.length ≤ 15 →
  let f := bytesOf 256 (payloadFlit seq ack slots).toNat
  fecDecode f = some (f.take 252, false) ∧ stomped f = false ∧ bytesOf 8 (crc64 (f.take 244)) = (f.drop 244).take 8 ∧
    flitSlots false (f.take 244) = slots ++ List.replicate (15 - slots.length) 0 ∧
    (∀ i j b d, i < 256 → j < 256 → (if i < 252 then i % 2 = 0 else i < 254) → (if j < 252 then j % 2 = 1 else 254 ≤ j) →
      (fecDecode (wrongAt (wrongAt f i b) j d)).map (·.1) = some (f.take 252)) ∧
    (∀ (opc : Byte) (n : Nat) (h : Hdr), n < 8 →
      let x := (hdrSlot opc n h).toNat
      slotHdr x = h ∧ bits x 7 0 = opc.toNat ∧ bits x 10 8 = n)

/-- R157, R162 to R168: coding loses nothing. Whatever encodings a compressor may use, expanding what it stores of a 256-byte block
gives the block, with neither size case met; it stores whole lines, as many as the size-map entry says, and none of a zero block. -/
def Obligations.CodingIsLossless : Prop := ∀ (e : EncSet) (block : Nat), block < 2 ^ 2048 → (∀ ty, e.mxp = some ty → ty = 5 ∨ ty = 6 ∨ ty = 7) →
  let c := aiskoCompress e block
  aiskoExpand c.1 (ofBytes c.2) = { block := block, overrun := false, underrun := false } ∧ c.2.length = 64 * c.1 ∧ c.1 ≤ 4 ∧
    (c.1 = 0 ↔ block = 0)

/-- R163: the size of a coded block. A stream of at most 192 bytes is stored in whole lines, as many as its bytes ÷ 64 rounded up,
zeros after it, which the expander ignores; a block none of whose codings is so short is RAW with entry 4, and a zero block is ZERO
with entry 0 and no lines. -/
def Obligations.CodedSize : Prop := ∀ (e : EncSet) (block : Nat), block < 2 ^ 2048 → (∀ ty, e.mxp = some ty → ty = 5 ∨ ty = 6 ∨ ty = 7) →
  let c := aiskoCompress e block
  (block = 0 → c = (0, [])) ∧
  (block ≠ 0 → (∀ l ∈ aiskoCandidates e block, 192 < l.length) → c = (4, bytesOf 256 block)) ∧
  (block ≠ 0 → (∃ l ∈ aiskoCandidates e block, l.length ≤ 192) → ∃ l ∈ aiskoCandidates e block, l.length ≤ 192 ∧
    c.1 = (l.length + 63) / 64 ∧ c.2 = l ++ List.replicate (64 * c.1 - l.length) 0 ∧
    ∀ z : List Byte, l.length + z.length = 64 * c.1 → aiskoExpand c.1 (ofBytes (l ++ z)) = aiskoExpand c.1 (ofBytes c.2))

/-- R47: a flit whose last four bytes read as the EDB marker is discarded and counted, whatever else it holds and however it would
fare under FEC or CRC: the port's expected sequence number, its queues and all work stay as they are. -/
def Obligations.StompedFlitsAreDropped : Prop := ∀ (s : State) (p : PortId) (flit : BitVec 2048) (ok : Bool),
  s.ydUp p.val = true → s.up p.val = true → (bytesOf 256 flit.toNat).drop 252 = [0xE7, 0xE7, 0xE7, 0xE7] →
  ∃ t, Ends (.ydFlitRx p flit ok) s t ∧ s.SameWork t ∧ t.out = s.out ∧ t.tally .port 0x07 p.val = s.tally .port 0x07 p.val + 1

/-- R280: a filter entry. It matches as the rule says, and with CARE all zero it matches every key. A window write of an image stores
KEY AND CARE in the CAM and the shadow, and the other bits as written; one with a reserved bit set is refused with PG_ERR and changes
no entry. -/
def Obligations.EntriesMatch : Prop := ∀ (s : State) (path : Path) (e img : Nat) (v : Word), e < 16384 → s.mgmtUp = true →
  (∀ p, path ≠ .tenant p) → s.profile ≠ profileF →
  let u := s.rd WIN_CAM_CORE_CORE
  Tbl.get? s.mgmt.staging (winKey { path := path } { no := 7, base := 0xA00000, n := 16384, size := 64, blk := .filt }) = some (e, img) →
  img < 2 ^ 512 → s.hrd ⟨.filt, u⟩ PG_CTL_LOCK ≠ 1 → s.inTuck (camAt u e) = false →
  let img' := insBits img 511 480 v.toNat
  let cmd := Instr.tableWindowWrite path (BitVec.ofNat 26 (0xA00000 + 64 * e + 60)) v
  (∀ x l, l < 2 ^ 160 → (camMatches x l = true ↔
    x.testBit 328 = true ∧ ∀ i < 160, x.testBit (160 + i) = true → x.testBit i = l.testBit i)) ∧
  (∀ x l, l < 2 ^ 160 → x.testBit 328 = true → bits x 319 160 = 0 → camMatches x l = true) ∧
  (bits img' 351 329 = 0 → bits img' 511 384 = 0 → ∃ t, Ends cmd s t ∧ t = { s with filt := t.filt, mgmt := t.mgmt } ∧
    (∀ i, (t.winEntry 7 e).testBit i = (img'.testBit i && (decide (160 ≤ i) || img'.testBit (160 + i)))) ∧
    Tbl.get t.filt.cam (camAt u e) 0 = t.winEntry 7 e ∧
    ∀ k, k ≠ camAt u e → t.camRead k = s.camRead k ∧ Tbl.get t.filt.cam k 0 = Tbl.get s.filt.cam k 0) ∧
  (bits img' 351 329 ≠ 0 ∨ bits img' 511 384 ≠ 0 → ∃ t, Ends cmd s t ∧ t.filt = s.filt ∧ t.pool = s.pool ∧ t.map = s.map ∧
    bit (t.pgErr ⟨.filt, u⟩) 2 = true ∧ t.rd WIN_STAT_CODE = rcFieldRange)

/-- R371, R415, R420: the module right after its power-on reset. The pages that cannot be disabled are enabled and no other; an
address that holds no register reads 0; no link is up, no context holds a key, no FEID is fenced; the map, the directory, the reply
cache, the procedures, the groups and the keys are gone; READY is 0; nothing waits; memory is in its canonical form. -/
def Obligations.ResetState : Prop :=
  (∀ g : Page, g.blk ≠ .win → g.inst < pageCount g.blk →
    (State.reset.hrd g PG_CTL_ENABLE = 1 ↔ g.blk ∈ [Block.dev, .clk, .pwr, .rst, .fw, .pocket, .sec, .cdie]) ∧
    (State.reset.hrd g PG_STAT_ENABLED = 1 ↔ g.blk ∈ [Block.dev, .clk, .pwr, .rst, .fw, .pocket, .sec, .cdie])) ∧
  (∀ a, regAt a = none → State.reset.reg a = 0) ∧
  (∀ p : PortId, State.reset.linked p.val = false) ∧ (∀ x : CtxId, State.reset.ctxState x.val = ctxFree) ∧
  (∀ f : Feid, State.reset.feidFenced f = false) ∧ State.reset.selfFenced = false ∧ State.reset.flag RST_STAT_READY = false ∧
  State.reset.map = {} ∧ State.reset.home.dir = [] ∧ State.reset.rc = [] ∧ State.reset.procs.procs = [] ∧ State.reset.coll = [] ∧
  State.reset.sec.slots = [] ∧ State.reset.pending = [] ∧ State.reset.Quiet ∧ State.reset.MemOk

/-! ### Pages and registers (spec 20; 21 R435 to R437, R440; 19 R403, R404, R407, R408) -/

/-- R20, R372, R419 to R421: a page's life, for a page that the map has. ENABLE = 1 on a disabled page starts its check; the check
enables the page, with PG_REASON 0, or leaves it disabled with PG_ERR bit 3 and the ground in PG_REASON. ENABLE = 0 on an idle page no
other depends on disables it, and it shows QUIESCED. QUIESCE is held and released; QUIESCED shows when no admitted work remains.
SOFT_RESET of a disabled page runs until it ends, with PG_ERR 0. Nothing runs on the block while this happens. -/
def Obligations.PagesOpenAndClose : Prop := ∀ (s : State) (path : Path) (g : Page), g.blk ≠ .win → g.inst < pageCount g.blk →
  s.closing = [] → s.coll = [] → s.procs.procs = [] → s.mgmt.held = [] → s.mgmt.heldEnt = [] → s.mgmt.msgs = [] →
  (s.Takes path g → s.enabled g.blk g.inst = false →
    ∃ t, Ends (.pageEnable path g) s t ∧ t = { s with regs := t.regs } ∧ t.checking g = true ∧ t.enabled g.blk g.inst = false) ∧
  (∀ ok, s.checking g = true → s.enableReason g ok = none →
    ∃ t, Ends (.enableCheckDone g ok) s t ∧ t.enabled g.blk g.inst = true ∧ t.hrd g PG_STAT_BUSY = 0 ∧ t.reg (PG_REASON_CODE.at g) = 0 ∧
      t = { s with regs := t.regs, pmon := t.pmon, ports := t.ports, procs := t.procs, filt := t.filt, live := t.live } ∧
      (g.blk ≠ .filt → t.filt = s.filt) ∧ t.procs.procs = [] ∧ (g.blk ≠ .core → t.procs = s.procs)) ∧
  (∀ ok off code, s.checking g = true → s.enableReason g ok = some (off, code) → off < 65536 → code < 65536 →
    ∃ t, Ends (.enableCheckDone g ok) s t ∧ t.enabled g.blk g.inst = false ∧ t.hrd g PG_STAT_BUSY = 0 ∧ t.hrd g PG_CTL_ENABLE = 0 ∧
      bit (t.pgErr g) 3 = true ∧ t.hrd g PG_REASON_CODE = code ∧ t.hrd g PG_REASON_OFFSET = off ∧
      t = { s with regs := t.regs, mgmt := t.mgmt }) ∧
  (s.Takes path g → alwaysOn g.blk = false → s.enabled g.blk g.inst = true → s.dependents g = [] → s.idle g = true →
    (g.blk = .port → s.linked g.inst = false) →
    ∃ t, Ends (.pageDisable path g) s t ∧ t = { s with regs := t.regs, ports := t.ports } ∧ t.hrd g PG_CTL_ENABLE = 0 ∧
      t.enabled g.blk g.inst = false ∧ t.hrd g PG_STAT_QUIESCED = 1) ∧
  (s.Takes path g → s.enabled g.blk g.inst = (s.hrd g PG_CTL_ENABLE == 1) →
    ∃ t, Ends (.pageQuiesce path g) s t ∧ t = { s with regs := t.regs } ∧ t.hrd g PG_CTL_QUIESCE = 1 ∧
      t.enabled g.blk g.inst = s.enabled g.blk g.inst) ∧
  (s.Takes path g → s.enabled g.blk g.inst = (s.hrd g PG_CTL_ENABLE == 1) → g.blk ≠ .port →
    ∃ t, Ends (.pageQuiesceRelease path g) s t ∧ t = { s with regs := t.regs } ∧ t.hrd g PG_CTL_QUIESCE = 0 ∧
      (s.hrd g PG_CTL_QUIESCE = 1 → s.enabled g.blk g.inst = true → ignoresQuiesce g.blk = false → t.hrd g PG_STAT_QUIESCED = 0)) ∧
  (s.hrd g PG_CTL_QUIESCE = 1 → ignoresQuiesce g.blk = false →
    (s.idle g = true → Ends (.blockQuiesced g) s (s.hset g PG_STAT_QUIESCED 1)) ∧ (s.idle g = false → Ends (.blockQuiesced g) s s)) ∧
  (s.Takes path g → s.enabled g.blk g.inst = false → g.blk ≠ .port → s.resetRefused g = false →
    ∃ t, Ends (.pageSoftReset path g) s t ∧ t = { s with regs := t.regs, mgmt := t.mgmt } ∧ t.resetting g = true ∧
      t.hrd g PG_STAT_BUSY = 1) ∧
  (s.resetting g = true → g.blk = .hbm ∨ g.blk = .home ∨ g.blk = .qos ∨ g.blk = .ctx →
    ∃ t, Ends (.softResetDone g) s t ∧ t = { s with regs := t.regs } ∧ t.resetting g = false ∧ t.hrd g PG_STAT_BUSY = 0 ∧ t.pgErr g = 0)

/-- R7, R330, R415, R416, R422 to R424: register writes. Of a register that only holds settings, each field follows its type: RW takes
the value, RWL takes it unless the page is enabled or busy, which sets LOCKED_WRITE where it would change it, W1C loses the bits
written 1, the others stay; no other register changes. A value out of range, a write without all byte enables and an address with no
register change nothing but a PG_ERR bit; a tenant's write outside its pages nothing but a count. LOCK = 1 freezes a page: a write to
a register without W1C fields sets LOCKED_WRITE and changes nothing else. PG_ERR_INJ sets the bits the page has. -/
def Obligations.RegistersFollowTheirTypes : Prop := ∀ (s : State) (path : Path) (addr : BitVec 26) (v : Word),
  (∀ g d b, s.Takes path g → winAt addr.toNat = none → regAt addr.toNat = some (g, d) → d.blk = some b →
    b = .home ∨ b = .cmpr ∨ b = .keys ∨ b = .qos ∨ b = .atom ∨ b = .repl → outOfRange d v.toNat = false →
    ∃ t, Ends (.registerWrite path addr v 15) s t ∧ t = { s with regs := t.regs, mgmt := t.mgmt } ∧
      (∀ a, a ≠ addr.toNat → a ≠ PG_ERR_ERR.at g → t.reg a = s.reg a) ∧
      (∀ f ∈ d.flds, bits (t.reg addr.toNat) f.hi f.lo =
        match f.ty with
        | .rw => bits v.toNat f.hi f.lo
        | .rwl => if s.rwlLocked g then bits (s.reg addr.toNat) f.hi f.lo else bits v.toNat f.hi f.lo
        | .w1c => bits (s.reg addr.toNat) f.hi f.lo - (bits (s.reg addr.toNat) f.hi f.lo &&& bits v.toNat f.hi f.lo)
        | _ => bits (s.reg addr.toNat) f.hi f.lo) ∧
      (∀ f ∈ d.flds, f.ty = .rwl → s.rwlLocked g = true → bits v.toNat f.hi f.lo ≠ bits (s.reg addr.toNat) f.hi f.lo →
        bit (t.pgErr g) 0 = true)) ∧
  (∀ g d, s.Takes path g → winAt addr.toNat = none → regAt addr.toNat = some (g, d) → s.writeWaits g d = false →
    outOfRange d v.toNat = true →
    Ends (.registerWrite path addr v 15) s (s.err (errPage g) 1)) ∧
  (∀ be, s.mgmtUp = true → be ≠ 15 → Ends (.registerWrite path addr v be) s (s.err ⟨.dev, 0⟩ 17)) ∧
  (s.mgmtUp = true → (∀ p, path ≠ .tenant p) → winAt addr.toNat = none → regAt addr.toNat = none →
    Ends (.registerWrite path addr v 15) s (s.err ⟨.dev, 0⟩ 16)) ∧
  (∀ p : PortId, s.mgmtUp = true → s.tenantReaches p.val addr.toNat = false →
    Ends (.registerWrite (.tenant p) addr v 15) s (s.countDenied p.val (some addr.toNat))) ∧
  (∀ g, s.Takes path g → g.blk ≠ .win → g.inst < pageCount g.blk → s.enabled g.blk g.inst = (s.hrd g PG_CTL_ENABLE == 1) →
    ∃ t, Ends (.pageLock path g) s t ∧ t = { s with regs := t.regs } ∧ t.hrd g PG_CTL_LOCK = 1 ∧
      ∀ a, a ≠ PG_CTL_LOCK.at g → t.reg a = s.reg a) ∧
  (∀ g d, s.mgmtUp = true → (∀ p, path ≠ .tenant p) → s.profile ≠ profileF → winAt addr.toNat = none → regAt addr.toNat = some (g, d) →
    s.hrd (errPage g) PG_CTL_LOCK = 1 → d.flds.any (fun f => f.ty == .w1c) = false → (d.blk.isNone = true → d.off ≠ 0x008) →
    ∃ t, Ends (.registerWrite path addr v 15) s t ∧ t = { s with regs := t.regs, mgmt := t.mgmt } ∧ bit (t.pgErr (errPage g)) 0 = true ∧
      ∀ a, a ≠ PG_ERR_ERR.at (errPage g) → t.reg a = s.reg a) ∧
  (∀ g, s.Takes path g → g.blk ≠ .win → g.inst < pageCount g.blk →
    ∃ t, Ends (.pgErrInj path g v) s t ∧ t = { s with regs := t.regs, mgmt := t.mgmt } ∧
      (∀ k < 32, bit (t.pgErr g) k = (bit (s.pgErr g) k || ((errBits g.blk g.inst).contains k && v.getLsbD k))) ∧
      ∀ a, a ≠ PG_ERR_ERR.at g → t.reg a = s.reg a)

/-- R417, R429 to R431, R435 to R437: what is read and staged. A read of _LO answers it and latches _HI, whose next read answers the
latch. A read of a table-window entry's first dword captures the entry, and its other dwords are read from there. A write of a MAP
window's dword is staged; the highest one puts the whole entry into the pending bank and leaves the current one. A READ message of one
register answers its value; a WRITE does what the register write does, and is answered; one of a bad layout is answered so. -/
def Obligations.ReadsLatchAndWritesStage : Prop := ∀ (s : State) (path : Path) (addr : BitVec 26), s.mgmtUp = true →
  (∀ p, path ≠ .tenant p) →
  (∀ g d, winAt addr.toNat = none → regAt addr.toNat = some (g, d) → d.pair = 1 →
    maskOf d.flds (fun t => t == .rc) = 0 → ∀ g' d', regAt (addr.toNat + 4) = some (g', d') →
    Ends (.loReadLatch path addr) s { s with
      mgmt := { s.mgmt with latches := Tbl.put s.mgmt.latches (addr.toNat + 4) (BitVec.ofNat 32 (s.regNow g' d' (addr.toNat + 4))) }
      out := .regRead path addr.toNat (BitVec.ofNat 32 (s.regNow g d addr.toNat &&& readMask d)) :: s.out }) ∧
  (∀ g d w, winAt addr.toNat = none → regAt addr.toNat = some (g, d) → d.pair = 2 → maskOf d.flds (fun t => t == .rc) = 0 →
    Tbl.get? s.mgmt.latches addr.toNat = some w →
    Ends (.loReadLatch path addr) s { s with
      mgmt := { s.mgmt with latches := Tbl.del s.mgmt.latches addr.toNat }
      out := .regRead path addr.toNat w :: s.out }) ∧
  (∀ w e, winAt addr.toNat = some (w, e, 0) → w.no ≠ 8 →
    let key := winKey { path := path } w
    Ends (.tableWindowRead path addr) s { s with
      mgmt := { s.mgmt with capture := Tbl.put s.mgmt.capture key (e, s.winEntry w.no e) }
      out := .regRead path addr.toNat (BitVec.ofNat 32 (s.winEntry w.no e)) :: s.out }) ∧
  (∀ w e k img, winAt addr.toNat = some (w, e, k + 1) → w.no ≠ 8 →
    Tbl.get? s.mgmt.capture (winKey { path := path } w) = some (e, img) →
    Ends (.tableWindowRead path addr) s
      { s with out := .regRead path addr.toNat (BitVec.ofNat 32 (img / 2 ^ (32 * (k + 1)))) :: s.out }) ∧
  (∀ w e k v img, winAt addr.toNat = some (w, e, k) → w.no ≤ 4 → s.profile ≠ profileF →
    Tbl.get? s.mgmt.staging (winKey { path := path } w) = some (e, img) → img < 2 ^ (8 * w.size) →
    let img' := insBits img (32 * k + 31) (32 * k) v.toNat
    (4 * k + 4 ≠ w.size → Ends (.tableWindowWrite path addr v) s
      { s with mgmt := { s.mgmt with staging := Tbl.put s.mgmt.staging (winKey { path := path } w) (e, img') } }) ∧
    (4 * k + 4 = w.size → w.no ≠ 0 → s.hrd ⟨.map, 0⟩ PG_CTL_LOCK ≠ 1 → s.pendHeld = false →
      ∃ t, Ends (.tableWindowWrite path addr v) s t ∧ t.winEntry w.no e = img' ∧ t.map.cur = s.map.cur ∧
        t = { s with map := t.map, mgmt := { s.mgmt with staging := Tbl.del s.mgmt.staging (winKey { path := path } w) } })) ∧
  (∀ g : Datagram, g.sumOk = true → s.mgrPasses g.srcIp = true → dgMalformed g = false → g.countM1 = 0 → winAt g.addr.toNat = none →
    (∀ h d, g.op = 1 → regAt g.addr.toNat = some (h, d) → d.pair = 0 → maskOf d.flds (fun t => t == .rc) = 0 →
      Ends (.regWindowRead g) s (s.answerWindow g 0 [BitVec.ofNat 32 (s.regNow h d g.addr.toNat &&& readMask d)])) ∧
    (∀ v t, g.op = 2 → g.data = [v] → (s.mgmtWrite { path := .eth } g.addr.toNat v.toNat).1 = t → t.waitCount = s.waitCount →
      Ends (.regWindowWrite g) s (t.answerWindow g 0 []))) ∧
  (∀ g : Datagram, g.sumOk = true → s.mgrPasses g.srcIp = true → dgMalformed g = true → g.op ≠ 0x81 → g.op ≠ 0x82 →
    Ends (.regWindowRead g) s ((s.err ⟨.dev, 0⟩ 18).answerWindow g 1 []) ∧
    Ends (.regWindowWrite g) s ((s.err ⟨.dev, 0⟩ 18).answerWindow g 1 [])) ∧
  (∀ up, ∃ t, Ends (.netLinkChange up) s t ∧ t = { s with regs := t.regs } ∧ t.flag DEV_NET_STAT_LINK_UP = up ∧
    t.flag DEV_NET_STAT_IP_VALID = (up && s.rd DEV_IP4_ADDR != 0)) ∧
  (∃ t, Ends .netConfigApply s t ∧ t = { s with regs := t.regs, mgmt := t.mgmt } ∧
    t.netFrom = (s.rd DEV_IP4_ADDR, s.rd DEV_UDP_REG_PORT) ∧
    t.flag DEV_NET_STAT_IP_VALID = (s.flag DEV_NET_STAT_LINK_UP && s.rd DEV_IP4_ADDR != 0))

/-- R403, R404, R407, R408, R440: counters. FREEZE stops and restarts them; CLEAR_ALL makes every counter and overflow bit 0; a write
of PMON_CNT_HI loads the staged low half with it; sampling starts from the seed. HBM_INJ arms one faulty write. Nothing else changes.
-/
def Obligations.CountersAreSet : Prop := ∀ (s : State) (path : Path),
  (s.Takes path ⟨.pmon, 0⟩ → bit (s.reg PMON_CTL_FREEZE.addr) 2 = false →
    (∃ t, Ends (.pmonFreeze path) s t ∧ t = { s with regs := t.regs } ∧ t.flag PMON_CTL_FREEZE = true) ∧
    (∃ t, Ends (.pmonUnfreeze path) s t ∧ t = { s with regs := t.regs } ∧ t.flag PMON_CTL_FREEZE = false)) ∧
  (s.Takes path ⟨.pmon, 0⟩ →
    ∃ t, Ends (.clearAll path) s t ∧ t = { s with regs := t.regs, pmon := { s.pmon with cnt := [], stagedLo := [] } } ∧
      ∀ i < 8, t.rd PMON_OVF_OVF 0 i = 0) ∧
  (∀ (n : BitVec 8) (hi : BitVec 16) (lo : Word), s.Takes path ⟨.pmon, 0⟩ → Tbl.get? s.pmon.stagedLo n.toNat = some lo →
    ∃ t, Ends (.counterLoad path n hi) s t ∧ t = { s with pmon := t.pmon } ∧
      Tbl.get t.pmon.cnt n.toNat 0 = lo.toNat + 2 ^ 32 * hi.toNat ∧ ∀ m, m ≠ n.toNat → Tbl.get t.pmon.cnt m 0 = Tbl.get s.pmon.cnt m 0) ∧
  (s.Takes path ⟨.pmon, 0⟩ → s.flag PMON_SMP_CTL_EN = false → 4 ≤ s.rd PMON_SMP_CTL_N → s.rd PMON_SMP_CTL_N ≤ 20 →
    ∃ t, Ends (.smpEnable path) s t ∧ t = { s with regs := t.regs, pmon := { s.pmon with lfsr := BitVec.ofNat 32 (s.rd PMON_SMP_SEED_SEED) } } ∧
      t.flag PMON_SMP_CTL_EN = true) ∧
  (∀ k : DieId, s.Takes path ⟨.hbm, k.val⟩ →
    (∃ t, Ends (.hbmInjCe path k) s t ∧ t = { s with regs := t.regs } ∧ t.flag HBM_INJ_CE k.val = true) ∧
    (∃ t, Ends (.hbmInjUe path k) s t ∧ t = { s with regs := t.regs } ∧ t.flag HBM_INJ_UE k.val = true))

/-! ### Memory requests on YD and CXL (spec 02, 03, 04, 05, 06) -/

/-- R84, R85, R87, R93, R103, R131, R133: writes. A whole write of a LEAF reaches the line and no other byte; a masked one the bytes
of its mask. Its unit of the T1 page becomes dirty, the trays keep what they held, no port holds the line, and the requester is
answered OK, or with a completion without grant. Nothing else changes. -/
def Obligations.WritesReachMemory : Prop := ∀ (s : State) (p : PortId) (a : Nat), s.ServesT1 p a →
  let base := a / 64 * 64
  let written (mask : BitVec 64) (d : Line) (t : State) : Prop :=
    (∀ x, Memory.read t.pool.cur.bytes x =
      if base ≤ x ∧ x < base + 64 ∧ mask.getLsbD (x - base) = true then byteOf d.toNat (x - base) else Memory.read s.pool.cur.bytes x) ∧
    t.pool.tray = s.pool.tray ∧ t.isDirty a = true ∧ t.dirAt (a / 64) = none ∧ t.home.txns = [] ∧ t.rc = s.rc ∧ s.OnlyMemory t p.val
  let decrypts : Prop := (s.readPool s.map.cur base).data = Memory.readLine s.pool.cur.bytes base
  (∀ (h : Hdr) (d : Line), s.Admits p (.wr p h d) → h.dst = s.ownFeid → h.poison = false → s.LeadsTo p h.arg.toNat a →
    ∃ t, exec (.wr p h d) s = .next t ∧ written fullMask d t ∧ s.Sends t p.val (.yd 0x06 (replyHdr s h 0) [])) ∧
  (∀ (h : Hdr) (mask : BitVec 64) (d : Line), s.Admits p (.wrMask p h mask d) → h.dst = s.ownFeid → h.poison = false →
    s.LeadsTo p h.arg.toNat a → decrypts →
    ∃ t, exec (.wrMask p h mask d) s = .next t ∧ written mask d t ∧ s.Sends t p.val (.yd 0x06 (replyHdr s h 0) [])) ∧
  (∀ (tag : BitVec 16) (addr : BitVec 64) (d : Line) (mask : BitVec 64), s.Admits p (.memWr p tag addr d mask false false) →
    s.LeadsTo p addr.toNat a → decrypts →
    ∃ t, exec (.memWr p tag addr d mask false false) s = .next t ∧ written mask d t ∧ s.Sends t p.val (.memCmp tag grNone))

/-- R58, R84 to R86, R90: reads. A read of a line in T1 is ordered at once and waits for the near tier; it sends nothing and changes
no memory. Of CXL.mem, MemRd and MemInv do the same, as cached reads where the port's role is LEAF, else uncached (R14, R78). -/
def Obligations.ReadsAreOrdered : Prop := ∀ (s : State) (p : PortId) (a : Nat), s.ServesT1 p a →
  let ordered (c : Instr) (src : Src) (acc : Access) : Prop :=
    ∃ t u, Ends c s t ∧ t.home.txns = [u] ∧ u.id = s.home.nextId ∧ u.line = a / 64 ∧ u.src = src ∧ u.acc = acc ∧ u.phase = .data ∧
      u.epoch = s.epoch ∧ t.pool = s.pool ∧ t.ports = s.ports ∧ t.dirAt (a / 64) = none
  (∀ h : Hdr, s.Admits p (.rd p h) → h.dst = s.ownFeid → s.summaryLine h = none → s.LeadsTo p h.arg.toNat a →
    ordered (.rd p h) (.yd p.val h) (.readUnc 0 64)) ∧
  (∀ (tag : BitVec 16) (addr : BitVec 64) (own : Bool), s.Admits p (.memRd p tag addr own) → s.LeadsTo p addr.toNat a →
    ordered (.memRd p tag addr own) (.cxlMem p.val tag)
      (if s.role p.val ≠ .leaf then .readUnc 0 64 else if own then .readOwn false else .readShared)) ∧
  (∀ (tag : BitVec 16) (addr : BitVec 64), s.Admits p (.memInv p tag addr) → s.LeadsTo p addr.toNat a →
    ordered (.memInv p tag addr) (.cxlMem p.val tag) (if s.role p.val ≠ .leaf then .readUnc 0 0 else .readOwn true)) ∧
  (∀ (tag : BitVec 16) (addr : BitVec 64) (len : Nat), s.Admits p (.cxlIoMemRd p tag addr len) → s.role p.val ≠ .mgmt →
    0 < len → addr.toNat % 64 + len ≤ 64 → s.LeadsTo p addr.toNat a →
    ordered (.cxlIoMemRd p tag addr len) (.cxlIo p.val tag) (.readUnc (addr.toNat % 64) len))

/-- R84, R86, R90, R93: the near tier answers a read with the line as the home holds it: a YD read with RSP_DATA, a shared read of
CXL.mem with data and a shared grant, one for ownership with data and ownership; the directory then names the port as sharer or owner,
and only for the cached reads. -/
def Obligations.ReadsAnswer : Prop := ∀ (s : State) (u : Txn), s.home.txns = [u] → u.phase = .data → u.epoch = s.epoch →
  Tbl.get? s.pool.ue u.line = none → s.dirAt u.line = none →
  let v := s.readPool s.map.cur (64 * u.line)
  v.overrun = false → v.underrun = false →
  (∀ p h, u.src = .yd p h → u.acc = .readUnc 0 64 →
    ∃ t, Ends (.memReadDone u.id) s t ∧ t.home.txns = [] ∧ t.pool = s.pool ∧ t.home.dir = s.home.dir ∧
      s.Sends t p (.yd 0x05 (replyHdr s h (if v.poison then stPoisoned else stOk).toNat v.poison) (lineSlots v.data))) ∧
  (∀ p tag, u.src = .cxlMem p tag → u.acc = .readShared →
    ∃ t e, Ends (.memReadDone u.id) s t ∧ t.home.txns = [] ∧ t.pool = s.pool ∧
      t.dirAt u.line = some { st := .s, sharers := 2 ^ sharerBit p, seq := s.home.dirSeq } ∧ e.msg = .memData tag v.data v.poison ∧
      (t.port p).egress = (s.port p).egress ++ [e, { q := 1, msg := .memCmp tag grShared }]) ∧
  (∀ p tag, u.src = .cxlMem p tag → u.acc = .readOwn false →
    ∃ t e, Ends (.memReadDone u.id) s t ∧ t.home.txns = [] ∧ t.pool = s.pool ∧
      t.dirAt u.line = some { st := .m, owner := p, seq := s.home.dirSeq } ∧ e.msg = .memData tag v.data v.poison ∧
      (t.port p).egress = (s.port p).egress ++ [e, { q := 1, msg := .memCmp tag grOwn }])

/-- R118 to R121: an atomic on a YD link. It runs once: the operand's place holds the operation's value, every other byte is as
before, the old value goes back in ATOM_RSP and into the reply cache under the request's identity. A duplicate is answered from there,
marked so, and changes no memory. -/
def Obligations.AtomicsRunOnce : Prop := ∀ (s : State) (p : PortId) (h : Hdr) (sl : List Slot) (a : Nat),
  s.Admits p (.atom p h sl) → h.dst = s.ownFeid → s.LeadsTo p h.arg.toNat a → atomFormatOk h sl = true → s.enabled .atom = true →
  s.quiescing .atom = false → atomAckTag sl = none → Tbl.get? s.live.incarns h.src.toNat = some (atomIncarn sl) →
  let base := a / 64 * 64
  let at_ := base + h.arg.toNat % 64
  let n := atomicBits (atomSize sl) / 8
  let old := ((s.readPool s.map.cur base).data.toNat >>> (8 * (h.arg.toNat % 64))) % 2 ^ (8 * n)
  let new := atomicApply (atomOp sl) (atomSize sl) (atomSigned sl) old ((sl[1]?).getD 0).toNat ((sl[2]?).getD 0).toNat
  let succ := decide (old = ((sl[1]?).getD 0).toNat % 2 ^ (8 * n))
  let slots (v : Slot) (ok : Bool) : List Slot := v :: (if atomOp sl = 7 then [BitVec.ofNat 128 (b2n ok)] else [])
  (s.ServesT1 p a → (s.readPool s.map.cur base).data = Memory.readLine s.pool.cur.bytes base →
    (s.readPool s.map.cur base).poison = false → s.rcFind h.src (atomIncarn sl) h.tag = none → s.rcFull h.src = false →
    ∃ t, exec (.atom p h sl) s = .next t ∧
      (∀ x, Memory.read t.pool.cur.bytes x =
        if at_ ≤ x ∧ x < at_ + n then byteOf new (x - at_) else Memory.read s.pool.cur.bytes x) ∧
      t.pool.tray = s.pool.tray ∧ t.isDirty a = true ∧ t.home.txns = [] ∧ s.OnlyMemory t p.val ∧
      t.rc = s.rc ++ [{ src := h.src, incarn := atomIncarn sl, tag := h.tag,
                        print_ := atomOp sl + atomSize sl * 16 + h.arg.toNat * 64,
                        res := some { status := stOk, old := BitVec.ofNat 128 old, succ := succ } }] ∧
      s.Sends t p.val (.yd 0x09 (replyHdr s h 0) (slots (BitVec.ofNat 128 old) succ))) ∧
  (∀ e r, s.enabled .home = true → s.map.cur.portMay p.val (s.map.cur.extent (a / 2 ^ 30)) = true →
    s.rcFind h.src (atomIncarn sl) h.tag = some e → e.print_ = atomOp sl + atomSize sl * 16 + h.arg.toNat * 64 → e.res = some r →
    ∃ t, Ends (.atom p h sl) s t ∧ t.pool = s.pool ∧ t.rc = s.rc ∧ t.home = s.home ∧
      s.Sends t p.val (.yd 0x09 (replyHdr s h (r.status.toNat + 256)) (slots r.old r.succ)))

/-! ### The rest of CXL: snoop answers, CXL.io, trays, completions (spec 02, 04, 05, 06, 09, 11, 15) -/

/-- R86, R87, R92: a LEAF's answer to a snoop. It ends the snoop; the entry of the owner goes, or stays as a sharer's where it kept
the line; the read that waited goes on to its data. An answer to no outstanding snoop counts LATE_WRITEBACK. A write-back is written
to memory and ends the entry; BIConflict is acknowledged. -/
def Obligations.HoldersAnswer : Prop := ∀ (s : State) (p : PortId) (l : Nat), s.enabled .home = true →
  (∀ a shared u e, s.Admits p (.birsp p a shared) → a.toNat / 64 = l → s.home.snoopsTo = [(p.val, l)] → s.home.txns = [u] →
    u.line = l → u.phase = .snoop → u.snoops = [p.val] → u.acc = .readShared → u.fwd = none → u.spec = false → u.specDone = false → u.epoch = s.epoch →
    s.dirAt l = some e → e.st = .m → e.owner = p.val → (Tbl.get? s.tier.t1 (pageNo (64 * l))).isSome = true →
    ∃ t, Ends (.birsp p a shared) s t ∧ t.home.snoopsTo = [] ∧ t.home.txns = [{ u with snoops := [], phase := .data }] ∧
      t.dirAt l = (if shared then some { e with st := .s, sharers := 2 ^ sharerBit p.val, owner := 0 } else none) ∧
      t.pool = s.pool ∧ t.ports = s.ports) ∧
  (∀ a shared, s.Admits p (.birsp p a shared) → s.home.snoopsTo.contains (p.val, a.toNat / 64) = false →
    Ends (.birsp p a shared) s
      (s.count { blk := .home, code := 0x08, addr := some (64 * (a.toNat / 64)), master := some (1, bdPbr (s.map.cur.bind p.val)) })) ∧
  (∀ (tag : BitVec 16) (a : BitVec 64) (d : Line) b e, s.Admits p (.memWr p tag a d fullMask false true) → s.LeadsTo p a.toNat b → b / 64 = l →
    s.role p.val = .leaf → s.dirAt l = some e → e.st = .m → e.owner = p.val → s.home.snoopsTo = [] → s.home.txns = [] →
    s.home.adopt = [] → s.backEpoch l = s.epoch → Tbl.get s.home.repl.peers (l / 64) [] = [] → Tbl.get s.home.repl.invWait (l / 64) [] = [] →
    (Tbl.get? s.tier.t1 (pageNo (64 * l))).isSome = true →
    (s.paged (s.map.cur.extent (l / 2 ^ 24)) = true → (s.pageEnt (pageNo (64 * l))).tier ≠ .zero) →
    exCmpr (s.map.cur.extent (l / 2 ^ 24)) = false → s.keyless (s.map.cur.tenantOf (s.map.cur.extent (l / 2 ^ 24))) = false →
    ∃ t, Ends (.memWr p tag a d fullMask false true) s t ∧ t.dirAt l = none ∧ t.isDirty (64 * l) = true ∧ t.pool.tray = s.pool.tray ∧
      (∀ x, Memory.read t.pool.cur.bytes x =
        if 64 * l ≤ x ∧ x < 64 * l + 64 then byteOf d.toNat (x - 64 * l) else Memory.read s.pool.cur.bytes x) ∧
      (t.port p.val).egress = (s.port p.val).egress ++ [{ q := 1, msg := .memCmp tag grNone }]) ∧
  (∀ tag a, s.Admits p (.biconflict p tag a) →
    ∃ t, Ends (.biconflict p tag a) s t ∧ t = { s with ports := t.ports } ∧
      (t.port p.val).egress = (s.port p.val).egress ++ [{ q := 1, msg := .biConflictAck a.toNat }])

/-- R126, R438, R55, R58: CXL.io, and PBR flits. A memory write of part of a line puts its enabled bytes into the line and is not
answered; an AtomicOp executes at the home, with no reply-cache entry, and the old value completes it; a configuration read is
completed, with retry before READY. A PBR flit for another port leaves by the port whose binding holds its destination PBR ID, where
the two bindings let it pass; a request for a PBR ID no binding holds is denied. -/
def Obligations.CxlIoRequests : Prop := ∀ (s : State) (p : PortId) (a : Nat) (addr : BitVec 64),
  let base := a / 64 * 64
  (∀ dws : List (Word × BitVec 4), s.ServesT1 p a → s.Admits p (.cxlIoMemWr p addr dws false) → s.role p.val ≠ .mgmt → dws ≠ [] →
    addr.toNat % 64 + 4 * dws.length ≤ 64 →
    (∃ e, s.map.cur.route p.val addr.toNat = some e ∧ rtAction e = .pool ∧ a = addr.toNat / 64 * 64 - rtBase e + rtOffset e) →
    (s.readPool s.map.cur base).data = Memory.readLine s.pool.cur.bytes base →
    let r := ioLine (addr.toNat / 64) addr.toNat dws
    ∃ t, exec (.cxlIoMemWr p addr dws false) s = .next t ∧ t.ports = s.ports ∧ t.rc = s.rc ∧ t.home.txns = [] ∧ t.pool.tray = s.pool.tray ∧
      s.OnlyMemory t p.val ∧
      ∀ x, Memory.read t.pool.cur.bytes x =
        if base ≤ x ∧ x < base + 64 ∧ r.2.getLsbD (x - base) = true then byteOf r.1.toNat (x - base) else Memory.read s.pool.cur.bytes x) ∧
  (∀ (tag : BitVec 16) (op : BitVec 4) (size : BitVec 2) (operand swapv : Slot), s.Admits p (.atomicOp p tag addr op size operand swapv) →
    s.ServesT1 p a → s.LeadsTo p addr.toNat a → cxlAtomicOk op.toNat size.toNat addr.toNat = true → s.enabled .atom = true →
    s.quiescing .atom = false → (s.readPool s.map.cur base).data = Memory.readLine s.pool.cur.bytes base →
    (s.readPool s.map.cur base).poison = false →
    let at_ := base + addr.toNat % 64
    let n := atomicBits size.toNat / 8
    let old := ((s.readPool s.map.cur base).data.toNat >>> (8 * (addr.toNat % 64))) % 2 ^ (8 * n)
    let new := atomicApply op.toNat size.toNat false old operand.toNat swapv.toNat
    ∃ t, exec (.atomicOp p tag addr op size operand swapv) s = .next t ∧ t.rc = s.rc ∧ t.home.txns = [] ∧ s.OnlyMemory t p.val ∧
      s.Sends t p.val (.ioCpl tag 0 (bytesOf n old) false) ∧
      ∀ x, Memory.read t.pool.cur.bytes x =
        if at_ ≤ x ∧ x < at_ + n then byteOf new (x - at_) else Memory.read s.pool.cur.bytes x) ∧
  (∀ (tag : BitVec 16) (reg : BitVec 12), s.Admits p (.cfgRd p tag reg) →
    (s.flag RST_STAT_READY = true → ∃ t d, Ends (.cfgRd p tag reg) s t ∧ d.length = 4 ∧ s.Sends t p.val (.ioCpl tag 0 d false) ∧
      t.pool = s.pool ∧ t.regs = s.regs) ∧
    (s.flag RST_STAT_READY = false → ∃ t, Ends (.cfgRd p tag reg) s t ∧ s.Sends t p.val (.ioCpl tag 2 [] false) ∧
      t = { s with ports := t.ports })) ∧
  (∀ (tag : BitVec 16) (own : Bool) (d : BitVec 12), s.Admits p (.memRd p tag addr own (some d)) →
    (∀ x, s.pbrPort d = some x → s.mayPass p.val x = true → s.ydUp x = false →
      ∃ t r, Ends (.memRd p tag addr own (some d)) s t ∧ s.Sends t x (.ioMemRd r (lineAddr addr.toNat) 64) ∧
        (∀ q, q ≠ x → t.port q = s.port q) ∧ t.pool = s.pool ∧ t.home.dir = s.home.dir ∧ t.home.txns = s.home.txns) ∧
    (s.pbrPort d = none → ∃ t e, Ends (.memRd p tag addr own (some d)) s t ∧ t.pool = s.pool ∧ t.home = s.home ∧
      e.msg = .memData tag 0 true ∧ (t.port p.val).egress = (s.port p.val).egress ++ [e, { q := 1, msg := .memCmp tag grNone }])) ∧
  (∀ (tag : BitVec 16) (ok : Bool) (data : List Byte) (d : BitVec 12) (x : Nat), s.Admits p (.hostCpl p tag ok data (some d)) →
    s.pbrPort d = some x → s.mayPass p.val x = true →
    ∃ t, Ends (.hostCpl p tag ok data (some d)) s t ∧ t = { s with ports := t.ports } ∧
      s.Sends t x (.ioCpl tag (if ok then 0 else 1) data false))

/-- R148, R468, R225, R344, R259: completions. A tray's data answers the read that waited for it; an access that fails on its only
head, or gets no completion, answers it poisoned and ends. A completion of the device's own request for a peer's reader answers that
reader. A completion timeout is kept for 10 ms. A header in a collective window opens the member's contribution, which writes no
memory. -/
def Obligations.CompletionsComeBack : Prop := ∀ (s : State) (p : PortId),
  (∀ o u q h, s.tier.trayOps = [o] → o.write = false → o.area = false → Tbl.get? s.pool.ue u.line = none → s.home.txns = [u] → u.id = o.txn → u.phase = .tray 0 → u.src = .yd q h →
    u.acc = .readUnc 0 64 → u.epoch = s.epoch → (Tbl.get? s.tier.t1 (pageNo (64 * u.line))).isSome = false →
    let v := s.readPool s.map.cur (64 * u.line)
    (v.overrun = false → v.underrun = false →
      ∃ t, Ends (.trayCpl o.id .ok) s t ∧ t.home.txns = [] ∧ t.tier.trayOps = [] ∧ t.pool = s.pool ∧
        s.Sends t q (.yd 0x05 (replyHdr s h (if v.poison then stPoisoned else stOk).toNat v.poison) (lineSlots v.data))) ∧
    (∀ port addr, s.placeOf s.map.cur (64 * u.line) = .one port addr →
      ∀ c, c = .trayTimeout o.id ∨ (∃ r, r ≠ .ok ∧ c = .trayCpl o.id r) →
      ∃ t, Ends c s t ∧ t.home.txns = [] ∧ t.tier.trayOps = [] ∧ t.pool = s.pool ∧
        s.Sends t q (.yd 0x05 (replyHdr s h stPoisoned.toNat true) (lineSlots 0)))) ∧
  (∀ (tag : BitVec 16) (data : List Byte) (q : Nat) (h : Hdr), s.Admits p (.hostCpl p tag true data) →
    s.map.proxied = [(p.val, tag, .yd q h, .readUnc 0 64)] →
    ∃ t, Ends (.hostCpl p tag true data) s t ∧ t.map.proxied = [] ∧ t.pool = s.pool ∧ t.home = s.home ∧
      s.Sends t q (.yd 0x05 (replyHdr s h 0) (lineSlots (lineOf data)))) ∧
  (s.enabled .live = false →
    Ends (.cplTimeout p) s (s.modPort p.val (fun x => { x with
      cto := x.cto.filter (fun t => decide (s.live.interval < t + 500)) ++ [s.live.interval] }))) ∧
  (∀ (g : BitVec 12) (d : Line), s.Admits p (.collWindowWrite p g 0 d true false) → s.quiescing .coll = false →
    Ends (.collWindowWrite p g 0 d true false) s
      (s.modPort p.val (fun x => { x with
        collHdr := Tbl.put x.collHdr g.toNat (bits d.toNat 63 0, bits d.toNat 79 64, 0) })))

/-! ### Responses, publication, triggers, collectives on YD (spec 02, 04, 05, 09, 11) -/

/-- R15, R305, R306: responses for another device pass unchanged, towards the port whose binding holds their destination, where the
two ports' bindings permit it, else they are dropped and ACCESS_DENIED is counted; of memory, directory and reply cache nothing
changes. -/
def ResponsesPass : Prop := ∀ (s : State) (p : PortId) (h : Hdr) (q : Nat), h.dst ≠ s.ownFeid → s.portOfFeid h.dst = some q →
  let passed (c : Instr) (opc : Byte) (slots : List Slot) : Prop := s.Admits p c →
    ∃ t, Ends c s t ∧ t.pool = s.pool ∧ t.home = s.home ∧ t.rc = s.rc ∧
      (s.mayPass p.val q = true → s.Sends t q (.yd opc h slots) ∧ (∀ r, r ≠ q → t.port r = s.port r) ∧ t.regs = s.regs) ∧
      (s.mayPass p.val q = false → t.ports = s.ports ∧ t.tally .port 0x09 p.val = s.tally .port 0x09 p.val + 1)
  (∀ d : Line, passed (.rspData p h d) 0x05 (lineSlots d)) ∧
  passed (.rsp p h) 0x06 [] ∧
  (∀ sl, passed (.atomRsp p h sl) 0x09 sl) ∧
  passed (.atomAck p h) 0x0A [] ∧
  (∀ sl, s.pub.fwd = [] → passed (.pubRsp p h sl) 0x0D sl) ∧
  (∀ sl, passed (.collRes p h sl) 0x19 sl)

/-- R39, R73, R96, R106, R120, R124, R438: answers to what this device sent. Data of a request passed on for a CXL.mem read goes to
its requester; the result of an own atomic or of an own CLOSE is acknowledged with ATOM_ACK; ATOM_ACK of a requester releases the
three tags it names; a refused page replica is asked for no longer. -/
def AnswersComeBack : Prop := ∀ (s : State) (p : PortId) (h : Hdr), h.dst = s.ownFeid →
  (∀ (d : Line) (q : Nat) (tag : BitVec 16), s.Admits p (.rspData p h d) →
    s.map.proxied = [(256 + h.src.toNat, h.tag, .cxlMem q tag, .readShared)] → h.poison = false → BitVec.ofNat 8 h.arg.toNat = stOk →
    ∃ t e, Ends (.rspData p h d) s t ∧ t.map.proxied = [] ∧ t.pool = s.pool ∧ e.msg = .memData tag d false ∧
      (t.port q).egress = (s.port q).egress ++ [e, { q := 1, msg := .memCmp tag grShared }]) ∧
  (∀ (q : Nat) (tag : BitVec 16) (d : Line) (mask : BitVec 64), s.Admits p (.rsp p h) →
    s.map.proxied = [(256 + h.src.toNat, h.tag, .cxlMem q tag, .write d mask false)] →
    ∃ t, Ends (.rsp p h) s t ∧ t.map.proxied = [] ∧ t.pool = s.pool ∧
      (t.port q).egress = (s.port q).egress ++ [{ q := 1, msg := .memCmp tag grNone }]) ∧
  (∀ (sl : List Slot) (q : Nat), s.Admits p (.atomRsp p h sl) → s.map.proxied = [] → s.portOfFeid h.src = some q →
    ∃ t, Ends (.atomRsp p h sl) s t ∧ t = { s with ports := t.ports } ∧
      s.Sends t q (.yd 0x0A (s.ownHdr h.src h.tag (s.rd LIVE_INCARN_INCARN + h.tag.toNat * (2 ^ 16 + 2 ^ 32 + 2 ^ 48))) [])) ∧
  (∀ (sl : List Slot) (q : Nat), s.Admits p (.pubRsp p h sl) → pubKind h = 0x03 → s.portOfFeid h.src = some q →
    ∃ t, Ends (.pubRsp p h sl) s t ∧ t = { s with ports := t.ports } ∧
      s.Sends t q (.yd 0x0A (s.ownHdr h.src h.tag (s.rd LIVE_INCARN_INCARN + h.tag.toNat * (2 ^ 16 + 2 ^ 32 + 2 ^ 48))) [])) ∧
  (∀ (sl : List Slot) (k page : Nat), s.Admits p (.pubRsp p h sl) → pubKind h = 0x10 → bits h.arg.toNat 15 8 ≠ 0 →
    s.home.repl.asked = [(k, page, h.tag)] → k / 2 ^ 36 = h.src.toNat →
    Ends (.pubRsp p h sl) s (s.mapRepl (fun r => { r with asked := [] }))) ∧
  (s.Admits p (.atomAck p h) → Tbl.get? s.live.incarns h.src.toNat = some (BitVec.ofNat 16 (bits h.arg.toNat 15 0)) →
    ∃ t, Ends (.atomAck p h) s t ∧ t = { s with rc := t.rc } ∧
    ∀ e, e ∈ t.rc ↔ e ∈ s.rc ∧ ¬(e.src = h.src ∧ e.incarn.toNat = bits h.arg.toNat 15 0 ∧
      (e.tag.toNat = bits h.arg.toNat 31 16 ∨ e.tag.toNat = bits h.arg.toNat 47 32 ∨ e.tag.toNat = bits h.arg.toNat 63 48)))

/-- Responses for other devices, and answers to this one. -/
def Obligations.ResponsesComeBack : Prop := ResponsesPass ∧ AnswersComeBack

/-- R105 to R114: PUBLISH, OPEN and CLOSE of a region of this device through a TRUNK port, their requester's incarnation known, none
of them seen before. A PUBLISH whose expected version is not the current one ends CONFLICT with it and leaves the region; one whose
listed extents fit makes the next version current. An OPEN of the current version pins it and is answered with its count; a CLOSE
takes the pin back. -/
def Obligations.RegionsVersion : Prop := ∀ (s : State) (p : PortId) (h : Hdr) (sl : List Slot) (r : Region),
  s.role p.val = .trunk → h.dst = s.ownFeid → s.enabled .pub = true → s.quiescing .pub = false → s.enabled .home = true →
  s.region (pubRegion h) = some r → r.closing = false → r.running = none → r.tenant = pubTenant sl → pubShapeOk (pubKind h) sl = true →
  Tbl.get? s.live.incarns h.src.toNat = some (pubIncarn h) → s.rcFind h.src (pubIncarn h) h.tag = none → s.rcFull h.src = false →
  let idx := pubRegion h % 65536
  let answer (st : Byte) (ver count : Nat) : Msg :=
    .yd 0x0D (replyHdr s h (pubRspArg (pubKind h) st (pubRegion h) false false)) [BitVec.ofNat 128 (ver + count * 2 ^ 32)]
  (s.Admits p (.publish p h sl) → pubKind h = 1 → s.writesWait h.src = false → pubVer sl ≠ r.cur →
    ∃ t, Ends (.publish p h sl) s t ∧ t.pub = s.pub ∧ t.pool = s.pool ∧ s.Sends t p.val (answer stConflict r.cur r.curCount)) ∧
  (s.Admits p (.publish p h sl) → pubKind h = 1 → s.writesWait h.src = false → pubVer sl = r.cur → pubCount sl ≤ 12 →
    (pubInline sl).all (s.listable r.tenant idx) = true → r.versions.length ≤ r.retain → r.replicas = [] → s.home.dir = [] →
    s.home.txns = [] → (∀ v ∈ r.versions, s.pinned (s.regionId idx) v.1 = true) →
    ∃ t r', Ends (.publish p h sl) s t ∧ t.pool = s.pool ∧ Tbl.get? t.pub.regions idx = some r' ∧ r'.cur = nextVer r.cur ∧
      r'.versions = (nextVer r.cur, (pubInline sl).map (fun e => bits e 17 0)) :: r.versions ∧
      s.Sends t p.val (answer stOk (nextVer r.cur) (pubCount sl))) ∧
  (∀ exts, s.Admits p (.openReq p h sl) → pubKind h = 2 → pubVer sl = 0 → pubAddr sl = 0 → r.rrepl = false →
    r.versions.find? (fun e => e.1 == r.cur) = some (r.cur, exts) → s.pub.pins = [] →
    ∃ t, Ends (.openReq p h sl) s t ∧ t.pool = s.pool ∧ t.pub.regions = s.pub.regions ∧
      t.pub.pins = [{ feid := h.src, incarn := pubIncarn h, region := pubRegion h, ver := r.cur, count := 1 }] ∧
      s.Sends t p.val (answer stOk r.cur exts.length)) ∧
  (s.Admits p (.close p h sl) → pubKind h = 3 → r.versions.map (·.1) = [r.cur] → pubVer sl = r.cur →
    s.pub.pins = [{ feid := h.src, incarn := pubIncarn h, region := pubRegion h, ver := r.cur, count := 1 }] →
    ∃ t, Ends (.close p h sl) s t ∧ t.pool = s.pool ∧ t.pub.regions = s.pub.regions ∧ t.pub.pins = [] ∧
      s.Sends t p.val (answer stOk r.cur 0))

/-- R95 to R98, R116, R117: replicas. A peer's REPL_REQ is granted for a candidate of the last window where PEER_GRANT_EN allows it
and else refused; REPL_INV drops the page replica held of the sender's page, RGN_INV ends the region replica, and each is acknowledged
in Q1. -/
def Obligations.ReplicasAreAsked : Prop := ∀ (s : State) (p : PortId) (h : Hdr) (sl : List Slot), s.role p.val = .trunk →
  h.dst = s.ownFeid → s.enabled .pub = true → s.quiescing .pub = false → s.enabled .home = true → pubShapeOk (pubKind h) sl = true →
  let ack (kind : Nat) (st : Byte) (region : Nat) : Queued :=
    { q := 1, msg := .yd 0x0D (replyHdr s h (pubRspArg kind st region false false)) [0] }
  (s.Admits p (.replReq p h sl) → pubKind h = 0x10 → s.flag REPL_CTL_PEER_GRANT_EN = true → s.enabled .repl = true →
    s.home.repl.cands.contains (pubPage h) = true → Tbl.get s.home.repl.peers (pubPage h) [] = [] →
    ∃ t, Ends (.replReq p h sl) s t ∧ t = { s with ports := t.ports, home := t.home } ∧ t.home.dir = s.home.dir ∧
      t.home.repl = { s.home.repl with peers := Tbl.put s.home.repl.peers (pubPage h) [h.src.toNat] } ∧
      (t.port p.val).egress = (s.port p.val).egress ++ [ack 0x10 stOk 0]) ∧
  (s.Admits p (.replReq p h sl) → pubKind h = 0x10 → s.flag REPL_CTL_PEER_GRANT_EN = false →
    ∃ t, Ends (.replReq p h sl) s t ∧ t = { s with ports := t.ports } ∧
      (t.port p.val).egress = (s.port p.val).egress ++ [ack 0x10 stDenied 0]) ∧
  (s.Admits p (.replInv p h sl) → pubKind h = 0x11 →
    ∃ t, Ends (.replInv p h sl) s t ∧ t = { s with ports := t.ports, home := t.home } ∧ t.home.dir = s.home.dir ∧
      t.peerFilled h.src (pubPage h) = false ∧ (t.port p.val).egress = (s.port p.val).egress ++ [ack 0x11 stOk 0]) ∧
  (∀ rep, s.Admits p (.rgnInv p h sl) → pubKind h = 0x12 → Tbl.get? s.live.incarns h.src.toNat = some (pubIncarn h) → rep.ver < 2 ^ 32 →
    s.pub.replicas = [(replicaKey (pubRegion h) rep.ver, rep)] →
    ∃ t, Ends (.rgnInv p h sl) s t ∧ t.pub.replicas = [(replicaKey (pubRegion h) rep.ver, { rep with alive := false })] ∧ t.replicaFor h sl = none ∧
      t.pool = s.pool ∧ (t.port p.val).egress = (s.port p.val).egress ++ [ack 0x12 stOk (pubRegion h)])

/-- R208, R212, R213: a trigger. The line written to a context's window whose verdict is OK becomes the last procedure of its queue,
where those all of whose record and counter is done are forgotten, under the current epoch, QSEQ takes its SEQ, and on YD it is
answered OK; one whose verdict is DENIED without a record changes only counters and its answer. -/
def Obligations.TriggersQueue : Prop := ∀ (s : State) (p : PortId) (h : Hdr) (d : Line) (whole : Bool) (e : Nat),
  s.Admits p (.trigger .yd p h d whole) → h.dst = s.ownFeid → s.map.cur.route p.val h.arg.toNat = some e → rtAction e = .trig →
  let x := (h.arg.toNat - rtBase e) / 4096
  let v := s.trigVerdict p.val x d.toNat h.poison whole
  (s.enabled .ctx x && s.quiescing .ctx x) = false →
  (v.event = 1 → s.coreless (s.rd CTX_BIND_SLICE x) = false → x < 4096 →
    ∃ t, Ends (.trigger .yd p h d whole) s t ∧
      t.procsOf x = (s.procsOf x).filter (s.keeps x) ++ [{ id := s.procs.nextId, trig := d.toNat, epoch := s.epoch }] ∧
      t.rd CTX_QSEQ_LAST_SEQ x = trSeq d.toNat ∧ t.pool = s.pool ∧ t.home = s.home ∧
      s.Sends t p.val (.yd 0x06 (replyHdr s h v.st.toNat) [])) ∧
  (v.event = 9 →
    ∃ t, Ends (.trigger .yd p h d whole) s t ∧ t.procs = s.procs ∧ t.pool = s.pool ∧ t.home = s.home ∧
      t.tally .port 0x09 p.val = s.tally .port 0x09 p.val + 1 ∧ s.Sends t p.val (.yd 0x06 (replyHdr s h stDenied.toNat) []))

/-- R89, R256 to R262, R268, R270, R274: a BARRIER on a group of two YD entries. The first contribution opens the operation and waits;
the second closes it, every entry gets its COLL_RES with the operation's sequence number, OK, one chunk and one slot, and the expected
number moves on. A status from the parent ends the operation towards every entry. A FENCE whose sender has nothing outstanding orders
nothing and changes nothing; else the sender's later messages wait behind it. -/
def Obligations.GroupsAndFences : Prop := ∀ (s : State) (p : PortId),
  (∀ (h : Hdr) (slot : Slot) (g : Group) (p' : Nat) (ra rb : Nat), s.Admits p (.coll p h [slot]) → h.dst = s.ownFeid → h.poison = false →
    let gid := bits h.arg.toNat 11 0
    s.enabled .coll = true → s.quiescing .coll = false → s.group gid = some g → g.fenced = false → g.parent = 0xFF → g.kind = false →
    g.ents = [{ port := p.val, rank := 0, count := 1, resAddr := ra }, { port := p', rank := 1, count := 1, resAddr := rb }] →
    p' ≠ p.val → bdValid (s.map.cur.bind p.val) = true → bdTenant (s.map.cur.bind p.val) = g.tenant → h.tag.toNat = g.next →
    s.ydUp p.val = true → s.ydUp p' = true →
    bits h.arg.toNat 63 12 = copBarrier →
    let op (i : Nat) (d : Line) : CollOp :=
      { cop := copBarrier, rop := 0, ty := 0, outTy := 0, dM1 := 0, exact := false, nchunk := 1, seq := g.next, chunks := [(i, 0, d, false)] }
    let res (f : Nat) : Queued :=
      { q := 2
        msg := .yd 0x19 { dst := BitVec.ofNat 16 (s.rd PORT_LSTAT_PARTNER_FEID f), src := s.ownFeid, tag := h.tag,
                          arg := BitVec.ofNat 64 (collResArg gid stOk 0 1) } [0] }
    (g.op = none → s.openOps < 128 →
      Ends (.coll p h [slot]) s (s.setGroup gid { g with op := some (op 0 (BitVec.ofNat 512 (ofSlots [slot]))) })) ∧
    (∀ d, g.op = some (op 1 d) →
      ∃ t, Ends (.coll p h [slot]) s t ∧ t.group gid = some { g with op := none, next := (g.next + 1) % 2 ^ 16 } ∧ t.pool = s.pool ∧
        (t.port p).egress = (s.port p).egress ++ [res p.val] ∧ (t.port p').egress = (s.port p').egress ++ [res p'] ∧
        t.tally .coll 0x01 = s.tally .coll 0x01 + 1)) ∧
  (∀ (h : Hdr) (sl : List Slot) (g : Group) (op : CollOp), s.Admits p (.collRes p h sl) → h.dst = s.ownFeid →
    let gid := bits h.arg.toNat 11 0
    s.enabled .coll = true → s.group gid = some g → g.parent = p.val → g.op = some op → h.tag.toNat = g.next →
    BitVec.ofNat 8 (bits h.arg.toNat 19 12) = stAborted →
    ∃ t, Ends (.collRes p h sl) s t ∧ t.group gid = some { g with op := none, next := (g.next + 1) % 2 ^ 16 } ∧ t.pool = s.pool) ∧
  (∀ f : Feid, s.Admits p (.ydFence p f) → s.home.txns = [] → s.home.blocked = [] → s.map.held = [] → s.map.ho = [] →
    (s.port p.val).held = [] → s.pub.regions = [] → s.pub.listWait = [] → (∀ e ∈ s.rc, e.dups = []) →
    (∀ q ∈ s.ports, q.2.egress = [] ∧ q.2.replay = []) → Ends (.ydFence p f) s s) ∧
  (∀ f : Feid, s.Admits p (.ydFence p f) → s.fenceClear p.val f = true → Ends (.ydFence p f) s s) ∧
  (∀ f : Feid, s.Admits p (.ydFence p f) → s.fenceClear p.val f = false →
    ∃ t, Ends (.ydFence p f) s t ∧ t = { s with ports := t.ports } ∧ t.fencing p.val f = true)

/-! ### Cores, procedures, descriptors (spec 08, 09, 10) -/

/-- Core c runs procedure p of context x; its next cycle is no injected failure, and it saves nothing. -/
def Running (s : State) (c : CoreId) (x : CtxId) (p : Proc) : Prop :=
  s.procOn c.val = some (x.val, p) ∧ p.phase = .running c.val ∧ s.flag CORE_INJ_ARMED c.val = false ∧ s.procs.saving.contains c.val = false

/-- What work on procedure id of context x leaves unchanged: every other procedure, memory, ports, directory, transactions, map, keys,
regions, groups, liveness, power, flash and outputs. -/
def OnlyProc (s t : State) (x id : Nat) : Prop :=
  (∀ y, y ≠ x → t.procsOf y = s.procsOf y) ∧ (∀ i, i ≠ id → t.proc x i = s.proc x i) ∧ t.pool = s.pool ∧ t.ports = s.ports ∧
    t.home.dir = s.home.dir ∧ t.home.txns = s.home.txns ∧ t.map = s.map ∧ t.sec = s.sec ∧ t.pub = s.pub ∧ t.coll = s.coll ∧
    t.live = s.live ∧ t.power = s.power ∧ t.fw = s.fw ∧ t.out = s.out

/-- Procedure p, which ran on core c, has ended at its descriptor with a status: its staged writes are gone and the core is free. -/
def EndedWith (s t : State) (c : CoreId) (x : CtxId) (p : Proc) (st : Byte) (idx : Nat) : Prop :=
  OnlyProc s t x.val p.id ∧ t.procOn c.val = none ∧ t.flag CORE_STAT_RUNNING c.val = false ∧
    ∃ q, t.proc x.val p.id = some q ∧ q.phase = .ending ∧ q.status = st ∧ q.idx = idx ∧ q.staged = [] ∧ q.hasLog = false

/-- The home delivers n bytes of pool memory at a to a procedure at once, without error: its context may read them, their extents are
served here, no cache holds their lines and they are in T1, without a stored error. -/
def Delivers (s : State) (x : CtxId) (p : Proc) (a n : Nat) : Prop :=
  0 < n ∧ a + n ≤ 2 ^ 48 ∧ s.home.txns = [] ∧ ∀ l, a / 64 ≤ l → 64 * l < a + n →
    let b := s.bank p.epoch
    b.ctxMay (s.ctxTenant x.val) (b.extent (l / 2 ^ 24)) = true ∧ s.extentCase p.epoch (l / 2 ^ 24) = .go ∧ s.dirAt l = none ∧
      (Tbl.get? s.tier.t1 (l / 1024)).isSome = true ∧ Tbl.get? s.pool.ue l = none ∧ (s.readPool b (64 * l)).poison = false ∧
      (s.readPool b (64 * l)).overrun = false ∧ (s.readPool b (64 * l)).underrun = false

/-- The n bytes of pool memory at a, as a procedure reads them. -/
def procBytes (s : State) (p : Proc) (a n : Nat) : List Byte :=
  (List.range n).map (fun i => byteOf (s.readPool (s.bank p.epoch) ((a + i) / 64 * 64)).data.toNat ((a + i) % 64))

/-- A procedure may write n bytes of pool memory at a. -/
def MayPut (s : State) (x : CtxId) (p : Proc) (a n : Nat) : Prop :=
  let b := s.bank p.epoch
  0 < n ∧ a + n ≤ 2 ^ 48 ∧ b.ctxMay (s.ctxTenant x.val) (b.extent (a / 2 ^ 30)) = true ∧
    b.ctxMay (s.ctxTenant x.val) (b.extent ((a + n - 1) / 2 ^ 30)) = true

/-- Bytes staged at an address. -/
def stagedAt (a : Nat) (l : List Byte) : List StagedByte := (l.zipIdx).map (fun b => { addr := a + b.2, byte := b.1 })

/-- Result words, 0 where none is given. -/
def wordsOf (l : List Nat) : List Word := (List.range 4).map (fun i => BitVec.ofNat 32 ((l[i]?).getD 0))

/-- The context's only procedure is p, and the scheduler would place it on core c of slice i. -/
def Offered (s : State) (c : CoreId) (x : CtxId) (p : Proc) : Prop :=
  s.procs.procs = [(x.val, [p])] ∧ s.ctxState x.val = ctxReady ∧ s.rd CTX_QCTL_PAUSE x.val = 0 ∧ s.quiescing .ctx x.val = false ∧
    s.enabled .ctx x.val = true ∧ s.sliceOfCore c.val = some (s.rd CTX_BIND_SLICE x.val) ∧
    s.coreChosen (s.rd CTX_BIND_SLICE x.val) = some c.val

/-- R196, R197, R200, R201, R205, R206, R214, R217, R441: cores. A free core in C0 to C2 takes the next ready procedure of its slice,
resumes a saved one, replays one of a failed core; in C3 or C4 it takes none. A paused context starts none. At the end of a 200 µs run
a descriptor is saved where another context of the slice waits and no core is free, and its core is free when the save is done; in a
RETIRING context it ends CONTEXT_GONE. A failing core is fenced in the same cycle; its descriptor waits for its replay, the fourth
time it ends CORE_LOST. An armed core fails on its next descriptor cycle. An idle core goes down one power state when its dwell
expires, in C4 losing the tables of its disabled FILT, and comes up to C0. -/
def Obligations.CoresTakeWork : Prop := ∀ (s : State) (c : CoreId) (x : CtxId) (p : Proc),
  (∀ cmd ph, (cmd, ph) ∈ [(Instr.coreDispatch c, ProcPhase.ready), (.restoreDone c, .saved), (.replayStart c, .replay)] →
    p.phase = ph → Offered s c x p →
    (s.rd CORE_STAT_PSTATE c.val ≤ 2 → ∃ t, Ends cmd s t ∧ t = { s with regs := t.regs, procs := t.procs } ∧
      t.procOn c.val = some (x.val, { p with phase := .running c.val, epoch := if ph = .ready ∧ p.fetched = false then s.epoch else p.epoch }) ∧
      t.flag CORE_STAT_RUNNING c.val = true ∧ t.rd CORE_STAT_CTX c.val = x.val ∧ t.rd CORE_STAT_PSTATE c.val = 0) ∧
    (2 < s.rd CORE_STAT_PSTATE c.val → Ends cmd s s)) ∧
  (s.procs.procs = [(x.val, [p])] → p.phase = .ready → s.rd CTX_QCTL_PAUSE x.val ≠ 0 → Ends (.coreDispatch c) s s) ∧
  (∀ path b, s.Takes path ⟨.ctx, x.val⟩ → ∃ t, Ends (.ctxPause path x b) s t ∧ t = { s with regs := t.regs } ∧
    t.rd CTX_QCTL_PAUSE x.val = b2n b ∧ t.rd CTX_QCTL_PRIO_MAX x.val = s.rd CTX_QCTL_PRIO_MAX x.val) ∧
  (∀ i, s.procOn c.val = some (x.val, p) → s.ctxState x.val ≠ ctxRetiring → s.sliceOfCore c.val = some i →
    let waits := ((s.ctxsOf i).filter (· != x.val)).any (fun y =>
      (s.startable y ++ (s.procsOf y).filter (fun q => q.phase == .replay)).any (fun q => trPrio p.trig ≤ trPrio q.trig))
    (waits = true → (∀ d ∈ s.coresOf i, s.coreFree d = false) →
      ((s.procsOf x.val).filter (fun q => q.phase == .saved)).foldl (fun n q => n + q.saveBytes) 0 + p.saveBytes ≤ 2 ^ 23 →
      Ends (.preemptCheck c) s { s with procs := { s.procs with saving := setAdd s.procs.saving c.val } }) ∧
    (waits = false ∨ (∃ d ∈ s.coresOf i, s.coreFree d = true) → Ends (.preemptCheck c) s s)) ∧
  (Running s c x p → s.ctxState x.val = ctxRetiring → p.hasLog = false → p.issued = false → p.hostUsed = [] →
    ∃ t, Ends (.preemptCheck c) s t ∧ EndedWith s t c x p stContextGone p.idx) ∧
  (s.procOn c.val = some (x.val, p) → s.procs.saving = [c.val] →
    ∃ t, Ends (.preemptSaveDone c) s t ∧ OnlyProc s t x.val p.id ∧ t.proc x.val p.id = some { p with phase := .saved } ∧
      t.procOn c.val = none ∧ t.flag CORE_STAT_RUNNING c.val = false ∧ t.procs.saving = []) ∧
  (∀ cmd k, cmd = .coreFault c (BitVec.ofNat 4 k) ∧ 1 ≤ k ∧ k ≤ 4 ∨ cmd = .coreWatchdog c ∧ k = 4 →
    s.flag CORE_STAT_FENCED c.val = false → s.enabled .core c.val = true →
    let fenced : State → Prop := fun t => t.flag CORE_STAT_FENCED c.val = true ∧ t.rd CORE_FAULT_CAUSE c.val = k ∧
      t.flag CORE_FAULT_VALID c.val = true ∧ t.rd CORE_STAT_PSTATE c.val = 3 ∧ t.flag CORE_STAT_RUNNING c.val = false ∧
      t.enabled .filt c.val = false ∧ bit (t.pgErr ⟨.core, c.val⟩) 16 = true ∧
      t.tally .core 0x04 c.val = s.tally .core 0x04 c.val + 1 ∧ t.pool = s.pool ∧ t.ports = s.ports ∧ t.map = s.map
    (s.procOn c.val = none → s.procs.procs = [] → ∃ t, Ends cmd s t ∧ fenced t ∧ t.procs.procs = []) ∧
    (Running s c x p → s.procs.procs = [(x.val, [p])] → s.ctxState x.val = ctxReady → p.hostUsed = [] →
      (∃ d ∈ s.coresOf (s.rd CTX_BIND_SLICE x.val), d ≠ c.val ∧ s.coreUsable d = true) →
      (p.replays < 3 → p.hasLog = false → ∃ t q, Ends cmd s t ∧ fenced t ∧ t.procOn c.val = none ∧ t.proc x.val p.id = some q ∧
        q.phase = .replay ∧ q.replays = p.replays + 1 ∧ q.fetched = false ∧ q.staged = [] ∧ q.idx = p.idx ∧ q.trig = p.trig) ∧
      (p.replays < 3 → p.hasLog = true → ∃ t q, Ends cmd s t ∧ fenced t ∧ t.proc x.val p.id = some q ∧ q.phase = .replay ∧
        q.log = p.log ∧ q.hasLog = true ∧ q.ran = p.ran ∧ q.idx = p.idx) ∧
      (3 ≤ p.replays → ∃ t q, Ends cmd s t ∧ fenced t ∧ t.proc x.val p.id = some q ∧ q.phase = .ending ∧ q.status = stCoreLost))) ∧
  (∀ path (k : BitVec 2), s.Takes path ⟨.core, c.val⟩ →
    (k ≠ 0 → s.flag CORE_STAT_FENCED c.val = false → ∃ t, Ends (.coreInjArm path c k) s t ∧ t = { s with regs := t.regs } ∧
      t.flag CORE_INJ_ARMED c.val = true ∧ t.rd CORE_INJ_CAUSE c.val = k.toNat) ∧
    (k = 0 ∨ s.flag CORE_STAT_FENCED c.val = true →
      ∃ t, Ends (.coreInjArm path c k) s t ∧ bit (t.pgErr ⟨.core, c.val⟩) 1 = true ∧ t.flag CORE_INJ_ARMED c.val = s.flag CORE_INJ_ARMED c.val)) ∧
  (s.procOn c.val = some (x.val, p) → p.fetched = false → s.procs.saving.contains c.val = false → s.flag CORE_INJ_ARMED c.val = true →
    s.rd CORE_INJ_CAUSE c.val ≠ 0 → s.flag CORE_STAT_FENCED c.val = false → s.enabled .core c.val = true →
    ∃ t, Ends (.descFetchDone c) s t ∧ t.flag CORE_STAT_FENCED c.val = true ∧ t.flag CORE_FAULT_VALID c.val = true ∧
      t.rd CORE_FAULT_CAUSE c.val = s.rd CORE_INJ_CAUSE c.val ∧ t.flag CORE_INJ_ARMED c.val = false ∧ t.pool = s.pool) ∧
  (let ps := s.rd CORE_STAT_PSTATE c.val
   let dwell := s.rd (match ps with | 0 => CORE_PWR_DWELL_C1 | 1 => CORE_PWR_DWELL_C2 | 2 => CORE_PWR_DWELL_C3 | _ => CORE_PWR_DWELL_C4) c.val
   (s.coreIdle c.val = true → s.flag CORE_STAT_FENCED c.val = false → ps < 4 → dwell ≠ 0 → ps ≠ 3 ∨ s.enabled .filt c.val = false →
      Ends (.pstateDwell c) s ((if ps = 3 then s.enterC4 c.val else s).set CORE_STAT_PSTATE (ps + 1) c.val)) ∧
   (s.coreIdle c.val = false ∨ s.flag CORE_STAT_FENCED c.val = true ∨ 4 ≤ ps ∨ dwell = 0 ∨ ps = 3 ∧ s.enabled .filt c.val = true →
      Ends (.pstateDwell c) s s)) ∧
  (s.coreUsable c.val = true → s.rd CORE_STAT_PSTATE c.val ≠ 0 → Ends (.pstateExitDone c) s (s.set CORE_STAT_PSTATE 0 c.val))

/-- The home takes a write of pool line a at once: nothing runs there, no handed-over line waits, no cache and no replica holds it, its
page is in T1 and has been written, and it holds what memory does. -/
def TakesWrite (s : State) (epoch a : Nat) : Prop :=
  s.home.txns = [] ∧ s.home.adopt = [] ∧ s.dirAt (a / 64) = none ∧ Tbl.get s.home.repl.peers (a / 4096) [] = [] ∧ Tbl.get s.home.repl.invWait (a / 4096) [] = [] ∧
    (Tbl.get? s.tier.t1 (pageNo a)).isSome = true ∧ s.extentCase epoch (a / 2 ^ 30) = .go ∧
    (s.paged ((s.bank epoch).extent (a / 2 ^ 30)) = true → (s.pageEnt (pageNo a)).tier ≠ .zero) ∧
    exCmpr ((s.bank epoch).extent (a / 2 ^ 30)) = false ∧ s.isSealed (a / 2 ^ 30) = false ∧ Tbl.get? s.pool.ue (a / 64) = none ∧
    (s.readPool (s.bank epoch) (a / 64 * 64)).data = Memory.readLine s.pool.cur.bytes (a / 64 * 64) ∧
    (s.readPool (s.bank epoch) (a / 64 * 64)).poison = false

/-- Memory has taken the bytes l at a, and is unchanged elsewhere. -/
def TookBytes (s t : State) (a : Nat) (l : List Byte) : Prop :=
  t.pool.tray = s.pool.tray ∧ ∀ x, Memory.read t.pool.cur.bytes x =
    if a ≤ x ∧ x < a + l.length then (l[x - a]?).getD 0 else Memory.read s.pool.cur.bytes x

/-- Procedure p goes on after its descriptor has committed: to the next one, its core free. -/
def GoesOn (t : State) (c : CoreId) (x : CtxId) (p : Proc) : Prop :=
  t.procOn c.val = none ∧ t.flag CORE_STAT_RUNNING c.val = false ∧ ∃ q, t.proc x.val p.id = some q ∧ q.phase = .ready ∧ q.idx = p.idx + 1 ∧
    q.fetched = false ∧ q.staged = [] ∧ q.hasLog = false ∧ q.trig = p.trig ∧ q.res = if dRes p.desc then p.dres else p.res

/-- R194, R198, R199, R215, R218 to R221, R225, R231, R250 to R254: the life of a procedure. The descriptor line is read and checked:
it starts, or the procedure ends BAD_DESCRIPTOR. NOP, FENCE without writes to wait for, and STEP have run at once; WAIT has run where
its condition holds and parks where it does not; SIGNAL leaves one 64-bit atomic in the log. A descriptor commits once its staged
bytes are in memory; the procedure goes on to the next one or, after the last, ends. A log's atomic is carried out once. A write to a
parked counter makes the WAIT ready if its condition holds; LIMIT_US ends it TIMEOUT, and 4 ms without an answer a remote read. An
ended procedure's record goes to its completion address; after it CNT_VAL is added to the counter. -/
def Obligations.ProceduresComplete : Prop := ∀ (s : State) (c : CoreId) (x : CtxId) (p : Proc),
  (Running s c x p → p.fetched = false → p.hostUsed = [] → Delivers s x p p.descAddr 64 →
    let d := ofBytes (procBytes s p p.descAddr 64)
    let bad := descBad { s.envOf x.val p c.val with mark := false } d || decide (2 ^ 22 < declared d)
    (bad = false → ∃ t q, Ends (.descFetchDone c) s t ∧ OnlyProc s t x.val p.id ∧ t.proc x.val p.id = some q ∧ q.fetched = true ∧
      q.desc = d ∧ q.ran = false ∧ q.phase = p.phase ∧ q.idx = p.idx ∧ q.staged = p.staged) ∧
    (bad = true → ∃ t, Ends (.descFetchDone c) s t ∧ EndedWith s t c x p stBadDescriptor p.idx)) ∧
  (Running s c x p → p.fetched = true → p.ran = false →
    let ran : State → List Word → Prop := fun t l => OnlyProc s t x.val p.id ∧ ∃ q, t.proc x.val p.id = some q ∧ q.ran = true ∧ q.dres = l ∧
      q.staged = [] ∧ q.hasLog = false ∧ q.phase = p.phase ∧ q.idx = p.idx
    (dOpc p.desc = 0x1F → ∃ t, Ends (.nop c) s t ∧
      ran t (wordsOf [bits p.desc 63 32, bits p.desc 95 64, bits p.desc 127 96, bits p.desc 159 128])) ∧
    (dOpc p.desc = 0x13 → ∃ t, Ends (.step c) s t ∧ ran t (wordsOf [])) ∧
    (dOpc p.desc = 0x10 → s.writesPending x.val p = false → p.hostPorts = [] → ∃ t, Ends (.fence c) s t ∧ ran t (wordsOf [])) ∧
    (dOpc p.desc = 0x10 → s.writesPending x.val p = true → p.hostPorts = [] →
      ∃ t, Ends (.fence c) s t ∧ OnlyProc s t x.val p.id ∧ t.proc x.val p.id = some p) ∧
    (dOpc p.desc = 0x12 → bits p.desc 161 160 ≠ 3 → Delivers s x p (bits p.desc 95 32) 8 →
      let v := ofBytes (procBytes s p (bits p.desc 95 32) 8)
      let holds := match bits p.desc 161 160 with | 0 => decide (bits p.desc 159 96 ≤ v) | 1 => v == bits p.desc 159 96 | _ => v != bits p.desc 159 96
      (holds = true → ∃ t, Ends (.wait c) s t ∧ ran t (wordsOf [v % 2 ^ 32, v / 2 ^ 32])) ∧
      (holds = false → ∃ t q, Ends (.wait c) s t ∧ OnlyProc s t x.val p.id ∧ t.proc x.val p.id = some q ∧ q.phase = .parked ∧
        q.ran = false ∧ t.procOn c.val = none ∧ t.flag CORE_STAT_RUNNING c.val = false)) ∧
    (dOpc p.desc = 0x11 → bits p.desc 95 32 < 2 ^ 48 → bits p.desc 161 160 ≠ 3 → MayPut s x p (bits p.desc 95 32) 8 →
      ∃ t q l, Ends (.signal c) s t ∧ OnlyProc s t x.val p.id ∧ t.proc x.val p.id = some q ∧ q.ran = true ∧ q.hasLog = true ∧ q.log = [l] ∧
        l.addr = bits p.desc 95 32 ∧ l.op = (match bits p.desc 161 160 with | 0 => 0 | 1 => 6 | _ => 2) ∧ l.ty = 1 ∧
        ofBytes l.bytes = bits p.desc 159 96 ∧ l.done = false)) ∧
  (Running s c x p → p.ran = true → p.hasLog = false → p.replays ≤ 3 → p.wrWait = 0 → p.wrBad = 0 → p.status = stOk → p.hostUsed = [] →
    s.peerPending p = false → dOpc p.desc ≠ 0x13 → s.ctxState x.val = ctxReady →
    (p.staged = [] →
      (p.idx + 1 < trLen p.trig → ∃ t, Ends (.descCommit c) s t ∧ OnlyProc s t x.val p.id ∧ GoesOn t c x p ∧
        t.tally .core 0x01 c.val = s.tally .core 0x01 c.val + 1) ∧
      (p.idx + 1 = trLen p.trig → ∃ t, Ends (.descCommit c) s t ∧
        EndedWith s t c x p (if p.poisoned then stPoisoned else stOk) p.idx)) ∧
    (∀ a l, p.staged = stagedAt a l → l ≠ [] → a < 2 ^ 48 → a % 64 + l.length ≤ 64 → TakesWrite s p.epoch a → p.idx + 1 < trLen p.trig →
      ∃ t, Ends (.descCommit c) s t ∧ TookBytes s t a l ∧ GoesOn t c x p ∧ t.home.txns = [] ∧ t.dirAt (a / 64) = none ∧ t.ports = s.ports)) ∧
  (∀ l v, Running s c x p → p.ran = true → p.hasLog = true → p.issued = false → p.logDone = false → p.log = [l] → dOpc p.desc = 0x11 →
    l.done = false → l.op = 0 → l.ty = 1 → l.mark = false → l.addr % 8 = 0 → l.addr < 2 ^ 48 → ofBytes l.bytes = v → l.bytes.length = 16 →
    TakesWrite s p.epoch l.addr →
    let old := ofBytes (procBytes s p l.addr 8)
    ∃ t q m, Ends (.descCommit c) s t ∧ TookBytes s t l.addr (bytesOf 8 (old + v)) ∧ t.proc x.val p.id = some q ∧ q.issued = true ∧
      q.log = [m] ∧ m.done = true ∧ m.status = stOk ∧ ofBytes m.old = old ∧ t.home.txns = []) ∧
  (∀ l, Running s c x p → p.ran = true → p.hasLog = true → p.logDone = false → p.issued = true → p.log = [l] → dOpc p.desc = 0x11 → l.done = true →
    l.status = stOk → p.poisoned = false → p.idx + 1 < trLen p.trig → s.ctxState x.val = ctxReady →
    ∃ t, Ends (.descCommit c) s t ∧ OnlyProc s t x.val p.id ∧
      GoesOn t c x { p with dres := wordsOf [ofBytes l.old % 2 ^ 32, ofBytes l.old / 2 ^ 32 % 2 ^ 32] }) ∧
  (s.proc x.val p.id = some p → p.phase = .parked → Delivers s x p (bits p.desc 95 32) 8 →
    let v := ofBytes (procBytes s p (bits p.desc 95 32) 8)
    (waitHolds p.desc v = true →
      ∃ t, Ends (.waitRecheck x p.id) s t ∧ OnlyProc s t x.val p.id ∧ t.proc x.val p.id = some { p with phase := .ready }) ∧
    (waitHolds p.desc v = false → Ends (.waitRecheck x p.id) s s)) ∧
  (s.proc x.val p.id = some p → p.phase = .parked → p.fetched = true → p.ran = false → dOpc p.desc = 0x12 → p.hostUsed = [] →
    (bits p.desc 185 162 ≠ 0 → ∃ t q, Ends (.waitLimit x p.id) s t ∧ OnlyProc s t x.val p.id ∧ t.proc x.val p.id = some q ∧
      q.phase = .ending ∧ q.status = stTimeout) ∧
    (bits p.desc 185 162 = 0 → Ends (.waitLimit x p.id) s s)) ∧
  (Running s c x p → p.hostUsed = [] → p.remote.any (fun r => r.res.isNone) = true →
    ∃ t, Ends (.remoteAccessTimeout c) s t ∧ EndedWith s t c x p stTimeout p.idx) ∧
  (Running s c x p → p.remote = [] → p.rdPorts = [] → p.ran = true → p.staged = [] → Ends (.remoteAccessTimeout c) s s) ∧
  (s.proc x.val p.id = some p → p.phase = .ending → s.writesPending x.val p = false →
    let a := trCpl p.trig
    let recd := recordOf x.val p.status.toNat p.flags p.idx (trSeq p.trig) (p.res.map (fun (w : Word) => w.toNat))
    (a < 2 ^ 48 → a % 32 = 0 → s.recordMay x.val a = true → TakesWrite s s.epoch a → recd < 2 ^ 256 →
      ∃ t, Ends (.completionRecord x p.id) s t ∧ TookBytes s t a (bytesOf 32 recd) ∧ t.home.txns = [] ∧ t.ports = s.ports ∧
        t.tally .ctx 0x04 x.val = s.tally .ctx 0x04 x.val + 1 ∧
        (trCntEn p.trig = false → t.proc x.val p.id = none) ∧
        (trCntEn p.trig = true → trCntMode p.trig = false → t.proc x.val p.id = some { p with phase := .recorded })) ∧
    (s.recordMay x.val a = false →
      ∃ t, Ends (.completionRecord x p.id) s t ∧ t.pool = s.pool ∧ t.ports = s.ports ∧ t.proc x.val p.id = none ∧
        t.tally .ctx 0x05 x.val = s.tally .ctx 0x05 x.val + 1)) ∧
  (s.proc x.val p.id = some p → p.phase = .recorded → s.recordPending x.val p.id = false → trCntEn p.trig = true → trCntMode p.trig = false →
    let a := trCntAddr p.trig
    let old := ofBytes (procBytes s { p with epoch := s.epoch } a 8)
    a < 2 ^ 48 → a % 8 = 0 → s.recordMay x.val a = true → TakesWrite s s.epoch a →
    ∃ t, Ends (.counterIncrement x p.id) s t ∧ TookBytes s t a (bytesOf 8 (old + trCntVal p.trig)) ∧ t.home.txns = [] ∧
      t.proc x.val p.id = none ∧ t.ports = s.ports)

/-- R223, R230, R232, R238 to R249: the engine operations. On a core that runs a fetched descriptor of its opcode, a run over its
inputs that succeeds leaves its outputs staged in order, its commit log, and its result words; one that fails ends the procedure with
its status and discards everything. Memory is unchanged: outputs reach it at the commit. While the 600 W guard holds, none starts. -/
def Obligations.EnginesRun : Prop := ∀ (s : State) (c : CoreId) (x : CtxId) (p : Proc) (cmd : Instr) (k : Nat),
  (cmd, k) ∈ [(Instr.gather c, 0x01), (.scatter c, 0x02), (.copy c, 0x03), (.filter c, 0x04), (.score c, 0x05), (.topk c, 0x06),
    (.attnPartial c, 0x07), (.merge c, 0x08), (.reduceLocal c, 0x09), (.moeDispatch c, 0x0A), (.moeCombine c, 0x0B),
    (.compress c, 0x0C), (.expand c, 0x0D), (.atomicBatch c, 0x0E)] →
  (s.enginesIssue = false → Ends cmd s s) ∧
  (s.enginesIssue = true → Running s c x p → p.fetched = true → p.ran = false → dOpc p.desc = k →
    let e := s.envOf x.val p c.val
    (∀ r a, (runDesc e p.desc).go s = (.ok r, a) → r.park = false → (∀ l ∈ a.lines, Tbl.get? s.pool.ue l = none) →
      (∀ o ∈ r.outs, e.mayWrite o.1 o.2.length = true) → (∀ l ∈ r.log, e.mayWrite l.addr 1 = true) →
      (k = 0x0E → bits p.desc 159 96 = 0 ∨ e.mayWrite (bits p.desc 159 96) (16 * r.log.length) = true) →
      ∃ t q, Ends cmd s t ∧ OnlyProc s t x.val p.id ∧ t.proc x.val p.id = some q ∧ q.ran = true ∧ q.phase = p.phase ∧ q.idx = p.idx ∧
        q.staged = (r.outs.map (fun o => (o.2.zipIdx).map (fun b => { addr := o.1 + b.2, byte := b.1.1, poison := b.1.2 }))).flatten ∧
        q.log = r.log ∧ q.hasLog = !r.log.isEmpty ∧ q.dres = (if a.dep then wordsOf [] else wordsOf r.res)) ∧
    (∀ st a, (runDesc e p.desc).go s = (.error (.fail st), a) → p.hostUsed = [] → (∀ l ∈ a.lines, Tbl.get? s.pool.ue l = none) →
      ∃ t, Ends cmd s t ∧ EndedWith s t c x p st p.idx))

/-- Bytes without a mark. -/
def clean (l : List Byte) : List PByte := l.map (fun b => (b, false))

/-- R189: a row copied as it is: in an MX row padding and the unused tail are zero. -/
def copiedRow (ty n : Nat) (l : List Byte) : List Byte := (cleanRow ty n (clean l)).map (·.1)

/-- R233, R238, R239, R242, R245: what five engine operations compute on memory the home delivers without error. COPY stages the LEN
bytes of its source. GATHER without conversion stages the row of each index, and zeros for a hole, and counts the holes. SCATTER of
MODE 0 stages each row at the place of its index. TOPK of FORM 0 stages the K best of the candidates that qualify, in rank order, then
fillers. REDUCE_LOCAL of INT32 folds its sources in ascending order. -/
def Obligations.EngineValues : Prop := ∀ (s : State) (c : CoreId) (x : CtxId) (p : Proc),
  s.enginesIssue = true → Running s c x p → p.fetched = true → p.ran = false →
  let d := p.desc
  let num : Nat → Nat → Nat := fun a n => ofBytes (procBytes s p a n)
  let gives : Instr → List StagedByte → List Nat → Prop := fun cmd l r =>
    ∃ t q, Ends cmd s t ∧ OnlyProc s t x.val p.id ∧ t.proc x.val p.id = some q ∧ q.ran = true ∧ q.staged = l ∧ q.hasLog = false ∧
      q.dres = wordsOf r
  let isize := if bits d 380 377 = 0xC ∨ bit d 391 = true then 8 else 4
  (dOpc d = 0x03 → Delivers s x p (bits d 95 32) (bits d 182 160) → MayPut s x p (bits d 159 96) (bits d 182 160) →
    gives (.copy c) (stagedAt (bits d 159 96) (procBytes s p (bits d 95 32) (bits d 182 160))) []) ∧
  (dOpc d = 0x01 → bits d 390 389 = 0 → bits d 384 381 = bits d 388 385 →
    rowBytes (bits d 388 385) (rowElems (bits d 384 381) (bits d 376 360)) = bits d 376 360 →
    let n := bits d 359 336
    let rows := bits d 376 360
    let raw : Nat → Nat := fun i => num (bits d 95 32 + isize * i) (if bits d 380 377 = 0xC then 8 else 4)
    let hole : Nat → Bool := fun i => raw i == 2 ^ (if bits d 380 377 = 0xC then 64 else 32) - 1
    let place : Nat → Int := fun i => (bits d 159 96 : Int) +
      (if bits d 380 377 = 0xA then signedOf 32 (raw i) else (raw i : Int)) * (bits d 335 288 : Int)
    Delivers s x p (bits d 95 32) (isize * n) → MayPut s x p (bits d 223 160) (rows * n) →
    (∀ i < n, hole i = false → 0 ≤ place i ∧ Delivers s x p (place i).toNat rows) → bits d 159 96 < 2 ^ 48 →
    gives (.gather c)
      (stagedAt (bits d 223 160) ((List.range n).flatMap (fun i =>
        if hole i then List.replicate rows 0
        else copiedRow (bits d 384 381) (rowElems (bits d 384 381) rows) (procBytes s p (place i).toNat rows))))
      [((List.range n).filter hole).length]) ∧
  (dOpc d = 0x02 → bits d 322 321 = 0 →
    let n := bits d 295 272
    let rows := bits d 312 296
    let size := if bits d 316 313 = 0xC then 8 else 4
    let raw : Nat → Nat := fun i => num (bits d 95 32 + size * i) size
    let hole : Nat → Bool := fun i => raw i == 2 ^ (8 * size) - 1
    let place : Nat → Int := fun i => (bits d 223 160 : Int) +
      (if bits d 316 313 = 0xA then signedOf 32 (raw i) else (raw i : Int)) * (bits d 271 224 : Int)
    Delivers s x p (bits d 95 32) (size * n) → Delivers s x p (bits d 159 96) (rows * n) →
    (∀ i < n, hole i = false → 0 ≤ place i ∧ MayPut s x p (place i).toNat rows) → bits d 223 160 < 2 ^ 48 →
    gives (.scatter c)
      (((List.range n).filter (fun i => !hole i)).flatMap (fun i =>
        stagedAt (place i).toNat (copiedRow (bits d 320 317) (rowElems (bits d 320 317) rows) (procBytes s p (bits d 159 96 + rows * i) rows))))
      []) ∧
  (dOpc d = 0x06 → bits d 260 259 = 0 → bit d 262 = false →
    let n := bits d 247 224
    let k := bits d 258 248
    let small := bit d 261
    let cand : Nat → Nat × Nat × Nat := fun i => ((bits d 327 296 + i) % 2 ^ 32, num (bits d 95 32 + 4 * i) 4, i)
    let good := ((List.range n).map cand).filter (fun q => !isNan32 q.2.1 && q.1 != 0xFFFFFFFF)
    let best := (rankBy (topkBefore small) good.length good).take k
    let out := best ++ List.replicate (k - best.length) (0xFFFFFFFF, if small then 0x7F800000 else 0xFF800000, 0)
    let top := (out.head?).getD (0, 0, 0)
    Delivers s x p (bits d 95 32) (4 * n) → MayPut s x p (bits d 223 160) (8 * k) →
    gives (.topk c) (stagedAt (bits d 223 160) (out.flatMap (fun q => bytesOf 8 (q.1 + q.2.1 * 2 ^ 32))))
      [best.length, min good.length (2 ^ 32 - 1), top.1, top.2.1]) ∧
  (dOpc d = 0x09 → bits d 243 240 = 0xA → bits d 247 244 = 0xA →
    let n := bits d 239 216
    let src : Nat → Nat → Nat := fun j i => num (bits d 95 32 + bits d 207 160 * j + 4 * i) 4
    let fold : Nat → Nat := fun i =>
      (List.range (bits d 215 208)).foldl (fun v j => redInt (bits d 249 248) v (src (j + 1) i)) (src 0 i)
    (∀ j ≤ bits d 215 208, Delivers s x p (bits d 95 32 + bits d 207 160 * j) (4 * n)) → MayPut s x p (bits d 159 96) (4 * n) →
    gives (.reduceLocal c) (stagedAt (bits d 159 96) ((List.range n).flatMap (fun i => bytesOf 4 (fold i)))) [])

/-- The size-map entry i of an EXPAND: a nibble of the map at SMAP_ADDR. -/
def mapEntry (s : State) (p : Proc) (i : Nat) : Nat :=
  bits (ofBytes (procBytes s p (bits p.desc 223 160 + i / 2) 1)) (4 * (i % 2) + 3) (4 * (i % 2))

/-- R248: what COMPRESS makes of block i of its input: the entry and the coded lines. -/
def codedBlock (s : State) (p : Proc) (i : Nat) : Nat × List Byte :=
  let off := dOenc p.desc
  aiskoCompress
    { exp := s.flag CMPR_CTL_ENC_EXP && !bit off 0
      bd := s.flag CMPR_CTL_ENC_BD && !bit off 1
      sparse := s.flag CMPR_CTL_ENC_SPARSE && !bit off 2
      mxp := if s.flag CMPR_CTL_ENC_MXP && !bit off 3 && bit p.desc 249 then some (bits p.desc 253 250) else none }
    (ofBytes (procBytes s p (bits p.desc 95 32 + 256 * i) 256))

/-- Where the lines of block i lie: at 256 × i, or packed one after another. -/
def blockPlace (pack : Bool) (lines : Nat → Nat) (i : Nat) : Nat := if pack then 64 * ((List.range i).map lines).sum else 256 * i

/-- R248: the bytes EXPAND makes of block i. -/
def expandedBlock (s : State) (p : Proc) (i : Nat) : List Byte :=
  let n := mapEntry s p i
  let src := bits p.desc 95 32 + blockPlace (bit p.desc 248) (fun j => min 4 (mapEntry s p j)) i
  if 4 ≤ n then procBytes s p src 256 else bytesOf 256 (aiskoExpand n (ofBytes (procBytes s p src (64 * n)))).block

/-- R249: entry i of an ATOMIC_BATCH. -/
def batchOp (s : State) (p : Proc) (i : Nat) : LogEntry :=
  let v := ofBytes (procBytes s p (bits p.desc 95 32 + 48 * i) 48)
  { addr := bits v 63 0, op := bits v 67 64, ty := bits v 69 68, signed := bit v 70, mark := false
    bytes := bytesOf 16 (bits v 255 128), swap := bytesOf 16 (bits v 383 256) }

/-- R241: the score of query row i against candidate j. -/
def scoreAt (s : State) (p : Proc) (i j : Nat) : Nat :=
  let d := p.desc
  let qt := bits d 380 377
  let kt := bits d 384 381
  let dim := bits d 372 360
  let x := if bits d 223 160 = 0 then j else ofBytes (procBytes s p (bits d 223 160 + 4 * j) 4)
  let q := rowElemsOf qt dim (clean (procBytes s p (bits d 95 32 + rowBytes qt dim * i) (rowBytes qt dim)))
  let k := rowElemsOf kt dim (clean (procBytes s p (bits d 159 96 + x * bits d 335 288) (rowBytes kt dim)))
  if bits d 223 160 ≠ 0 ∧ x = 2 ^ 32 - 1 then nan32 else scoreOf (bits d 386 385) (dotRows qt kt q k) (dotRows qt qt q q) (dotRows kt kt k k)

/-- R240, R280 to R282: what FILTER writes for record i: index and DATA of the winner of the serving unit's entries. -/
def foundAt (s : State) (unit : Nat) (p : Proc) (i : Nat) : Nat :=
  let d := p.desc
  let r := procBytes s p (bits d 95 32 + bits d 190 184 * i) (bits d 190 184)
  match rankHits (s.camHits [unit] (ofBytes ((r.drop (bits d 196 191)).take (bits d 201 197)))) with
  | [] => 0xFFFFFFFF
  | h :: _ => (s.matchOf h).index + (s.matchOf h).data.toNat * 2 ^ 32

/-- R243: key and value rows of block b of an ATTN_PARTIAL, from the two addresses of its list entry. -/
def attnRowsAt (s : State) (p : Proc) (b half : Nat) : List (List Elem) :=
  let d := p.desc
  let kt := bits d 318 315
  let dim := bits d 306 298
  let a := ofBytes (procBytes s p (bits d 159 96 + 16 * b + 8 * half) 8)
  (List.range (if b + 1 = bits d 271 256 then bits d 297 285 else bits d 284 272)).map (fun t =>
    rowElemsOf kt dim (clean (procBytes s p (a + bits d 335 320 * t) (rowBytes kt dim))))

/-- R244: partial j of query row i of a MERGE. -/
def partialAt (s : State) (p : Proc) (i j : Nat) : Partial :=
  let dim := bits p.desc 222 214
  let recd := 4 * dim + 8
  let stride := if bits p.desc 207 160 = 0 then (bits p.desc 226 223 + 1) * recd else bits p.desc 207 160
  partialOf dim ((List.range (dim + 2)).map (fun w => ofBytes (procBytes s p (bits p.desc 95 32 + stride * j + recd * i + 4 * w) 4)))

/-- R246: every choice of a MOE_DISPATCH in order: its token, expert and weight. -/
def moeChoices (s : State) (p : Proc) : List (Nat × Nat × Nat) :=
  let n := bits p.desc 407 400 + 1
  (List.range (bits p.desc 399 384)).flatMap (fun t =>
    (moeChoose p.desc ((List.range n).map (fun e => ofBytes (procBytes s p (bits p.desc 95 32 + 4 * (n * t + e)) 4)))).map
      (fun q => (t, q.1, q.2)))

/-- R246: an expert's buffer. -/
def moeBuffer (s : State) (p : Proc) (e : Nat) : Nat := ofBytes (procBytes s p (bits p.desc 223 160 + 16 * e) 8)

/-- R246: the rows an expert has room for. -/
def moeRoom (s : State) (p : Proc) (e : Nat) : Nat := bits (ofBytes (procBytes s p (bits p.desc 223 160 + 16 * e + 8) 8)) 23 0

/-- R246: the slot choice j would take: the earlier choices of its expert. -/
def moeSlot (s : State) (p : Proc) (j : Nat) : Nat :=
  let e := (((moeChoices s p)[j]?).getD (0, 0, 0)).2.1
  (((moeChoices s p).take j).filter (fun q => q.2.1 == e)).length

/-- R247: one output row of a MOE_COMBINE. -/
def combinedRow (s : State) (p : Proc) (t : Nat) : List Byte :=
  let d := p.desc
  let rt := bits d 327 324
  let ot := bits d 331 328
  let k := bits d 306 304 + 1
  let n := bits d 323 307
  let row (ty a : Nat) : List Nat := (rowElemsOf ty n (clean (procBytes s p a (rowBytes ty n)))).map (fun y => (y.f32 ty).1)
  let start := if bits d 287 224 = 0 then List.replicate n 0 else row ot (bits d 287 224 + rowBytes ot n * t)
  let sums := (List.range k).foldl
    (fun acc j =>
      let w := ofBytes (procBytes s p (bits d 95 32 + 8 * (k * t + j)) 8)
      if bits w 31 8 = 0xFFFFFF then acc
      else (acc.zip (row rt (ofBytes (procBytes s p (bits d 159 96 + 16 * bits w 7 0) 8) + rowBytes rt n * bits w 31 8))).map
        (fun y => fFma (bits w 63 32) y.2 y.1))
    start
  (storeRow ot (sums.map (fun v => (v, false)))).map (·.1)

/-- R240, R241, R243, R244, R246 to R249: what the other engine operations compute on memory the home delivers without error, FILTER
in its BEST mode on the tables of one unit. -/
def Obligations.EnginesComplete : Prop := ∀ (s : State) (c : CoreId) (x : CtxId) (p : Proc),
  s.enginesIssue = true → Running s c x p → p.fetched = true → p.ran = false →
  let d := p.desc
  let num : Nat → Nat → Nat := fun a n => ofBytes (procBytes s p a n)
  let ran : Instr → List StagedByte → List LogEntry → List Nat → Prop := fun cmd l g r =>
    ∃ t q, Ends cmd s t ∧ OnlyProc s t x.val p.id ∧ t.proc x.val p.id = some q ∧ q.ran = true ∧ q.staged = l ∧ q.log = g ∧
      q.hasLog = !g.isEmpty ∧ q.dres = wordsOf r
  (dOpc d = 0x04 → bits d 203 202 = 0 → bit d 212 = false →
    let unit := if bits d 211 204 = 0xFF then c.val else bits d 211 204
    let n := bits d 183 160
    bit (slCores ((s.bank p.epoch).slice (s.rd CTX_BIND_SLICE x.val))) unit = true → s.unitsUp [unit] = true →
    (∀ e ∈ s.filt.cam, Tbl.get s.filt.shadow e.1 0 = e.2) →
    Delivers s x p (bits d 95 32) (bits d 190 184 * n) → MayPut s x p (bits d 159 96) (8 * n) →
    ran (.filter c) (stagedAt (bits d 159 96) ((List.range n).flatMap (fun i => bytesOf 8 (foundAt s unit p i)))) [] [n, 0, 0]) ∧
  (dOpc d = 0x05 →
    let nq := bits d 376 373 + 1
    let n := bits d 359 336
    let at_ : Nat → Nat := fun j => if bits d 223 160 = 0 then j else num (bits d 223 160 + 4 * j) 4
    Delivers s x p (bits d 95 32) (rowBytes (bits d 380 377) (bits d 372 360) * nq) →
    (bits d 223 160 ≠ 0 → Delivers s x p (bits d 223 160) (4 * n)) →
    (∀ j < n, (bits d 223 160 ≠ 0 ∧ at_ j = 2 ^ 32 - 1) ∨
      Delivers s x p (bits d 159 96 + at_ j * bits d 335 288) (rowBytes (bits d 384 381) (bits d 372 360))) →
    MayPut s x p (bits d 287 224) (4 * nq * n) →
    ran (.score c) (stagedAt (bits d 287 224) ((List.range nq).flatMap (fun i =>
      (List.range n).flatMap (fun j => bytesOf 4 (scoreAt s p i j))))) [] []) ∧
  (dOpc d = 0x07 →
    let nq := bits d 310 307 + 1
    let row := rowBytes (bits d 318 315) (bits d 306 298)
    let nb := bits d 271 256
    Delivers s x p (bits d 95 32) (rowBytes (bits d 314 311) (bits d 306 298) * nq) → Delivers s x p (bits d 159 96) (16 * nb) →
    (∀ b < nb, ∀ h < 2, let a := num (bits d 159 96 + 16 * b + 8 * h) 8
      addrBad a (typeAlign (bits d 318 315)) = false ∧
      ∀ t < (if b + 1 = nb then bits d 297 285 else bits d 284 272), Delivers s x p (a + bits d 335 320 * t) row) →
    MayPut s x p (bits d 223 160) (nq * (4 * bits d 306 298 + 8)) →
    ran (.attnPartial c) (stagedAt (bits d 223 160) ((List.range nq).flatMap (fun i =>
      (attnRow d (rowElemsOf (bits d 314 311) (bits d 306 298)
          (clean (procBytes s p (bits d 95 32 + rowBytes (bits d 314 311) (bits d 306 298) * i) (rowBytes (bits d 314 311) (bits d 306 298)))))
        ((List.range nb).map (fun b => (attnRowsAt s p b 0, attnRowsAt s p b 1, false)))).words.flatMap (bytesOf 4)))) [] []) ∧
  (dOpc d = 0x08 → bits d 231 228 ≤ 2 →
    let dim := bits d 222 214
    let nq := bits d 226 223 + 1
    let np := bits d 213 208 + 1
    let recd := 4 * dim + 8
    let stride := if bits d 207 160 = 0 then nq * recd else bits d 207 160
    (∀ i < nq, ∀ j < np, Delivers s x p (bits d 95 32 + stride * j + recd * i) recd) →
    MayPut s x p (bits d 159 96) (nq * (if bit d 227 then rowBytes (bits d 231 228) dim else recd)) →
    ran (.merge c) (stagedAt (bits d 159 96) ((List.range nq).flatMap (fun i =>
      let m := mergePartials dim ((List.range np).map (partialAt s p i))
      if bit d 227 then (storeRow (bits d 231 228) (m.o.map (fun v => (v, false)))).map (·.1) else m.words.flatMap (bytesOf 4)))) [] []) ∧
  (dOpc d = 0x0A →
    let n := bits d 407 400 + 1
    let h := bits d 427 411
    let all := moeChoices s p
    let put : Nat → Nat → Nat := fun e j => moeBuffer s p e + h * moeSlot s p j
    let kept := all.zipIdx.filter (fun q => decide (moeSlot s p q.2 < moeRoom s p q.1.2.1))
    let rows := kept.map (fun q => (put q.1.2.1 q.2, procBytes s p (bits d 159 96 + h * q.1.1) h))
    Delivers s x p (bits d 95 32) (4 * n * bits d 399 384) → Delivers s x p (bits d 159 96) (h * bits d 399 384) →
    Delivers s x p (bits d 223 160) (16 * n) → (∀ q ∈ kept, MayPut s x p (put q.1.2.1 q.2) h) →
    MayPut s x p (bits d 287 224) (8 * all.length) → MayPut s x p (bits d 351 288) (4 * n) →
    ran (.moeDispatch c)
      ((sortBy (fun (a b : Nat × List Byte) => a.1 < b.1) rows).flatMap (fun q => stagedAt q.1 q.2) ++
        stagedAt (bits d 287 224) (all.zipIdx.flatMap (fun q => bytesOf 8 (q.1.2.1 +
          (if moeSlot s p q.2 < moeRoom s p q.1.2.1 then moeSlot s p q.2 else 0xFFFFFF) * 2 ^ 8 + q.1.2.2 * 2 ^ 32))) ++
        stagedAt (bits d 351 288) ((List.range n).flatMap (fun e =>
          bytesOf 4 (min (all.filter (fun q => q.2.1 == e)).length (moeRoom s p e)))))
      [] [all.length - kept.length]) ∧
  (dOpc d = 0x0B → bits d 331 328 ≤ 2 →
    let k := bits d 306 304 + 1
    let n := bits d 323 307
    let tok := bits d 303 288
    let word : Nat → Nat := fun j => num (bits d 95 32 + 8 * j) 8
    let buf : Nat → Nat := fun j => num (bits d 159 96 + 16 * bits (word j) 7 0) 8
    Delivers s x p (bits d 95 32) (8 * (k * tok)) →
    (bits d 287 224 ≠ 0 → Delivers s x p (bits d 287 224) (rowBytes (bits d 331 328) n * tok)) →
    (∀ j < k * tok, bits (word j) 31 8 = 0xFFFFFF ∨ (Delivers s x p (bits d 159 96 + 16 * bits (word j) 7 0) 16 ∧
      addrBad (buf j) (typeAlign (bits d 327 324)) = false ∧
      Delivers s x p (buf j + rowBytes (bits d 327 324) n * bits (word j) 31 8) (rowBytes (bits d 327 324) n))) →
    MayPut s x p (bits d 223 160) (rowBytes (bits d 331 328) n * tok) →
    ran (.moeCombine c) (stagedAt (bits d 223 160) ((List.range tok).flatMap (combinedRow s p))) [] []) ∧
  (dOpc d = 0x0C →
    let n := bits d 247 224
    let src := bits d 95 32
    let put : Nat → Nat := fun i => bits d 159 96 + blockPlace (bit d 248) (fun j => (codedBlock s p j).1) i
    Delivers s x p src (256 * n) → s.noCmpr (s.ctxTenant x.val) = false →
    (∀ l, src / 64 ≤ l → 64 * l < src + 256 * n → exCloaked ((s.bank p.epoch).extent (l / 2 ^ 24)) = false) →
    (bit d 249 = true → bits d 253 250 = 5 ∨ bits d 253 250 = 6 ∨ bits d 253 250 = 7) →
    (∀ i < n, MayPut s x p (put i) (max 1 (codedBlock s p i).2.length)) → MayPut s x p (bits d 223 160) ((n + 1) / 2) →
    ran (.compress c)
      ((List.range n).flatMap (fun i => stagedAt (put i) (codedBlock s p i).2) ++
        stagedAt (bits d 223 160) ((List.range ((n + 1) / 2)).map (fun i =>
          BitVec.ofNat 8 ((codedBlock s p (2 * i)).1 +
            16 * (if 2 * i + 1 < n then (codedBlock s p (2 * i + 1)).1 else Config.spareNibble d % 16)))))
      [] [((List.range n).map (fun i => (codedBlock s p i).1)).sum]) ∧
  (dOpc d = 0x0D → s.flag CMPR_CTL_STRICT = false →
    let n := bits d 247 224
    let src : Nat → Nat := fun i => bits d 95 32 + blockPlace (bit d 248) (fun j => min 4 (mapEntry s p j)) i
    Delivers s x p (bits d 223 160) ((n + 1) / 2) →
    (∀ i < n, src i < 2 ^ 48 ∧ (mapEntry s p i ≠ 0 → Delivers s x p (src i) (64 * min 4 (mapEntry s p i)))) →
    MayPut s x p (bits d 159 96) (256 * n) →
    ran (.expand c) (stagedAt (bits d 159 96) ((List.range n).flatMap (expandedBlock s p))) []
      [((List.range n).map (fun i => min 4 (mapEntry s p i))).sum]) ∧
  (dOpc d = 0x0E →
    let n := bits d 166 160
    0 < n → Delivers s x p (bits d 95 32) (48 * n) →
    (∀ i < n, let b := batchOp s p i
      atomicListed b.op b.ty = true ∧ b.addr % (atomicBits b.ty / 8) = 0 ∧ MayPut s x p b.addr 1) →
    (bits d 159 96 = 0 ∨ MayPut s x p (bits d 159 96) (16 * n)) →
    ran (.atomicBatch c) [] ((List.range n).map (batchOp s p)) [])

/-! ### Tiers and prefetch (spec 06, 07) -/

/-- No replica of a page of the pool is here or at a peer. -/
def NoReplicas (s : State) : Prop := s.home.repl.local_ = [] ∧ s.home.repl.peers = [] ∧ s.home.repl.invWait = []

/-- What memory holds for its readers and in the trays is the same. -/
def SameMemory (s t : State) : Prop := t.pool.cur = s.pool.cur ∧ t.pool.tray = s.pool.tray

/-- Only the port of the page table may have gained a message. -/
def OnlyTablePort (s t : State) : Prop := ∀ q, q ≠ s.rd TIER_PT_PORT → t.port q = s.port q

/-- R131 to R133, R138 to R140: moves between the tiers. A window's end starts the promotion of each page read often enough; a page
whose promotion ends is a clean page of T1. A T2 page that may be packed starts to be, and is then T3 in as many frames as its image
needs; a T3 page goes to T4; one that is expanded takes a whole frame of T2. A dirty unit starts its write-back, and when that ends
the tray holds what the home does and the unit is clean; of a CODED extent the dirty units of a stripe go together. What memory holds
for its readers never changes. A move waits for the lines of its page that are on their way from their owners. -/
def Obligations.PagesMoveBetweenTiers : Prop := ∀ s : State,
  (∀ (p : BitVec 32) e, Tbl.get? s.tier.moves p.toNat = some (.promote, e) → s.pagePulled p.toNat = true → Ends (.tierMoveDone p) s s) ∧
  (s.home.dir = [] → s.home.txns = [] →
  (∃ t, Ends .tierWindowEnd s t ∧ t = { s with tier := t.tier } ∧ t.tier.winReads = [] ∧ t.tier.t1 = s.tier.t1 ∧ t.tier.ents = s.tier.ents ∧
    (s.flag TIER_CTL_PROMOTE_EN = false → t.tier.moves = s.tier.moves) ∧
    (s.flag TIER_CTL_PROMOTE_EN = true → s.enabled .tier = true → ∀ q n, (q, n) ∈ s.tier.winReads → s.promotable q = true →
      s.pol TIER_POL_B_PROMOTE_READS (s.extentAt s.epoch (65536 * q)) ≤ n →
      Tbl.get? t.tier.moves q = some (.promote, s.epoch))) ∧
  (∀ (p : BitVec 32) e, Tbl.get? s.tier.moves p.toNat = some (.promote, e) → NoReplicas s → s.nearRoom = true → s.pageReads e p.toNat = true →
    ∃ t, Ends (.tierMoveDone p) s t ∧ SameMemory s t ∧ t.ports = s.ports ∧ Tbl.get? t.tier.moves p.toNat = none ∧
      Tbl.get? t.tier.t1 p.toNat = some { stack := s.stackOf (s.extentAt e (65536 * p.toNat)) p.toNat } ∧
      (∀ q, q ≠ p.toNat → Tbl.get? t.tier.t1 q = Tbl.get? s.tier.t1 q) ∧ t.tally .tier 0x01 = s.tally .tier 0x01 + 1) ∧
  (∀ p : BitVec 32,
    (s.packable p.toNat = true → Ends (.coldTimer p) s
      { s with tier := { s.tier with moves := Tbl.put s.tier.moves p.toNat (.pack, s.epoch) } }) ∧
    (s.packable p.toNat = false → Ends (.coldTimer p) s s)) ∧
  (∀ (p : BitVec 32) e f, Tbl.get? s.tier.moves p.toNat = some (.pack, e) → NoReplicas s → s.pageReads e p.toNat = true →
    let n := s.packFrames (s.extentAt s.epoch (65536 * p.toNat)) p.toNat
    s.freeRun n 1 = some f →
    ∃ t, Ends (.packDone p) s t ∧ t.pool = s.pool ∧ OnlyTablePort s t ∧ Tbl.get? t.tier.moves p.toNat = none ∧
      t.pageEnt p.toNat = { tier := .t3, frame := f, len := n } ∧ (∀ q, q ≠ p.toNat → t.pageEnt q = s.pageEnt q) ∧
      t.tally .tier 0x03 = s.tally .tier 0x03 + 1) ∧
  (∀ p : BitVec 32, let x := s.extentAt s.epoch (65536 * p.toNat)
    exValid x = true → s.paged x = true → s.pol TIER_POL_A_T4_EN x = 1 → s.rd TIER_T4_CFG_SIZE_GIB ≠ 0 →
    (s.pageEnt p.toNat).tier = .t3 → Tbl.get? s.tier.moves p.toNat = none →
    Ends (.t4Timer p) s { s with tier := { s.tier with moves := Tbl.put s.tier.moves p.toNat (.toT4, s.epoch) } }) ∧
  (∀ (p : BitVec 32) e f, Tbl.get? s.tier.moves p.toNat = some (.toT4, e) → s.freeT4 (s.pageEnt p.toNat).len = some f →
    ∃ t, Ends (.t4CopyDone p) s t ∧ t = { s with tier := t.tier, ports := t.ports } ∧ OnlyTablePort s t ∧ Tbl.get? t.tier.moves p.toNat = none ∧
      t.pageEnt p.toNat = { tier := .t4, frame := f, len := (s.pageEnt p.toNat).len }) ∧
  (∀ (p : BitVec 32) e f, Tbl.get? s.tier.moves p.toNat = some (.expandT2, e) →
    s.keyless ((s.bank e).tenantOf (s.extentAt e (65536 * p.toNat))) = false → s.tier.t4Reads = [] → s.freeRun 16 16 = some f →
    ∃ t, Ends (.expandDone p) s t ∧ t.pool = s.pool ∧ OnlyTablePort s t ∧ Tbl.get? t.tier.moves p.toNat = none ∧
      t.pageEnt p.toNat = { tier := .t2, frame := f, len := 16 } ∧ t.tally .tier 0x04 = s.tally .tier 0x04 + 1) ∧
  (∀ u : BitVec 36, s.isDirty (4096 * u.toNat) = true → s.tier.wbs = [] →
    let coded : Prop := exRedund (s.map.cur.extent (u.toNat / 2 ^ 18)) = 2
    let stripe := ((List.range 8).map (fun i => u.toNat / 8 * 8 + i)).filter (fun v => s.isDirty (4096 * v))
    (¬coded → Ends (.wbTimer u) s { s with tier := { s.tier with wbs := [(u.toNat, false)] } }) ∧
    (coded → Ends (.wbTimer u) s { s with tier := { s.tier with wbs := stripe.map (fun v => (v, false)) } })) ∧
  (∀ u : BitVec 36, s.tier.wbs = [(u.toNat, false)] → s.canReach u.toNat = true → s.tier.wbAgain = [] → s.isDirty (4096 * u.toNat) = true →
    ∃ t, Ends (.writebackDone u) s t ∧ t.pool.cur = s.pool.cur ∧ t.tier.wbs = [] ∧ t.isDirty (4096 * u.toNat) = false ∧
      (∀ v, v ≠ u.toNat → t.isDirty (4096 * v) = s.isDirty (4096 * v)) ∧
      (s.MemOk → ∀ a, Memory.read t.pool.tray.bytes a =
        if a / 4096 = u.toNat then Memory.read s.pool.cur.bytes a else Memory.read s.pool.tray.bytes a)))

/-- R142 to R147, R155: prefetch schedules. A command whose image or lists a leaf owns part of waits for them; every other one here
meets no such line. A registration that is refused leaves only its RESULT; one that is not makes the schedule of the image, stopped. A
clock that is stopped starts at step 0, or at the step that is set; past the last step it stops, and a STEP of no schedule counts
PREF_BAD_STEP. At a step's deadline its pages not yet in T1 are late and take the fallback. A staged page is in T1, pinned for its
step. UNREGISTER ends the schedule. -/
def Obligations.SchedulesStagePages : Prop := ∀ (s : State) (path : Path) (x : CtxId) (n : BitVec 6),
  let key := schedKey x.val n.toNat
  let a := s.rd CTX_PREF_LO_ADDR x + 2 ^ 32 * s.rd CTX_PREF_HI_ADDR x
  s.home.txns = [] → s.tier.prefOps = [] →
  (s.Takes path ⟨.ctx, x.val⟩ → s.ownedRun (a, 32) = true →
    ∃ t, Ends (.prefRegister path x n) s t ∧ t.tier.prefOps = [.register x n.toNat] ∧ t.tier.scheds = s.tier.scheds) ∧
  (s.home.dir = [] →
  (s.Takes path ⟨.ctx, x.val⟩ → s.prefRefusal x n.toNat a ≠ rcOk →
    ∃ t, Ends (.prefRegister path x n) s t ∧ t = { s with regs := t.regs } ∧ t.rd CTX_PREF_CMD_RESULT x = s.prefRefusal x n.toNat a) ∧
  (s.Takes path ⟨.ctx, x.val⟩ → s.prefRefusal x n.toNat a = rcOk →
    ∃ t c, Ends (.prefRegister path x n) s t ∧ t = { s with regs := t.regs, tier := t.tier } ∧ t.tier.t1 = s.tier.t1 ∧
      t.rd CTX_PREF_CMD_RESULT x = rcOk ∧ Tbl.get? t.tier.scheds key = some c ∧ c.clock = none ∧ c.image = a ∧
      c.steps = bits (s.poolNum a 32) 12 0 ∧ c.look = bits (s.poolNum a 32) 19 16) ∧
  (∀ c, s.Takes path ⟨.ctx, x.val⟩ → Tbl.get? s.tier.scheds key = some c →
    ∃ t, Ends (.prefUnregister path x n) s t ∧ t.pool = s.pool ∧ t.ports = s.ports ∧ Tbl.get? t.tier.scheds key = none ∧
      ∀ p q, Tbl.get? t.tier.t1 p = some q → ∀ pin ∈ q.pins, ¬(pin.1 = x.val ∧ pin.2.1 = n.toNat)) ∧
  (s.Takes path ⟨.ctx, x.val⟩ → Tbl.get? s.tier.scheds key = none →
    (∃ t, Ends (.stepAdvance path x n) s t ∧ t.tier = s.tier ∧ t.pool = s.pool ∧ t.tally .pref 0x02 = s.tally .pref 0x02 + 1) ∧
    ∀ k, ∃ t, Ends (.stepSet path x n k) s t ∧ t.tier = s.tier ∧ t.pool = s.pool ∧ t.tally .pref 0x02 = s.tally .pref 0x02 + 1) ∧
  (∀ c, s.Takes path ⟨.ctx, x.val⟩ → Tbl.get? s.tier.scheds key = some c → c.clock = none → 0 < c.steps →
    ∃ t c', Ends (.stepAdvance path x n) s t ∧ t.pool = s.pool ∧ Tbl.get? t.tier.scheds key = some c' ∧ c'.clock = some 0) ∧
  (∀ c (k : BitVec 12), s.Takes path ⟨.ctx, x.val⟩ → Tbl.get? s.tier.scheds key = some c → c.clock = none → k.toNat < c.steps →
    ∃ t c', Ends (.stepSet path x n k) s t ∧ t.pool = s.pool ∧ Tbl.get? t.tier.scheds key = some c' ∧ c'.clock = some k.toNat) ∧
  (∀ c k, s.Takes path ⟨.ctx, x.val⟩ → Tbl.get? s.tier.scheds key = some c → c.clock = some k → c.rec_ = false → c.loop = false →
    c.steps ≤ k + 1 →
    ∃ t c', Ends (.stepAdvance path x n) s t ∧ t.pool = s.pool ∧ Tbl.get? t.tier.scheds key = some c' ∧ c'.clock = none ∧ c'.staging = []) ∧
  (∀ c k p, s.tier.scheds = [(key, c)] → c.clock = some k → c.deadlinePast = false → c.staging = [(k, p)] → c.waitIssue = [] → c.cont = false →
    ∃ t, Ends (.prefDeadline x n) s t ∧ t.pool = s.pool ∧ t.tally .pref 0x01 = s.tally .pref 0x01 + 1 ∧
      t.tier.scheds = [(key, { c with deadlinePast := true, late := c.late + 1, fallback := true, staging := [] })]) ∧
  (∀ c k (p : BitVec 32), s.tier.scheds = [(key, c)] → c.staging = [(k, p.toNat)] → NoReplicas s → Tbl.get? s.tier.t1 p.toNat = none →
    s.nearRoom = true →
    let e := ((Tbl.get? s.tier.moves p.toNat).map (·.2)).getD s.epoch
    s.tierOf (s.extentAt e (65536 * p.toNat)) (65536 * p.toNat) = .t2 → s.pageReads e p.toNat = true →
    ∃ t q, Ends (.prefStageDone x n p) s t ∧ SameMemory s t ∧ t.tier.scheds = [(key, { c with staging := [] })] ∧
      Tbl.get? t.tier.t1 p.toNat = some q ∧ q.pins = [(x.val, n.toNat, k)] ∧ q.dirty = 0))

/-- R152, R153, R160: a rebuild runs one extent at a time, and its end lifts the failed marks of its heads and units, of no other
extent's; a failed stack loses its T1 pages, whose dirty units of extents with one copy are poisoned; the size map of an extent made
CMPR is there. -/
def RebuildsAndLostStacks : Prop := ∀ s : State,
  (∀ path (x : BitVec 18), s.Takes path ⟨.tier, 0⟩ → s.tier.rebuild = none →
    ∃ t, Ends (.tierRebuild path x) s t ∧ t = { s with regs := t.regs, tier := { s.tier with rebuild := some x.toNat } } ∧
      t.rd TIER_REBUILD_STAT_RESULT = rcOk ∧ t.flag TIER_REBUILD_STAT_BUSY = true) ∧
  (∀ path (x : BitVec 18) y, s.Takes path ⟨.tier, 0⟩ → s.tier.rebuild = some y →
    ∃ t, Ends (.tierRebuild path x) s t ∧ t = { s with regs := t.regs } ∧ t.rd TIER_REBUILD_STAT_RESULT = rcExhausted) ∧
  (∀ y, s.tier.rebuild = some y →
    ∃ t, Ends .rebuildDone s t ∧ t.pool = s.pool ∧ t.tier.rebuild = none ∧ t.flag TIER_REBUILD_STAT_BUSY = false ∧
      (∀ pl i, i < 10 → t.headFailed y pl i = false) ∧ ∀ x pl i, x ≠ y → t.headFailed x pl i = s.headFailed x pl i) ∧
  (∀ (k : DieId), k.val ∉ s.tier.lostStacks → s.home.dir = [] → s.tier.t1.all (fun q => q.2.stack != k.val) = true →
    ∃ t, Ends (.hbmStackFail k) s t ∧ t.pool = s.pool ∧ t.tier.t1 = s.tier.t1 ∧ t.tier.lostStacks = setAdd s.tier.lostStacks k.val ∧
      t.flag HBM_STAT_FAILED k.val = true ∧ bit (t.pgErr ⟨.hbm, k.val⟩) 17 = true) ∧
  (∀ (k : DieId) p, k.val ∉ s.tier.lostStacks → s.home.dir = [] → s.tier.t1 = [(p, { stack := k.val, dirty := 1 })] →
    exRedund (s.map.cur.extent (65536 * p / 2 ^ 30)) = 0 →
    ∃ t, Ends (.hbmStackFail k) s t ∧ t.tier.t1 = [] ∧ (∀ i < 64, (1024 * p + i) ∈ t.pool.cur.poison) ∧
      t.pool.cur.bytes = s.pool.cur.bytes ∧ t.tally .tier 0x08 = s.tally .tier 0x08 + 1 ∧ bit (t.pgErr ⟨.tier, 0⟩) 16 = true) ∧
  (∀ x : BitVec 18, ∃ t, Ends (.smapInitDone x) s t ∧ t = { s with map := t.map } ∧ t.map.cur = s.map.cur ∧
    t.map.smapInit = setDel s.map.smapInit x.toNat)

/-! ### The map, hand-over timers, the home's timers, region commands (spec 03, 04, 05) -/

/-- R60 to R65, R68, R71: a commit. COMMIT = 1 starts the check. A refused commit changes nothing but the result. A commit that passes
makes the pending bank current under the next epoch and leaves the old bank draining; the pending bank reloads. MAP_XFER does so with
one extent's owner changed. The old epoch retires when nothing counts against it, and what was held goes on; at the drain limit a read
that still waits is answered poisoned, its extent is tainted, and the epoch retires. A forced DCD release goes out once no
back-invalidation of its extent is outstanding. -/
def Obligations.CommitsSwitchTheMap : Prop := ∀ s : State, s.mgmt.held = [] → s.mgmt.heldEnt = [] → s.mgmt.msgs = [] →
  (∀ path, s.Takes path ⟨.map, 0⟩ → s.flag MAP_COMMIT_COMMIT = false →
    ∃ t, Ends (.mapCommit path) s t ∧ t = { s with regs := t.regs } ∧ t.flag MAP_COMMIT_COMMIT = true) ∧
  (∀ path (x : BitVec 18) (i : BitVec 8), s.Takes path ⟨.map, 0⟩ → s.flag MAP_COMMIT_COMMIT = false →
    ∃ t, Ends (.mapXfer path x i) s t ∧ t.flag MAP_COMMIT_COMMIT = true ∧ t.map.cur = s.map.cur ∧ t.pool = s.pool ∧
      exOwner (t.map.pend.extent x.toNat) = i.toNat ∧ ∀ y, y ≠ x.toNat → t.map.pend.extent y = s.map.pend.extent y) ∧
  (∀ code bad, s.flag MAP_COMMIT_COMMIT = true → s.map.xferUndo = none → s.commitRefusal = some (code, bad) → code < 65536 →
    ∃ t, Ends .commitCheckDone s t ∧ t = { s with regs := t.regs } ∧ t.flag MAP_COMMIT_COMMIT = false ∧ t.rd MAP_STAT_RESULT = code) ∧
  (s.flag MAP_COMMIT_COMMIT = true → s.commitRefusal = none →
    ∃ t, Ends .commitCheckDone s t ∧ t.flag MAP_COMMIT_COMMIT = false ∧ t.rd MAP_STAT_RESULT = 0 ∧ t.map.cur = s.map.pend ∧
      t.map.draining = some s.map.cur ∧ t.epoch = (s.epoch + 1) % 2 ^ 16 ∧ t.rd MAP_EPOCH_DRAINING = s.epoch ∧ t.draining = true ∧
      t.flag MAP_STAT_PENDING_READY = false ∧ t.tally .map 0x01 = s.tally .map 0x01 + 1) ∧
  (∃ t, Ends .pendingReloadDone s t ∧ t = { s with regs := t.regs } ∧ t.flag MAP_STAT_PENDING_READY = true) ∧
  (s.draining = true → s.inflight = 0 → s.map.ho = [] →
    ∃ t, Ends .epochRetire s t ∧ t = { s with regs := t.regs, map := t.map, home := t.home, pool := t.pool } ∧ t.draining = false ∧
      t.map.draining = none ∧ t.map.held = [] ∧ t.home.blocked = s.map.held ++ s.home.blocked ∧ t.map.cur = s.map.cur ∧
      (s.map.moved = [] → t.pool = s.pool)) ∧
  (s.draining = true → 0 < s.inflight → Ends .epochRetire s s) ∧
  (s.draining = false → Ends .epochRetire s s ∧ Ends .drainExpiry s s) ∧
  (∀ u q h, s.draining = true → s.home.txns = [u] → u.epoch = s.rd MAP_EPOCH_DRAINING → u.src = .yd q h → u.acc = .readUnc 0 64 →
    s.tier.wbs = [] → s.map.commitSnoops = [] → s.procs.procs = [] → s.heldAll = [] → s.map.ho = [] → s.map.proxied = [] → s.map.moved = [] →
    ∃ t, Ends .drainExpiry s t ∧ t.home.txns = [] ∧ t.draining = false ∧ t.isTainted (u.line / 2 ^ 24) = true ∧ t.pool = s.pool ∧
      t.flag MAP_STAT_DRAIN_EXPIRED = true ∧ bit (t.pgErr ⟨.map, 0⟩) 16 = true ∧
      s.Sends t q (.yd 0x05 (replyHdr s h stPoisoned.toNat true) (lineSlots 0))) ∧
  (∀ (p : PortId) (x : BitVec 18), s.map.dcdWait = [(p.val, x.toNat)] → s.map.commitSnoops = [] →
    ∃ t, Ends (.dcdRelease p x) s t ∧ t = { s with ports := t.ports, map := { s.map with dcdWait := [] } } ∧
      (t.port p.val).egress = (s.port p.val).egress ++ [{ q := 3, msg := .dcd false x.toNat true }])

/-- R72 to R76: what a hand-over's sides do by themselves. The old home, its admitted work ended, sends GIVE; the new home, the
summary stored, is TAKING and sends TAKE; a side resends its last message until it is answered. At the start limit a GIVING side
returns to OWNED and serves its queue, an AWAITING side that no GIVE has reached is FAILED and fails its queue. -/
def HandOverTimers : Prop := ∀ (s : State) (x : BitVec 18) (h : Handover), s.map.ho = [(x.toNat, h)] →
  (∀ q, h.st = .giving → h.last = none → s.giveReadyFor x.toNat = true → s.portOfFeid h.feid = some q →
    ∃ t h' m, Ends (.giveReady x) s t ∧ t.map.ho = [(x.toNat, h')] ∧ h'.st = .giving ∧ h'.last.isSome = true ∧ h'.queue = h.queue ∧
      h'.summary = s.summaryOf x.toNat ∧
      m.xfer = h.xfer ∧ m.sumLen.toNat = 16 * (s.summaryOf x.toNat).length % 2 ^ 32 ∧ t.pool = s.pool ∧ t.home = s.home ∧
      (t.port q).egress = (s.port q).egress ++ [{ q := 1, msg := .handoff hoGive h.feid m }]) ∧
  (h.st = .giving → s.giveReadyFor x.toNat = false → Ends (.giveReady x) s s) ∧
  (∀ k m q, h.st = .awaiting → h.last = some (k, m) → m.sumLen.toNat / 16 ≤ h.summary.length → s.portOfFeid m.src = some q →
    ∃ t h', Ends (.summaryStored x) s t ∧ t.map.ho = [(x.toNat, h')] ∧ h'.st = .taking ∧ h'.summary = h.summary ∧ t.pool = s.pool ∧
      t.home = s.home ∧ (t.port q).egress = (s.port q).egress ++
        [{ q := 1, msg := .handoff hoTake m.src { src := s.ownFeid, xfer := h.xfer, queued := BitVec.ofNat 32 h.queue.length } }]) ∧
  (∀ k m q, h.st = .giving ∨ h.st = .givenUnconfirmed ∨ h.st = .taking → h.last = some (k, m) → s.portOfFeid m.src = some q →
    ∃ t, Ends (.handoffRetransmit x) s t ∧ t = { s with ports := t.ports } ∧ (t.port q).egress = (s.port q).egress ++
      [{ q := 1, msg := .handoff k m.src { m with src := s.ownFeid, queued := BitVec.ofNat 32 h.queue.length } }]) ∧
  (h.st = .giving → ∃ t h', Ends (.handoffLimit x) s t ∧ t.map.ho = [(x.toNat, h')] ∧ h'.st = .owned ∧ h'.queue = [] ∧
    t.home.blocked = h.queue ++ s.home.blocked ∧ t.pool = s.pool ∧ t.ports = s.ports) ∧
  (∀ (p : PortId) hd e, h.st = .awaiting → h.last = none → h.queue = [held e (.rd p hd)] →
    ∃ t h', Ends (.handoffLimit x) s t ∧ t.map.ho = [(x.toNat, h')] ∧ h'.st = .failed ∧ h'.queue = [] ∧ t.pool = s.pool ∧
      s.Sends t p.val (.yd 0x06 (replyHdr s hd stHandoffFailed.toNat) []))

/-- R83, R92, R95, R97, R98: the home's timers. A holder that does not answer in T_SNP loses the line, which is poisoned where it
owned it; the timeout is counted and latched. The directory's second copy is shown again. A window's end makes candidates of the pages
read more than 1,024 times for each write. A fill ends in a replica unless a write cancelled it. REPL_INV is sent again. -/
def Obligations.HomeTimers : Prop := ∀ s : State,
  (∀ (p : PortId) (a : BitVec 48) e, s.home.snoopsTo = [(p.val, a.toNat / 64)] → s.home.txns = [] → s.dirAt (a.toNat / 64) = some e →
    let l := a.toNat / 64
    let noted (t : State) : Prop := t.home.snoopsTo = [] ∧ t.tally .home 0x07 = s.tally .home 0x07 + 1 ∧
      bit (t.pgErr ⟨.home, 0⟩) 16 = true ∧ t.flag HOME_SNPTO_VALID = true ∧ t.rd HOME_SNPTO_PORT = p.val ∧
      t.rd HOME_SNPTO_ADDR_LO_LINE_ADDR + 2 ^ 32 * t.rd HOME_SNPTO_ADDR_HI_LINE_ADDR = 64 * l ∧ OnlyTablePort s t
    (e.st = .m → e.owner = p.val →
      ∃ t, Ends (.snoopTimeout p a) s t ∧ noted t ∧ t.dirAt l = none ∧ t.pool = (s.poisonLine (64 * l)).pool) ∧
    (e.st = .s → bit e.sharers (sharerBit p.val) = true →
      ∃ t, Ends (.snoopTimeout p a) s t ∧ noted t ∧ t.pool = s.pool ∧
        t.dirAt l = if e.sharers = 2 ^ sharerBit p.val then none else some { e with sharers := e.sharers - 2 ^ sharerBit p.val })) ∧
  (∀ (p : PortId) (a : BitVec 48), s.home.snoopsTo.contains (p.val, a.toNat / 64) = false → Ends (.snoopTimeout p a) s s) ∧
  (∃ t, Ends .dirMirrorRebuilt s t ∧ t = { s with regs := t.regs } ∧ t.flag HOME_DIRSTAT_MIRROR_OK = true) ∧
  (s.home.dir = [] → ∃ t, Ends .replWindowEnd s t ∧ t = { s with home := t.home } ∧ t.home.repl.reads = [] ∧ t.home.repl.writes = [] ∧
    t.home.repl.local_ = s.home.repl.local_ ∧
    (∀ q n, (q, n) ∈ s.home.repl.reads → 1024 * Tbl.get s.home.repl.writes q 0 < n → q ∈ t.home.repl.cands) ∧
    (∀ q ∈ t.home.repl.cands, ∃ n, (q, n) ∈ s.home.repl.reads ∧ 1024 * Tbl.get s.home.repl.writes q 0 < n) ∧
    (s.enabled .repl = true → s.quiescing .repl = false → s.flag REPL_CTL_LOCAL_EN = true →
      ∀ f ∈ t.home.repl.fills, f ∈ s.home.repl.fills ∨ (f.1 ∈ t.home.repl.cands ∧ (Tbl.get? s.tier.t1 (f.1 / 16)).isNone = true)) ∧
    (s.enabled .repl = false → t.home.repl.fills = s.home.repl.fills)) ∧
  (∀ (pg : BitVec 36) (cut : Bool), s.home.repl.fills = [(pg.toNat, cut)] → s.home.txns = [] →
    ∃ t, Ends (.replFillDone pg) s t ∧ t = { s with home := t.home, regs := t.regs, pool := t.pool, free := t.free } ∧ SameMemory s t ∧
      (cut = true → t = { s with home := t.home }) ∧ t.home.repl.fills = [] ∧
      t.home.repl.local_ = if cut then s.home.repl.local_ else setAdd s.home.repl.local_ pg.toNat) ∧
  (∀ (pg : BitVec 36) (f q : Nat) (g : BitVec 16), Tbl.get s.home.repl.invWait pg.toNat [] = [(f, g)] → s.portOfFeid (BitVec.ofNat 16 f) = some q →
    ∃ t, Ends (.replInvRetransmit pg) s t ∧ t = { s with ports := t.ports } ∧
      (t.port q).egress = (s.port q).egress ++ [{ q := 1, msg := replMsg s (BitVec.ofNat 16 f) 0x11 pg.toNat g }])

/-- R101, R107, R114, R115, R117: region commands. CREATE makes a region of a free index with version 0, is refused for an ID that is
not this device's or an index in use; DESTROY ends an empty region and is refused for none. Ring space freed lets retirements go on.
RGN_INV is sent again. A PUBLISH whose list has come makes the next version of the listed extents and is answered OK; one whose list
comes poisoned is answered POISONED and leaves the version as it was. -/
def Obligations.RegionCommands : Prop := ∀ s : State,
  (∀ path, s.Takes path ⟨.pub, 0⟩ →
    let id := s.rd PUB_CMD_REGION_REGION
    let idx := id % 65536
    let mine : Prop := bits id 31 20 = s.rd DEV_ID_DEVICE_ID ∧ bits id 19 16 = 0
    (mine → Tbl.get? s.pub.regions idx = none →
      (∃ t r, Ends (.pubCreate path) s t ∧ t = { s with regs := t.regs, pub := t.pub } ∧ t.rd PUB_STAT_RESULT = rcOk ∧
        Tbl.get? t.pub.regions idx = some r ∧ r.tenant = s.rd PUB_CMD_ARG_TENANT ∧ r.retain = s.rd PUB_CMD_ARG_RETAIN ∧
        r.cur = 0 ∧ r.versions = [] ∧ r.closing = false) ∧
      (∃ t, Ends (.pubDestroy path) s t ∧ t = { s with regs := t.regs } ∧ t.rd PUB_STAT_RESULT = rcDependency)) ∧
    (∀ r, mine → Tbl.get? s.pub.regions idx = some r →
      (∃ t, Ends (.pubCreate path) s t ∧ t = { s with regs := t.regs } ∧ t.rd PUB_STAT_RESULT = rcOverlap) ∧
      (r.versions = [] → r.running = none → r.waiting = [] →
        ∃ t, Ends (.pubDestroy path) s t ∧ t = { s with regs := t.regs, pub := t.pub } ∧ t.rd PUB_STAT_RESULT = rcOk ∧
          Tbl.get? t.pub.regions idx = none)) ∧
    (¬mine → ∃ t u, Ends (.pubCreate path) s t ∧ t = { s with regs := t.regs } ∧ t.rd PUB_STAT_RESULT = rcFieldRange ∧
      Ends (.pubDestroy path) s u ∧ u = { s with regs := u.regs } ∧ u.rd PUB_STAT_RESULT = rcFieldRange)) ∧
  (∀ path (n : BitVec 20), s.Takes path ⟨.pub, 0⟩ → s.pub.regions = [] →
    ∃ t, Ends (.pubRingTail path n) s t ∧ t.rd PUB_RING_TAIL_TAIL = n.toNat ∧ t.pub = s.pub ∧ t.pool = s.pool ∧ t.home = s.home) ∧
  (∀ (id : Word) r f q, s.region id.toNat = some r → r.invWait = [f] → s.portOfFeid f = some q →
    ∃ t, Ends (.rgnInvRetransmit id) s t ∧ t = { s with ports := t.ports } ∧
      s.Sends t q (.yd 0x0C (s.ownHdr f 0 (0x12 + id.toNat * 2 ^ 16 + s.rd LIVE_INCARN_INCARN * 2 ^ 48)) [0])) ∧
  (∀ (p : PortId) (h : Hdr) sl r (es : List Word), s.pub.listWait = [(p, h, sl)] → pubKind h = 1 → s.region (pubRegion h) = some r →
    (∀ e, s.rcFind h.src (pubIncarn h) h.tag = some e → e.dups = []) → r.stage = 0 → r.closing = false →
    (∀ v ∈ r.versions, v.1 = r.cur ∨ s.pinned (s.regionId (pubRegion h % 65536)) v.1 = true) →
    let idx := pubRegion h % 65536
    let list := (es.take (pubCount sl)).map (·.toNat)
    let answer (st : Byte) (ver count : Nat) : Msg :=
      .yd 0x0D (replyHdr s h (pubRspArg 1 st (pubRegion h) false false)) [BitVec.ofNat 128 (ver + count * 2 ^ 32)]
    list.all (s.listable r.tenant idx) = true →
    (r.versions.length ≤ r.retain → r.replicas = [] → s.home.dir = [] → s.home.txns = [] → s.pinned (s.regionId idx) r.cur = true →
      ∃ t r', Ends (.publishListRead h.src h.tag es false) s t ∧ t.pub.listWait = [] ∧ t.pool = s.pool ∧
        Tbl.get? t.pub.regions idx = some r' ∧ r'.cur = nextVer r.cur ∧ r'.running = none ∧
        r'.versions = (nextVer r.cur, list.map (fun e => bits e 17 0)) :: r.versions ∧
        t.tally .pub 0x01 = s.tally .pub 0x01 + 1 ∧ s.Sends t p.val (answer stOk (nextVer r.cur) list.length)) ∧
    (∃ t, Ends (.publishListRead h.src h.tag es true) s t ∧ t.pub.listWait = [] ∧ t.pool = s.pool ∧
      Tbl.get? t.pub.regions idx = some { r with running := none } ∧ s.Sends t p.val (answer stPoisoned r.cur 0)))

/-! ### Hand-over messages (spec 03 R73 to R76) -/

/-- R72 to R77: the messages of a hand-over. GIVE makes the waiting new home read the summary, in lines under tags of its own; TAKE is
answered COMMIT, and the old home is GIVEN_UNCONFIRMED; COMMIT makes the new home the owner, with its queue released and COMMIT_ACK
sent; COMMIT_ACK makes the old home GIVEN, its directory entries and replicas of the extent forgotten. While it is GIVING, the old
home answers an RD of the new one for a line of the summary with that line. -/
def HandOverMessages : Prop := ∀ (s : State) (p : PortId) (m : HandMsg) (x : Nat) (h : Handover) (q : Nat),
  s.selfFenced = false → s.map.ho = [(x, h)] → h.xfer = m.xfer → s.portOfFeid m.src = some q → s.feidFenced m.src = false →
  (m.dst = none ∨ m.dst = some s.ownFeid) →
  (s.gate p.val (.give p m) = .pass → h.st = .awaiting → h.last = none → m.status = 0 → m.sumLen = 64 →
    ∃ t h', Ends (.give p m) s t ∧ t.map.ho = [(x, h')] ∧ h'.st = .awaiting ∧ h'.last = some (hoGive, m) ∧ t.pool = s.pool ∧
      s.Sends t q (.yd 0x01 (s.ownHdr m.src (BitVec.ofNat 16 s.home.nextId) m.sumAddr.toNat) [])) ∧
  (∀ l, s.gate p.val (.take p m) = .pass → h.st = .giving → h.last = some l →
    ∃ t h', Ends (.take p m) s t ∧ t.map.ho = [(x, h')] ∧ h'.st = .givenUnconfirmed ∧ h'.queue = h.queue ∧ t.pool = s.pool ∧
      t.home = s.home ∧
      (t.port q).egress = (s.port q).egress ++ [{ q := 1, msg := .handoff hoCommit m.src { src := s.ownFeid, xfer := m.xfer, queued := BitVec.ofNat 32 h.queue.length } }]) ∧
  (s.gate p.val (.handoffCommit p m) = .pass → h.st = .taking → h.summary = [] →
    ∃ t h', Ends (.handoffCommit p m) s t ∧ t.map.ho = [(x, h')] ∧ h'.st = .owned ∧ h'.queue = [] ∧
      t.home.blocked = h.queue ++ s.home.blocked ∧ t.pool = s.pool ∧
      (t.port q).egress = (s.port q).egress ++ [{ q := 1, msg := .handoff hoAck m.src { src := s.ownFeid, xfer := m.xfer } }]) ∧
  (s.gate p.val (.commitAck p m) = .pass → h.st = .givenUnconfirmed → h.queue = [] →
    ∃ t h', Ends (.commitAck p m) s t ∧ t.map.ho = [(x, h')] ∧ h'.st = .given ∧ h'.giveEpoch = s.epoch ∧
      t.home.dir = s.home.dir.filter (fun e => e.1 / 2 ^ 24 != x) ∧
      t.home.repl.peers = s.home.repl.peers.filter (fun r => r.1 / 2 ^ 18 != x) ∧ t.pool = s.pool ∧ t.ports = s.ports) ∧
  (∀ (g : Hdr) (l : HandMsg) (i : Nat), s.Admits p (.rd p g) → g.dst = s.ownFeid → s.enabled .home = true → s.quiescing .home = false →
    h.st = .giving → h.last = some (hoGive, l) → h.feid = g.src → l.sumLen.toNat = 16 * h.summary.length →
    (∀ v ∈ h.summary, v < 2 ^ 128) → 64 * i < l.sumLen.toNat → g.arg.toNat = l.sumAddr.toNat + 64 * i →
    ∃ t d, Ends (.rd p g) s t ∧ t = { s with ports := t.ports } ∧
      (∀ k, k < 4 → bits d.toNat (128 * k + 127) (128 * k) = (h.summary[4 * i + k]?).getD 0) ∧
      s.Sends t p.val (.yd 0x05 { tc := g.tc, dst := g.src, src := s.ownFeid, tag := g.tag } (lineSlots d)))

/-- A hand-over: its messages and its timers. -/
def Obligations.HandOversProceed : Prop := HandOverMessages ∧ HandOverTimers

/-! ### Filter tables, the stitch chain and the tuck (spec 12) -/

/-- R285 to R290: the chain. A KEY that does not fit chain, sender or tenant is answered DENIED in Q2; an all-match KEY at a member
whose cores hold nothing is answered at once, with none; results complete the requester's lookup and free its slot, ones for no open
slot are counted late; a frame with a wrong CRC is counted, sets PG_ERR bit 17 and is dropped. A lookup unanswered for 10 µs ends
TIMEOUT at the third attempt, and its slot is free again later. -/
def ChainLookups : Prop := ∀ (s : State) (p : PortId) (h : StitchHdr), (h.dst = none ∨ h.dst = some s.ownFeid) →
  (∀ (key : BitVec 160) (q : Nat), s.Admits p (.stitchKey p h false key) →
    s.flag FILT_CHAIN_EN = false → s.portOfFeid h.src = some q →
    ∃ t, Ends (.stitchKey p h false key) s t ∧ t = { s with ports := t.ports } ∧
      (t.port q).egress = (s.port q).egress ++
        [{ q := 2, msg := .bestRsp h.src (s.stitchHdr h.slot.toNat h.tag stDenied) false { index := 0, data := 0, prio := 0 } 0 }]) ∧
  (∀ (key : BitVec 160) (q : Nat), s.Admits p (.stitchKey p h true key) →
    s.flag FILT_CHAIN_EN = true → h.chain.toNat = s.rd FILT_CHAIN_ID → s.chainAll.any (fun i => s.chainFeid i == h.src) = true →
    bdTenant (s.map.cur.bind p.val) = s.rd FILT_CHAIN_TENANT → s.unitsUp s.chainCores = true → s.unitsAsleep s.chainCores = false →
    s.filt.cam = [] →
    s.portOfFeid h.src = some q →
    ∃ t, Ends (.stitchKey p h true key) s t ∧ t.filt = s.filt ∧ t.pool = s.pool ∧
      (t.port q).egress = (s.port q).egress ++
        [{ q := 2, msg := .allRsp h.src (s.stitchHdr h.slot.toNat h.tag stOk) true 0 [] }]) ∧
  (∀ (hit : Bool) (m : Match) (fh : BitVec 8) (k : Nat) (r : ChainRes), s.Admits p (.bestRsp p h hit m fh) → s.chainMsg h = true → s.slotRes h.slot.toNat = some (k, r) → r.all = false →
    ∃ t, Ends (.bestRsp p h hit m fh) s t ∧ t = { s with filt := t.filt } ∧ Tbl.get? t.filt.slots (h.slot.toNat % 64) = none ∧
      Tbl.get? t.filt.res k = some
        { r with done := true, st := h.status, hit := if hit then some m else none, fh := r.fh + fh.toNat }) ∧
  (∀ (hit : Bool) (m : Match) (fh : BitVec 8), s.Admits p (.bestRsp p h hit m fh) → s.chainMsg h = true → s.slotRes h.slot.toNat = none →
    Ends (.bestRsp p h hit m fh) s (s.count { blk := .filt, code := 0x06, inst := 0 })) ∧
  (∀ (c : BitVec 24) (ms : List Match) (k : Nat) (r : ChainRes), s.Admits p (.allRsp p h true c ms) → s.chainMsg h = true → s.slotRes h.slot.toNat = some (k, r) → r.all = true → h.status = stOk →
    r.lasts + 1 < s.chainPeers.length →
    ∃ t, Ends (.allRsp p h true c ms) s t ∧ t = { s with filt := t.filt } ∧ t.filt.slots = s.filt.slots ∧
      Tbl.get? t.filt.res k = some { r with found := r.found ++ ms, lasts := r.lasts + 1 }) ∧
  (∀ w : Word, crc8 (w.toNat % 2 ^ 24) ≠ bits w.toNat 31 24 →
    ∃ t, Ends (.stitchFrame w) s t ∧ s.SameWork t ∧ bit (t.pgErr ⟨.filt, 0⟩) 17 = true ∧
      t.tally .filt 0x05 0 = s.tally .filt 0x05 0 + 1 ∧ t.out = s.out) ∧
  (∀ w : Word, crc8 (w.toNat % 2 ^ 24) = bits w.toNat 31 24 → s.flag FILT_CHAIN_EN = true → s.chainPos ≠ 0 →
    Tbl.get? s.filt.local_ (bits w.toNat 7 0) = none → bit w.toNat 19 = true → Ends (.stitchFrame w) s (s.emit (.stitchFrame w))) ∧
  (∀ (i : BitVec 6) (k : Nat) (r : ChainRes), s.slotRes i.toNat = some (k, r) → 3 ≤ r.tries →
    ∃ t, Ends (.stitchLapse i) s t ∧ t = { s with filt := t.filt } ∧ t.filt.lapsed = setAdd s.filt.lapsed i.toNat ∧
      Tbl.get? t.filt.slots i.toNat = none ∧ Tbl.get? t.filt.res k = some { r with done := true, st := stTimeout }) ∧
  (∀ i : BitVec 6, Ends (.stitchSlotFree i) s { s with filt := { s.filt with lapsed := setDel s.filt.lapsed i.toNat } })

/-- R291 to R294: the scrub rewrites an entry that differs from its shadow and counts it; an uncorrectable error clears VALID in both,
sets PG_ERR bit 16 and FILT_LOSS. -/
def TablesAreScrubbed : Prop := ∀ (s : State) (c : CoreId) (e : BitVec 14), let k := camAt c.val e.toNat
  (Tbl.get s.filt.cam k 0 = Tbl.get s.filt.shadow k 0 → Ends (.filtScrub c e) s s) ∧
  (Tbl.get s.filt.cam k 0 ≠ Tbl.get s.filt.shadow k 0 →
    ∃ t, Ends (.filtScrub c e) s t ∧ t.filt.shadow = s.filt.shadow ∧
      (∀ i, Tbl.get t.filt.cam i 0 = if i = k then Tbl.get s.filt.shadow k 0 else Tbl.get s.filt.cam i 0) ∧
      t.rd FILT_ERRS_SCRUB_FIXES c.val = min (s.rd FILT_ERRS_SCRUB_FIXES c.val + 1) 65535 ∧ t.pool = s.pool) ∧
  (∃ t, Ends (.filtSoftError c e) s t ∧ camValid (Tbl.get t.filt.cam k 0) = false ∧ camValid (t.camRead k) = false ∧
    bit (t.pgErr ⟨.filt, c.val⟩) 16 = true ∧ t.rd FILT_LOSS_ENTRY c.val = e.toNat ∧ t.flag FILT_LOSS_VALID c.val = true ∧
    t.pool = s.pool)

/-- Lookups over a chain, and the scrub of the tables. -/
def Obligations.ChainsAndScrubs : Prop := ChainLookups ∧ TablesAreScrubbed

/-- R295 to R297, R299, R302: the tuck on one device. ARM of a range in one core whose top entry is free runs it; each copy writes an
entry one up and moves the cursor, the last one writes the staged entry and ends it; ABORT ends it; RESUME of a tuck that is not HELD
is refused. -/
def TuckOnOneDevice : Prop := ∀ (s : State),
  (∀ path, s.Takes path ⟨.filt, 0⟩ → s.tuckState = tuckIdle → s.tuckRefusal = rcOk → s.chainPos = 0 → s.tuckH < 2 ^ 21 →
    ∃ t, Ends (.tuckArm path) s t ∧ t.tuckState = tuckRun ∧ t.filt.tuckNext = s.tuckH ∧ t.rd FILT_TUCK_CMD_RESULT = rcOk ∧
      t.filt.cam = s.filt.cam ∧ t.pool = s.pool) ∧
  (∀ path, s.Takes path ⟨.filt, 0⟩ → s.tuckRefusal ≠ rcOk →
    ∃ t, Ends (.tuckArm path) s t ∧ t = { s with regs := t.regs } ∧ t.rd FILT_TUCK_CMD_RESULT = s.tuckRefusal ∧ t.tuckState = s.tuckState) ∧
  (s.tuckState = tuckRun → s.filt.crossing = false → s.chainPos = 0 → s.filt.tuckNext < 2 ^ 21 → s.tuckG + 1 < s.filt.tuckNext →
    s.flag CORE_STAT_FENCED (s.filt.tuckNext / 16384) = false →
    ∃ t, Ends .tuckCopy s t ∧ t.tuckState = tuckRun ∧ t.filt.tuckNext = s.filt.tuckNext - 1 ∧
      t.rd FILT_TUCK_CUR_CURSOR = s.filt.tuckNext ∧ t.camRead s.filt.tuckNext = camStored (s.camRead (s.filt.tuckNext - 1)) ∧
      ∀ i, i ≠ s.filt.tuckNext → t.camRead i = s.camRead i ∧ Tbl.get t.filt.cam i 0 = Tbl.get s.filt.cam i 0) ∧
  (s.tuckState = tuckRun → s.filt.crossing = false → s.chainPos = 0 → s.filt.tuckNext < 2 ^ 21 → s.tuckG + 1 = s.filt.tuckNext →
    s.flag CORE_STAT_FENCED (s.filt.tuckNext / 16384) = false →
    ∃ t, Ends .tuckCopy s t ∧ t.tuckState = tuckIdle ∧ t.camRead s.filt.tuckNext = camStored (s.camRead (s.filt.tuckNext - 1)) ∧
      t.camRead s.tuckG = camStored s.tuckEnt) ∧
  (∀ path, s.Takes path ⟨.filt, 0⟩ → s.flag FILT_CHAIN_EN = false →
    ∃ t, Ends (.tuckAbort path) s t ∧ t.tuckState = tuckIdle ∧ t.filt.cam = s.filt.cam ∧ t.filt.shadow = s.filt.shadow ∧
      t.rd FILT_TUCK_CMD_RESULT = rcOk ∧ t.ports = s.ports) ∧
  (∀ path, s.Takes path ⟨.filt, 0⟩ → s.tuckState = tuckHeld → s.filt.heldRun = true → s.filt.lastMsg = none → s.chainPos = 0 →
    s.flag FILT_CHAIN_EN = true →
    ∃ t, Ends (.tuckResume path) s t ∧ t.tuckState = tuckRun ∧ t.rd FILT_TUCK_CMD_RESULT = rcOk ∧ t = { s with regs := t.regs })

/-- R297, R299: a tuck that crosses to the lower device. An ARMED device answers CONTINUE of its upper neighbour with its top entry in
two ENTRY messages; with both halves the upper device writes the entry, acknowledges and is IDLE; ACK starts the lower one's wait, at
whose end it runs from its top; ABORT makes a device IDLE; an unanswered ENTRY is sent again. -/
def TuckCrosses : Prop := ∀ (s : State) (p : PortId) (h : StitchHdr) (q : Nat), (h.dst = none ∨ h.dst = some s.ownFeid) →
  s.portOfFeid h.src = some q →
  (s.Admits p (.tuckContinue p h) → s.chainMsg h = true → s.tuckState = tuckArmed → h.pos.toNat = s.chainPos + 1 →
    s.chainFeid (s.chainPos + 1) = h.src →
    ∃ t lo hi, Ends (.tuckContinue p h) s t ∧ t.filt.cam = s.filt.cam ∧ t.tuckState = tuckArmed ∧
      (t.port q).egress = (s.port q).egress ++ [{ q := 2, msg := .tuck h.src (s.stitchHdr 0 0 stOk) tkEntry false lo },
        { q := 2, msg := .tuck h.src (s.stitchHdr 0 0 stOk) tkEntry true hi }] ∧
      lo.toNat = bits (s.camRead (2 ^ 21 - 1)) 255 0 ∧ hi.toNat = bits (s.camRead (2 ^ 21 - 1)) 511 256) ∧
  (∀ lo hi, s.Admits p (.tuckEntry p h true hi) → s.chainMsg h = true → s.tuckState = tuckRun → s.filt.crossing = true →
    s.filt.entryHalf = some lo →
    ∃ t, Ends (.tuckEntry p h true hi) s t ∧ t.tuckState = tuckIdle ∧
      t.camRead (s.filt.tuckNext % 2 ^ 21) = camStored (lo.toNat + hi.toNat * 2 ^ 256) ∧
      (t.port q).egress = (s.port q).egress ++ [{ q := 2, msg := .tuck h.src (s.stitchHdr 0 h.tag stOk) tkAck false 0 }]) ∧
  (s.Admits p (.tuckAck p h) → s.chainMsg h = true → s.tuckState = tuckArmed → s.filt.lastMsg.isSome = true →
    Ends (.tuckAck p h) s { s with filt := { s.filt with crossWait := true, lastMsg := none } }) ∧
  (s.filt.crossWait = true →
    ∃ t, Ends .tuckCrossWait s t ∧ t.tuckState = tuckRun ∧ t.filt.tuckNext = s.chainPos * 2 ^ 21 + (2 ^ 21 - 1) ∧
      t.filt.crossWait = false ∧ t.filt.cam = s.filt.cam ∧ t.ports = s.ports) ∧
  (s.Admits p (.tuckAbortMsg p h) → s.chainMsg h = true →
    ∃ t, Ends (.tuckAbortMsg p h) s t ∧ t.tuckState = tuckIdle ∧ t.filt.cam = s.filt.cam ∧ t.filt.crossing = false ∧
      t.filt.crossWait = false ∧ t.ports = s.ports) ∧
  (∀ m, s.filt.lastMsg = some (s.chainPos - 1, m) → s.tuckState = tuckRun → s.chainFeid (s.chainPos - 1) = h.src →
    ∃ t, Ends .tuckRetransmit s t ∧ t = { s with ports := t.ports } ∧
      (t.port q).egress = (s.port q).egress ++ [{ q := 2, msg := m }])

/-- The tuck, on one device and across two. -/
def Obligations.TucksInsertAnEntry : Prop := TuckOnOneDevice ∧ TuckCrosses

/-! ### Collective definitions (spec 11 R256, R273) -/

/-- R256, R273, R274: groups. DEFINE of an image that fits makes the group, once no leaf owns a line of it; one whose address is not
32-byte aligned is refused; DELETE removes a group, and is refused where there is none; the limit ends the root's open operation
TIMEOUT, and changes nothing where no operation is open. -/
def Obligations.GroupsAreDefined : Prop := ∀ (s : State) (path : Path) (g : BitVec 12), s.Takes path ⟨.coll, 0⟩ →
  (∀ grp, s.home.dir = [] → s.home.txns = [] → s.home.defines = [] → s.collDefineRes g.toNat s.groupImage = (rcOk, some grp) →
    ∃ t, Ends (.collDefine path g) s t ∧ t = { s with regs := t.regs, coll := t.coll } ∧ t.group g.toNat = some grp ∧
      t.rd COLL_GCMD_RESULT = rcOk) ∧
  (s.home.dir = [] → s.home.txns = [] → s.home.defines = [] → s.groupImage % 32 ≠ 0 →
    ∃ t, Ends (.collDefine path g) s t ∧ t = { s with regs := t.regs } ∧ t.rd COLL_GCMD_RESULT = rcAlign) ∧
  (s.home.defines ≠ [] → s.home.dir = [] → ∃ t, Ends (.collDefine path g) s t ∧ t.coll = s.coll ∧ t.pool = s.pool ∧
    t.home.defines = s.home.defines ++ [(g.toNat, s.groupImage)]) ∧
  (∀ grp, s.group g.toNat = some grp → grp.op = none →
    ∃ t, Ends (.collDelete path g) s t ∧ t = { s with regs := t.regs, coll := t.coll } ∧ t.group g.toNat = none ∧
      t.rd COLL_GCMD_RESULT = rcOk) ∧
  (s.group g.toNat = none →
    ∃ t, Ends (.collDelete path g) s t ∧ t = { s with regs := t.regs } ∧ t.rd COLL_GCMD_RESULT = rcDependency) ∧
  (∀ grp op, s.group g.toNat = some grp → grp.isRoot = true → grp.op = some op →
    ∃ t, Ends (.collLimit g) s t ∧ t.group g.toNat = some { grp with op := none, next := (grp.next + 1) % 2 ^ 16 } ∧ t.pool = s.pool) ∧
  (s.group g.toNat = none → Ends (.collLimit g) s s)

/-! ### Liveness (spec 15) -/

/-- No hand-over, group, procedure, held line or invalidation is under way, and nothing waits. -/
def NothingRuns (s : State) : Prop :=
  s.Quiet ∧ s.map.ho = [] ∧ s.coll = [] ∧ s.procs.procs = [] ∧ s.home.dir = [] ∧ s.home.snoopsTo = [] ∧ s.home.repl.invWait = [] ∧
    s.flag FILT_CHAIN_EN = false

/-- What a verdict against a FEID leaves (R341): its fence at that incarnation, LIVE_LAST, the counted event, no reply-cache entry
and no pin of it. -/
def FencedAs (s t : State) (f incarn : BitVec 16) (cause : Nat) : Prop :=
  Tbl.get? t.live.fences f.toNat = some (incarn, false) ∧ t.rd LIVE_LAST_W0_FEID = f.toNat ∧ t.rd LIVE_LAST_W0_INCARN = incarn.toNat ∧
    t.rd LIVE_LAST_W1_CAUSE = cause ∧ t.rd LIVE_LAST_W1_PORT = 0 ∧ t.rd LIVE_LAST_W1_VALID = 1 ∧
    t.tally .live 0x01 = s.tally .live 0x01 + 1 ∧ (∀ e ∈ t.rc, e.src ≠ f) ∧ (∀ q ∈ t.pub.pins, q.feid ≠ f) ∧ t.pool = s.pool

/-- What fencing itself leaves (R345, R346): FENCED with its cause, flushing, a snoop of every holder of every line, a write-back of
every dirty unit. -/
def SelfFenced (s t : State) (cause : Nat) : Prop :=
  t.selfFenced = true ∧ t.rd LIVE_STAT_CAUSE = cause ∧ t.flag LIVE_STAT_FLUSHING = true ∧ bit (t.pgErr ⟨.live, 0⟩) 17 = true ∧
    (∀ e ∈ s.home.dir, ∀ p ∈ s.holders e.2, (p, e.1) ∈ t.home.snoopsTo) ∧
    (∀ q ∈ s.tier.t1, ∀ u < 16, bit q.2.dirty u = true → ∃ b, (16 * q.1 + u, b) ∈ t.tier.wbs) ∧ t.pool = s.pool

/-- R337 to R342: votes and verdicts. A SUSPECT seen for the first time goes on to every other member neighbour and its vote is kept
while it makes no majority; a majority, here a jury of one, is a verdict. WITHDRAW takes the juror's vote back. A VERDICT fences its
subject, and this device itself where it names its current incarnation. -/
def Obligations.VotesAndVerdicts : Prop := ∀ (s : State) (p : PortId) (m : LiveMsg),
  (s.gate p.val (.suspect p m) = .pass → s.liveSeen lvSuspect m = false → m.isPort = false → s.feidFenced m.subject = false →
    s.live.votes = [] → m.jury ≠ 1 →
    ∃ t, Ends (.suspect p m) s t ∧
      t = { s with ports := t.ports, live := { s.live with
        seen := s.live.seen ++ [liveId lvSuspect m]
        votes := [{ subject := m.subject, incarn := m.incarn, juror := m.origin, jury := m.jury.toNat }] } } ∧
      ∀ q f, q ≠ p.val → s.role q = .trunk → s.partner q = some f → s.feidFenced f = false →
        { q := 0, msg := .live lvSuspect f m } ∈ (t.port q).egress) ∧
  (s.gate p.val (.suspect p m) = .pass → s.liveSeen lvSuspect m = false → m.isPort = false → s.feidFenced m.subject = false →
    m.subject ≠ s.ownFeid → NothingRuns s → (∀ q, s.role q = .leaf → s.portsTo m.subject q = false) → s.live.votes = [] → m.jury = 1 →
    ∃ t, Ends (.suspect p m) s t ∧ FencedAs s t m.subject m.incarn 1) ∧
  (s.gate p.val (.withdraw p m) = .pass → s.liveSeen lvWithdraw m = false →
    ∃ t, Ends (.withdraw p m) s t ∧
      t = { s with ports := t.ports, live := { s.live with
        seen := s.live.seen ++ [liveId lvWithdraw m]
        votes := s.live.votes.filter (fun v => !(v.subject == m.subject && v.incarn == m.incarn && v.juror == m.origin)) } }) ∧
  (s.gate p.val (.verdict p m) = .pass → s.liveSeen lvVerdict m = false → m.isPort = false → m.subject ≠ s.ownFeid →
    s.feidFenced m.subject = false → NothingRuns s → (∀ q, s.role q = .leaf → s.portsTo m.subject q = false) →
    ∃ t, Ends (.verdict p m) s t ∧ FencedAs s t m.subject m.incarn m.cause.toNat) ∧
  (s.gate p.val (.verdict p m) = .pass → s.liveSeen lvVerdict m = false → m.isPort = false → m.subject = s.ownFeid →
    m.incarn = s.ownIncarn → s.selfFenced = false → s.procs.procs = [] → s.coll = [] → s.map.ho = [] →
    ∃ t, Ends (.verdict p m) s t ∧ SelfFenced s t m.cause.toNat)

/-- R349: rejoining. REJOIN under a newer incarnation ends the subject's fence, and a neighbouring device is answered with REJOIN_ACK
and the fence table; a majority of answers makes a joining device MEMBER; a FENCE_ENTRY goes into its table; REJOIN goes out again
while it joins. -/
def Obligations.Rejoining : Prop := ∀ (s : State) (p : PortId) (m : LiveMsg),
  (∀ old q, s.gate p.val (.rejoin p m) = .pass → s.liveSeen lvRejoin m = true → Tbl.get? s.live.fences m.subject.toNat = some (old, q) →
    newerThan m.incarn old = true → s.rc = [] → s.pub.pins = [] → s.pub.replicas = [] → s.pub.regions = [] →
    ∃ t, Ends (.rejoin p m) s t ∧
      t = { s with ports := t.ports, live := { s.live with fences := Tbl.del s.live.fences m.subject.toNat, incarns := t.live.incarns } } ∧
      t.feidFenced m.subject = false ∧
      ((∀ k, Tbl.get? s.live.incarns m.subject.toNat = some k → newerThan m.incarn k = true) →
        Tbl.get? t.live.incarns m.subject.toNat = some m.incarn) ∧
      ∀ r, (s.ydPorts.filter (fun q => s.role q == .trunk)).find? (fun q => s.partner q == some m.subject) = some r →
        (∃ a, a.count.toNat = min t.live.fences.length 65535 ∧ { q := 0, msg := .live lvRejoinAck m.subject a } ∈ (t.port r).egress) ∧
        ∀ e ∈ t.live.fences, ∃ a, a.subject = BitVec.ofNat 16 e.1 ∧ a.incarn = e.2.1 ∧
          { q := 0, msg := .live lvFenceEntry m.subject a } ∈ (t.port r).egress) ∧
  (∀ f, s.gate p.val (.rejoinAck p m) = .pass → s.partner p.val = some f → s.devNeighbours = [f.toNat] → s.rd LIVE_STAT_STATE = lsJoining →
    ∃ t, Ends (.rejoinAck p m) s t ∧ t.rd LIVE_STAT_STATE = lsMember ∧ t.pool = s.pool ∧ t.home = s.home ∧ t.ports = s.ports) ∧
  (s.gate p.val (.fenceEntry p m) = .pass → Tbl.get? s.live.fences m.subject.toNat = none →
    Ends (.fenceEntry p m) s
      { s with live := { s.live with fences := Tbl.put s.live.fences m.subject.toNat (m.incarn, false) } }) ∧
  (s.rd LIVE_STAT_STATE = lsJoining →
    ∃ t, Ends .rejoinResend s t ∧ t = { s with ports := t.ports } ∧
      ∀ q f, (s.role q = .trunk ∨ s.role q = .leaf) → s.partner q = some f → s.feidFenced f = false →
        { q := 0, msg := .live lvRejoin f (s.ownLive 0 s.ownFeid s.ownIncarn) } ∈ (t.port q).egress)

/-- R336 to R338, R353, R354: liveness timers. An interval's end moves CLK_TS to the next multiple of 20 µs, accounts 20 µs to the
state the causes mean, and, LIVE enabled, suspects the known neighbour unheard for MISS intervals; a juror's SUSPECT goes out again;
an identity is forgotten; the end of the flush shows. SNAP shows the accounts, CLEAR ends them. -/
def Obligations.LivenessTimers : Prop := ∀ s : State,
  (s.enabled .live = false → s.power.refLost = false → s.ts.toNat < 10 ^ 18 →
    ∃ t, Ends .hbIntervalEnd s t ∧ t = { s with ts := t.ts, ports := t.ports, live := t.live } ∧
      t.ts.toNat = (s.ts.toNat / 20000 + 1) * 20000 ∧
      t.live = { s.live with prog := addProg s.live.prog (progState s.progCause) 20, interval := s.live.interval + 1, heard := [] }) ∧
  (∀ f i n k, s.enabled .live = true → s.selfFenced = false → s.live.incarns = [(f, i)] → s.live.ndev = [(f, n)] → f < 65536 → 2 ≤ n →
    s.live.fences = [] → s.live.votes = [] → s.live.suspects = [] → s.live.heard = [] → s.live.missed = [(f, k)] → s.live.isoN = 0 →
    s.rd LIVE_CFG_MISS ≤ k + 1 →
    ∃ t, Ends .hbIntervalEnd s t ∧ t.live.suspects = [BitVec.ofNat 16 f] ∧ t.live.missed = [(f, k + 1)] ∧ t.live.fences = [] ∧
      t.live.votes.map (fun v => (v.subject, v.incarn, v.juror)) = [(BitVec.ofNat 16 f, i, s.ownDev)] ∧ t.pool = s.pool) ∧
  (∀ f : Feid, s.live.suspects.contains f = true →
    ∃ t, Ends (.suspectResend f) s t ∧ t = { s with ports := t.ports } ∧
      ∀ q g, s.role q = .trunk → s.partner q = some g → s.feidFenced g = false →
        ∃ m, m.subject = f ∧ { q := 0, msg := .live lvSuspect g m } ∈ (t.port q).egress) ∧
  (∀ (k : BitVec 8) (m : LiveMsg), Ends (.liveIdExpire k m) s
    { s with live := { s.live with seen := s.live.seen.filter (fun i => i != liveId k m) } }) ∧
  (s.flag LIVE_STAT_FLUSHING = true → s.home.snoopsTo = [] → s.tier.wbs = [] → s.live.flushReset = false →
    Ends .flushDone s (if s.flushLeft then s.flush else s.set LIVE_STAT_FLUSHING 0)) ∧
  (∀ path a b c, s.Takes path ⟨.live, 0⟩ → s.live.prog = [a, b, c] → a < 2 ^ 64 → b < 2 ^ 64 → c < 2 ^ 64 →
    (∃ t, Ends (.progSnap path) s t ∧ t = { s with regs := t.regs } ∧
      t.rd PROG_NORMAL_LO_NORMAL + 2 ^ 32 * t.rd PROG_NORMAL_HI_NORMAL = a ∧
      t.rd PROG_DEGRADED_LO_DEGRADED + 2 ^ 32 * t.rd PROG_DEGRADED_HI_DEGRADED = b ∧
      t.rd PROG_RECOVERING_LO_RECOVERING + 2 ^ 32 * t.rd PROG_RECOVERING_HI_RECOVERING = c) ∧
    (∃ t, Ends (.progClear path) s t ∧ t = { s with regs := t.regs, live := { s.live with prog := [0, 0, 0] } } ∧
      t.rd PROG_NORMAL_LO_NORMAL = 0 ∧ t.rd PROG_DEGRADED_LO_DEGRADED = 0 ∧ t.rd PROG_RECOVERING_LO_RECOVERING = 0))

/-- R343 to R346, R351: the LIVE commands. DECLARE of a port fences it, with PG_ERR bit 19; of another FEID it is a verdict; of the
device's own FEID it is refused FIELD_RANGE. FORGET marks a fence as administrative and is refused where none stands. SELF_FENCE
fences the device with CAUSE 4, and does nothing on a device that is fenced. -/
def Obligations.LivenessCommands : Prop := ∀ (s : State) (path : Path) (port : BitVec 8) (f : Feid), s.Takes path ⟨.live, 0⟩ →
  (NothingRuns s → s.rd PORT_FSTAT_FENCED port.toNat = 0 →
    ∃ t, Ends (.declare path true port f) s t ∧ t.rd LIVE_CMD_STAT_RESULT = rcOk ∧ t.rd PORT_FSTAT_FENCED port.toNat = 1 ∧
      bit (t.pgErr ⟨.port, port.toNat⟩) 19 = true ∧ t.rd LIVE_LAST_W0_FEID = port.toNat ∧ t.rd LIVE_LAST_W1_PORT = 1 ∧
      t.rd LIVE_LAST_W1_CAUSE = 4 ∧ t.pool = s.pool) ∧
  (f = s.ownFeid → ∃ t, Ends (.declare path false port f) s t ∧ t = { s with regs := t.regs } ∧ t.rd LIVE_CMD_STAT_RESULT = rcFieldRange) ∧
  (f ≠ s.ownFeid → s.feidFenced f = false → NothingRuns s → (∀ q, s.role q = .leaf → s.portsTo f q = false) →
    ∃ t, Ends (.declare path false port f) s t ∧ t.rd LIVE_CMD_STAT_RESULT = rcOk ∧
      FencedAs s t f (Tbl.get s.live.incarns f.toNat 0) 4) ∧
  (∀ i, Tbl.get? s.live.fences f.toNat = some (i, false) →
    ∃ t, Ends (.forget path f) s t ∧
      t = { s with regs := t.regs, live := { s.live with fences := Tbl.put s.live.fences f.toNat (i, true) } } ∧
      t.rd LIVE_CMD_STAT_RESULT = rcOk) ∧
  (Tbl.get? s.live.fences f.toNat = none →
    ∃ t, Ends (.forget path f) s t ∧ t = { s with regs := t.regs } ∧ t.rd LIVE_CMD_STAT_RESULT = rcDependency) ∧
  (s.selfFenced = false → s.procs.procs = [] → s.coll = [] → s.map.ho = [] →
    ∃ t, Ends (.selfFence path) s t ∧ SelfFenced s t 4 ∧ t.rd LIVE_CMD_STAT_RESULT = rcOk) ∧
  (s.selfFenced = true → ∃ t, Ends (.selfFence path) s t ∧ t = { s with regs := t.regs } ∧ t.rd LIVE_CMD_STAT_RESULT = rcOk)

/-! ### Links and Yarlia Direct (spec 02, 16) -/

/-- R25 to R27, R33 to R36, R43: training. A port that may train and is down comes up at the lesser width and rate: in YD mode with
sequence numbers and credits anew and INIT in front of its egress, where its role, YD_EN, the partner and the FEID allow it, else in
CXL mode; a POD_EDGE TRUNK port that finds no YD partner stays down. A retrain keeps mode, credits and queues, and sends every
unconfirmed flit again. -/
def Obligations.LinkTraining : Prop := ∀ (s : State) (p : PortId) (w r : BitVec 2) (yd rev : Bool), s.mayTrain p.val = true → r ≠ 3 →
  (s.linked p.val = false → s.trainsYd p.val yd = false → (s.role p.val = .trunk → s.flag PORT_CFG_POD_EDGE p.val = false) →
    ∃ t, Ends (.linkUp p w r yd rev) s t ∧ t = { s with regs := t.regs, ports := t.ports } ∧ t.up p.val = true ∧
      t.rd PORT_LSTAT_MODE p.val = 0 ∧ t.rd PORT_LSTAT_WIDTH p.val = min w.toNat (s.cfgWidth p.val) ∧
      t.rd PORT_LSTAT_RATE p.val = max r.toNat (s.rd PORT_CFG_MAX_RATE p.val) ∧ t.rd PORT_LSTAT_REVERSED p.val = b2n rev ∧
      t.rd PORT_LSTAT_PM p.val = 0 ∧ t.rd PORT_FSTAT_FENCED p.val = 0 ∧
      t.port p.val = { s.port p.val with trained := min w.toNat (s.cfgWidth p.val) }) ∧
  (s.linked p.val = false → s.trainsYd p.val yd = true →
    ∃ t, Ends (.linkUp p w r yd rev) s t ∧ t = { s with regs := t.regs, ports := t.ports, free := s.free + 3 } ∧
      t.ydUp p.val = true ∧ t.rd PORT_LSTAT_YD_FALLBACK p.val = 0 ∧ (t.port p.val).txSeq = 0 ∧ (t.port p.val).rxSeq = 0 ∧
      (t.port p.val).replay = [] ∧ (t.port p.val).credit = [0, 0, 0, 0] ∧ (t.port p.val).initRx = false ∧
      (t.port p.val).egress.head? = some { q := 0, msg := .ydInit s.ownFeid s.ownDev s.ownIncarn }) ∧
  (s.linked p.val = false → s.trainsYd p.val yd = false → s.role p.val = .trunk → s.flag PORT_CFG_POD_EDGE p.val = true →
    Ends (.linkUp p w r yd rev) s (s.set PORT_LSTAT_YD_FALLBACK 1 p.val)) ∧
  ((s.port p.val).retraining = true →
    ∃ t, Ends (.linkUp p w r yd rev) s t ∧ t.pool = s.pool ∧ t.home = s.home ∧ t.map = s.map ∧ t.up p.val = true ∧
      t.rd PORT_LSTAT_MODE p.val = s.rd PORT_LSTAT_MODE p.val ∧
      t.port p.val = { s.port p.val with
        retraining := false, nakCount := 0, trained := min w.toNat (s.cfgWidth p.val), ideCount := (t.port p.val).ideCount } ∧
      (s.rd PORT_INJ_TX_CRC p.val = 0 → s.rd PORT_INJ_TX_BYTE p.val = 0 →
        ∀ f ∈ (s.port p.val).replay, ∀ q ∈ f.2, .tx p.val q.msg ∈ t.out)) ∧
  (s.up p.val = false → s.flag PORT_CFG_YD_EN p.val = true → (s.role p.val = .leaf ∨ s.role p.val = .trunk) →
    Ends (.ydFallback p) s ((s.set PORT_LSTAT_YD_FALLBACK 1 p.val).modPort p.val (fun x => { x with
      ydDeclined := true
      retraining := false })))

/-- R31, R371, R466: a link that goes down while its port is quiesced loses nothing; otherwise DOWN_UNQUIESCED is set, with PG_ERR bit
18. A hot reset of a TRUNK or MGMT port ends a port fence, what the port held and its fallback. -/
def LinkDownLatched : Prop := ∀ (s : State) (p : PortId), s.linked p.val = true →
  (s.quiescedDown p.val = true →
    ∃ t, Ends (.linkDown p) s t ∧ t = { s with regs := t.regs, ports := t.ports } ∧ t.linked p.val = false ∧
      t.rd PORT_FSTAT_DOWN_UNQUIESCED p.val = s.rd PORT_FSTAT_DOWN_UNQUIESCED p.val ∧
      (t.port p.val).egress = (s.port p.val).egress ∧ (t.port p.val).replay = (s.port p.val).replay) ∧
  (s.quiescedDown p.val = false → (s.role p.val = .trunk ∨ s.role p.val = .mgmt) →
    ∃ t, Ends (.linkDown p) s t ∧ t = { s with regs := t.regs, ports := t.ports, mgmt := t.mgmt } ∧ t.linked p.val = false ∧
      t.flag PORT_FSTAT_DOWN_UNQUIESCED p.val = true ∧ bit (t.pgErr ⟨.port, p.val⟩) 18 = true) ∧
  (s.role p.val = .trunk ∨ s.role p.val = .mgmt →
    ∃ t, Ends (.hotReset p) s t ∧ t.linked p.val = false ∧ t.rd PORT_FSTAT_FENCED p.val = 0 ∧
      t.rd PORT_LSTAT_YD_FALLBACK p.val = 0 ∧ (t.port p.val).ydDeclined = false ∧ (t.port p.val).held = [] ∧
      (t.port p.val).l1Wait = [] ∧ (t.port p.val).fences = [] ∧ t.pool = s.pool ∧ t.home.dir = s.home.dir)

/-- R38, R43, R46, R52: what a YD link does with a flit that is not stomped. One whose FEC fails is not confirmed, counted in CRC_ERRS
and answered with a NAK of the last good number; one that comes too early is answered with a NAK once; a PAYLOAD flit in sequence,
here without messages, is confirmed and frees what its ACK covers. -/
def Obligations.FlitsAreConfirmed : Prop := ∀ (s : State) (p : PortId) (flit : BitVec 2048) (ok : Bool),
  s.ydUp p.val = true → s.up p.val = true →
  let l := bytesOf 256 flit.toNat
  (stomped l = false → fecDecode l = none →
    ∃ t, Ends (.ydFlitRx p flit ok) s t ∧ t.pool = s.pool ∧ t.home = s.home ∧ (t.port p.val).awaitReplay = true ∧
      (t.port p.val).rxSeq = (s.port p.val).rxSeq ∧ t.rd PORT_ERRS_CRC_ERRS p.val = min (s.rd PORT_ERRS_CRC_ERRS p.val + 1) 65535 ∧
      (t.port p.val).egress = (s.port p.val).egress ++ [{ q := 0, msg := .ydNak ((s.port p.val).rxSeq - 1) }]) ∧
  (∀ b fixed, stomped l = false → fecDecode l = some (b, fixed) → s.rd PORT_INJ_RX_CRC p.val = 0 →
    s.rd PORT_LSTAT_IDE_ACTIVE p.val = 0 → crc64 (b.take 244) = ofBytes ((b.drop 244).take 8) →
    let head := ofBytes ((b.take 244).take 4)
    let ack : BitVec 12 := BitVec.ofNat 12 (bits head 27 16)
    bit head 28 = false →
    (bits head 3 0 = 1 → BitVec.ofNat 12 (bits head 15 4) = (s.port p.val).rxSeq →
      takeSlots 16 none (flitSlots false (b.take 244)) = [] →
      ∃ t, Ends (.ydFlitRx p flit ok) s t ∧ t.pool = s.pool ∧ t.home = s.home ∧ (t.port p.val).rxSeq = (s.port p.val).rxSeq + 1 ∧
        (t.port p.val).awaitReplay = false ∧ (t.port p.val).replay = (s.port p.val).replay.filter (fun r => !ackCovers ack r.1) ∧
        (t.port p.val).egress = (s.port p.val).egress) ∧
    (BitVec.ofNat 12 (bits head 15 4) ≠ (s.port p.val).rxSeq →
      ackCovers ((s.port p.val).rxSeq - 1) (BitVec.ofNat 12 (bits head 15 4)) = false → (s.port p.val).awaitReplay = false →
      ∃ t, Ends (.ydFlitRx p flit ok) s t ∧ t.pool = s.pool ∧ t.home = s.home ∧ (t.port p.val).rxSeq = (s.port p.val).rxSeq ∧
        (t.port p.val).awaitReplay = true ∧
        (t.port p.val).egress = (s.port p.val).egress ++ [{ q := 0, msg := .ydNak ((s.port p.val).rxSeq - 1) }]))

/-- R36, R42, R43, R336: link control. A NAK has every flit after its ACK sent again, REPLAYS counting it, and the eighth in a row for
one number retrains the link; CREDIT adds to its class; INIT introduces the partner; a heartbeat marks its sender heard, and every
introduced YD link gets one. -/
def Obligations.LinkControl : Prop := ∀ (s : State) (p : PortId),
  (∀ ack : BitVec 12, s.ydUp p.val = true → ((s.port p.val).nakAck = ack → (s.port p.val).nakCount < 7) →
    s.rd PORT_INJ_TX_CRC p.val = 0 → s.rd PORT_INJ_TX_BYTE p.val = 0 →
    ∃ t, Ends (.ydNakRx p ack) s t ∧ t.pool = s.pool ∧ t.home = s.home ∧
      (t.port p.val).replay = (s.port p.val).replay.filter (fun r => !ackCovers ack r.1) ∧
      t.rd PORT_ERRS_REPLAYS p.val = min (s.rd PORT_ERRS_REPLAYS p.val + 1) 65535 ∧
      ∀ r ∈ (s.port p.val).replay, ackCovers ack r.1 = false → ∀ q ∈ r.2, .tx p.val q.msg ∈ t.out) ∧
  (∀ ack : BitVec 12, s.ydUp p.val = true → (s.port p.val).nakAck = ack → (s.port p.val).nakCount = 7 →
    ∃ t, Ends (.ydNakRx p ack) s t ∧ t.pool = s.pool ∧ t.home = s.home ∧ t.up p.val = false ∧ (t.port p.val).retraining = true ∧
      (t.port p.val).nakCount = 0 ∧ t.out = s.out) ∧
  (∀ (c : BitVec 2) (n : Nat), s.ydUp p.val = true → c ≠ 0 →
    Ends (.credit p c n) s (s.modPort p.val (fun x => { x with credit := addCredit x.credit c.toNat n }))) ∧
  (∀ (f : Feid) (d : DevId) (i : BitVec 16), s.ydUp p.val = true → s.role p.val ≠ .leaf → Tbl.get? s.live.incarns f.toNat = none →
    ∃ t, Ends (.init p f d i) s t ∧
      t = { s with regs := t.regs, ports := t.ports, live := { s.live with incarns := Tbl.put s.live.incarns f.toNat i } } ∧
      t.rd PORT_LSTAT_PARTNER_FEID p.val = f.toNat ∧
      t.port p.val = { s.port p.val with initRx := true, partnerDev := d, partnerIncarn := i }) ∧
  (∀ (f : Feid) (i : BitVec 16) (n : BitVec 8), s.gate p.val (.hb p f i n) = .pass → s.feidFenced f = false →
    Tbl.get? s.live.incarns f.toNat = some i → f ∉ s.live.suspects →
    Ends (.hb p f i n) s { s with live := { s.live with
      heard := if s.live.heard.contains f then s.live.heard else s.live.heard ++ [f]
      ndev := Tbl.put s.live.ndev f.toNat n.toNat } }) ∧
  (s.enabled .live = true → ∃ t, Ends .hbSend s t ∧ t = { s with ports := t.ports } ∧
    ∀ q ∈ s.ydPorts, { q := 0, msg := .hb s.ownIncarn (BitVec.ofNat 8 s.devNeighbours.length) } ∈ (t.port q).egress)

/-- R307, R440: a message boundary of an egress port. An eligible head of Q0 is sent before anything else and leaves the queue; where
nothing waits nothing is sent. The injections of PORT_INJ are set for the next flit. -/
def Obligations.EgressAndInjection : Prop := ∀ (s : State) (p : PortId),
  (∀ e, s.strictHead p.val 0 = some e → s.eligible p.val e = true → s.rd PORT_INJ_TX_CRC p.val = 0 → s.rd PORT_INJ_TX_BYTE p.val = 0 →
    ∃ t, Ends (.egressSchedule p) s t ∧ t.pool = s.pool ∧ t.home = s.home ∧ t.map = s.map ∧ .tx p.val e.msg ∈ t.out ∧
      (t.port p.val).egress = (withMask (s.port p.val).egress e).foldl (fun l f => l.erase f) (s.port p.val).egress ∧
      (t.port p.val).egress.length < (s.port p.val).egress.length) ∧
  ((s.port p.val).egress = [] → Ends (.egressSchedule p) s s) ∧
  (∀ path, s.Takes path ⟨.port, p.val⟩ →
    (∃ t, Ends (.txCrc path p) s t ∧ t = { s with regs := t.regs } ∧
      ∀ b, t.reg b = if b = PORT_INJ_TX_CRC.addr p.val then s.reg b ||| 1 else s.reg b) ∧
    (∃ t, Ends (.txByte path p) s t ∧ t = { s with regs := t.regs } ∧
      ∀ b, t.reg b = if b = PORT_INJ_TX_CRC.addr p.val then s.reg b ||| 2 else s.reg b) ∧
    (∃ t, Ends (.rxCrc path p) s t ∧ t = { s with regs := t.regs } ∧
      ∀ b, t.reg b = if b = PORT_INJ_TX_CRC.addr p.val then s.reg b ||| 4 else s.reg b))

/-- R29, R362, R369: power states of a link. A CXL link whose L1_EN is set enters L1; its exit brings it back to L0, and what waited
for it is taken in order; an up link whose L0P_EN is set goes to a width step of its port, not above the width it trained at nor, on a
LEAF or TRUNK port of a die that throttles, above half of it. -/
def LinkPowerStates : Prop := ∀ (s : State) (p : PortId),
  (s.up p.val = true → s.rd PORT_LSTAT_MODE p.val = 0 → s.flag PORT_CFG_L1_EN p.val = true →
    Ends (.l1Entry p) s ((s.set PORT_LSTAT_PM 2 p.val).set PORT_LSTAT_UP 0 p.val)) ∧
  (s.rd PORT_LSTAT_PM p.val = 2 → Ends (.l1Exit p) s ((s.port p.val).l1Wait.foldl State.take
    (((s.set PORT_LSTAT_PM 0 p.val).set PORT_LSTAT_UP 1 p.val).modPort p.val (fun x => { x with l1Wait := [] })))) ∧
  (∀ w : BitVec 2, s.up p.val = true → s.flag PORT_CFG_L0P_EN p.val = true → s.l0pStep p.val w.toNat = true →
    (s.dieHot p.val = false → w.toNat ≤ (s.port p.val).trained →
      Ends (.l0pWidthChange p w) s ((s.set PORT_LSTAT_WIDTH w.toNat p.val).set PORT_LSTAT_PM
        (if w.toNat < (s.port p.val).trained then 1 else 0) p.val)) ∧
    (s.dieHot p.val = true → (s.role p.val = .leaf ∨ s.role p.val = .trunk) → (s.port p.val).trained - 1 < w.toNat →
      Ends (.l0pWidthChange p w) s s))

/-- A link that goes down, and a link that changes its power state. -/
def Obligations.LinkDownAndPowerStates : Prop := LinkDownLatched ∧ LinkPowerStates

/-! ### Power, clocks and reset (spec 16, 18, 21, 22) -/

/-- R356 to R359: feeds of a module whose Pocket has no power (a powered one logs the change beside this). A feed that turns bad hands
the load to the other where that one is good, counted in PWR_XFER, as event FEED_XFER and in PG_ERR bit 16; else the hold-up carries
the module, with PG_ERR bit 17 and the last-gasp record. A feed that turns good ends a hold-up. A, good for RETURN_MS, takes the load
back. The end of a hold-up takes power from the dies: of memory, what the trays hold is left. -/
def FeedsCarryTheLoad : Prop := ∀ (s : State) (f : Feed), s.pocket.powered = false →
  (s.power.supply = .on → s.rd PWR_STAT_FEED = feedCode f → s.flag (feedField (otherFeed f)) = true →
    ∃ t, Ends (.feedBad f) s t ∧ s.SameWork t ∧ t.power = s.power ∧ t.flag (feedField f) = false ∧
      t.rd PWR_STAT_FEED = feedCode (otherFeed f) ∧ t.rd PWR_XFER_LAST_TO = feedCode (otherFeed f) ∧
      t.rd PWR_XFER_COUNT = min (s.rd PWR_XFER_COUNT + 1) 65535 ∧ t.tally .pwr 0x01 = s.tally .pwr 0x01 + 1 ∧
      bit (t.pgErr { blk := .pwr }) 16 = true) ∧
  (s.power.supply = .on → s.rd PWR_STAT_FEED = feedCode f → s.flag (feedField (otherFeed f)) = false →
    ∃ t, Ends (.feedBad f) s t ∧ s.SameWork t ∧ t.power = { s.power with supply := .holdup } ∧ t.flag (feedField f) = false ∧
      t.rd PWR_STAT_FEED = 3 ∧ bit (t.pgErr { blk := .pwr }) 17 = true ∧
      t.fw = { s.fw with lastGasp := some (s.ts.toNat, s.dirtyUnits, false) }) ∧
  (s.power.supply = .holdup → ∃ t, Ends (.feedGood f) s t ∧ s.SameWork t ∧ t.power = { s.power with supply := .on } ∧
    t.flag (feedField f) = true ∧ t.rd PWR_STAT_FEED = feedCode f ∧
    s.SameRegsBut t [PWR_STAT_FEED.addr]) ∧
  (s.power.supply = .on → s.rd PWR_STAT_FEED = 2 → s.flag PWR_STAT_A_GOOD = true →
    ∃ t, Ends .feedReturn s t ∧ s.SameWork t ∧ t.power = s.power ∧ t.rd PWR_STAT_FEED = 1 ∧ t.rd PWR_XFER_LAST_TO = 1 ∧
      t.rd PWR_XFER_COUNT = min (s.rd PWR_XFER_COUNT + 1) 65535 ∧ t.tally .pwr 0x01 = s.tally .pwr 0x01 + 1) ∧
  (s.power.supply = .holdup → ∃ t, Ends .holdupEnd s t ∧ t.power.supply = .off ∧ t.power.lastOff = 1 ∧
    t.pool.cur = s.pool.tray ∧ t.pool.tray = s.pool.tray ∧ t.home = {} ∧ t.map = {} ∧ t.procs = {} ∧ t.ports = [] ∧ t.sec = { opDigest := s.sec.opDigest } ∧
    t.pocket = s.pocket ∧ t.fw.svn = s.fw.svn ∧ t.fw.saved = s.fw.saved ∧ t.rd POCKET_STAT_ALIVE = 0)

/-- R361 to R363: the power cap, the peak and the temperatures. An average above the cap lowers the engines' duty by one eighth, down
to one; one at most 95 percent of it raises it by one, up to eight; PWR_STAT.CAPPED shows a lowered duty. An input above 2.9 kW stops
the engines until it is below 2.4 kW. A die's reading reaches PWR_TEMP; at 100 °C the central die or a compute die loses one eighth of
its duty, counted as event THERM_THROTTLE. A trip takes power from the dies, with CAUSE 2 of the next power-on reset and a last-gasp
record that says so. -/
def PowerAndHeat : Prop := ∀ s : State,
  (∀ w : BitVec 16, 10 * s.rd PWR_CAP_CAP < w.toNat →
    ∃ t, Ends (.pwrCapStep w) s t ∧ s.SameWork t ∧ t.power = { s.power with duty := max (s.power.duty - 1) 1 } ∧
      t.rd PWR_INPUT_WATTS = w.toNat ∧ t.flag PWR_STAT_CAPPED = true ∧ (s.power.duty = 8 → bit (t.pgErr { blk := .pwr }) 18 = true)) ∧
  (∀ w : BitVec 16, 100 * w.toNat ≤ 95 * (10 * s.rd PWR_CAP_CAP) →
    ∃ t, Ends (.pwrCapStep w) s t ∧ s.SameWork t ∧ t.power = { s.power with duty := min (s.power.duty + 1) 8 } ∧
      t.rd PWR_INPUT_WATTS = w.toNat ∧ (t.flag PWR_STAT_CAPPED = true ↔ s.power.duty + 1 < 8)) ∧
  (∀ w : BitVec 16, 2900 < w.toNat → ∃ t, Ends (.pwrPeak w) s t ∧ s.SameWork t ∧ t.power = { s.power with peak := true } ∧
    t.enginesIssue = false) ∧
  (∀ w : BitVec 16, w.toNat < 2400 → Ends (.pwrPeak w) s { s with power := { s.power with peak := false } }) ∧
  (∀ c : BitVec 8, 100 ≤ c.toNat → s.power.temps = [] →
    ∃ t, Ends (.thermStep 9 c) s t ∧ s.SameWork t ∧ t.rd PWR_TEMP_MAX_C = c.toNat ∧ t.rd PWR_TEMP_DIE = 9 ∧
      Tbl.get t.power.thermDuty 9 8 = max (Tbl.get s.power.thermDuty 9 8 - 1) 1 ∧
      (2 ≤ Tbl.get s.power.thermDuty 9 8 → t.tally .pwr 0x02 = s.tally .pwr 0x02 + 1)) ∧
  (∀ d, s.power.supply = .on → ∃ t, Ends (.thermalTrip d) s t ∧ t.power.supply = .tripped ∧ t.power.lastOff = 2 ∧
    t.fw.lastGasp = some (s.ts.toNat, s.dirtyUnits, true) ∧ t.pool.cur = s.pool.tray ∧ t.home = {} ∧ t.procs = {} ∧ t.sec = { opDigest := s.sec.opDigest } ∧
    t.pocket = s.pocket)

/-- The feeds, the power cap, the peak guard and the temperatures. -/
def Obligations.FeedsPowerAndHeat : Prop := FeedsCarryTheLoad ∧ PowerAndHeat

/-- What a DEV_RESET leaves (spec 16 R371, R373, R374; 14 R334): RST_REASON as given, start-up at step 3, no link, map, home,
directory, procedure, group, session, key or liveness state; of memory, what the trays hold; the extents with a dirty unit
frozen in RST_DIRTY; every context FREE, cooling, its GEN one higher; incarnation, Pocket and flash as they were. -/
def ResetTo (cause : Nat) (flushed : Bool) (s t : State) : Prop :=
  t.rd RST_REASON_CAUSE = cause ∧ t.rd RST_REASON_FLUSHED = b2n flushed ∧
    t.rd RST_REASON_DIRTY_LOST = b2n (!s.dirtyExtents.isEmpty) ∧ t.rd RST_STAT_STEP = 3 ∧ t.rd RST_STAT_READY = 0 ∧
    t.ports = [] ∧ t.map = {} ∧ t.home = {} ∧ t.pub = {} ∧ t.rc = [] ∧ t.procs = {} ∧ t.coll = [] ∧ t.sec = { opDigest := s.sec.opDigest } ∧ t.live = {} ∧
    t.tier = {} ∧ t.qos = [] ∧ t.pool.cur = s.pool.tray ∧ t.pool.tray = s.pool.tray ∧ t.power.dirtyMarks = s.dirtyExtents ∧
    t.rd LIVE_INCARN_INCARN = s.rd LIVE_INCARN_INCARN ∧ t.pocket = s.pocket ∧ t.fw.svn = s.fw.svn ∧ t.fw.saved = s.fw.saved ∧
    (∀ x < 4096, t.rd CTX_STAT_STATE x = ctxFree ∧ t.rd CTX_STAT_COOLING x = 1 ∧
      t.rd CTX_STAT_GEN x = (s.rd CTX_STAT_GEN x + 1) % 256)

/-- R363, R367, R371, R373, R399, R456: the ways to a DEV_RESET, each with its CAUSE. -/
def DevResets : Prop := ∀ s : State,
  (∀ path, s.Takes path ⟨.rst, 0⟩ → ∃ t, Ends (.devReset path) s t ∧ ResetTo 3 false s t) ∧
  (∀ path, s.Takes path ⟨.rst, 0⟩ → s.selfFenced = true → s.flag LIVE_STAT_FLUSHING = false →
    ∃ t, Ends (.flushReset path) s t ∧ ResetTo 3 true s t) ∧
  (∀ n, 1000 ≤ n → s.power.supply = .on → ∃ t, Ends (.devResetN n) s t ∧ ResetTo 4 false s t ∧ t.power.resetLow = true) ∧
  (∀ n, n < 200 → Ends (.devResetN n) s { s with power := { s.power with resetLow := true } }) ∧
  Ends .devResetNRelease s { s with power := { s.power with resetLow := false } } ∧
  (s.power.refLost = true → ∃ t, Ends .refclkReturn s t ∧ ResetTo 5 false s t ∧ t.power.refLost = false) ∧
  (4 ≤ s.rd RST_STAT_STEP → s.flag RST_STAT_READY = false → s.flag RST_STAT_STOPPED = false → s.power.supply = .on →
    s.power.refLost = false → s.power.resetLow = false → ∃ t, Ends .bootFailure s t ∧ ResetTo 6 false s t) ∧
  (3 ≤ s.rd RST_STAT_STEP → s.flag RST_STAT_READY = false → s.flag RST_STAT_STOPPED = false → s.power.supply = .on →
    s.power.refLost = false → s.power.resetLow = false → ∃ t, Ends .readyTimeout s t ∧ ResetTo 6 false s t)

/-- R357, R363, R371, R374, R375: power-on. Power back on an unpowered module starts the dies at the retained incarnation, with the
CAUSE power was lost for; DEV_RESET_N held low while tripped asks for one. -/
def PowerOnResets : Prop := ∀ s : State,
  (s.power.supply = .off → s.flag PWR_STAT_A_GOOD = true → s.fw.lastGasp = none →
    ∃ t, Ends .por s t ∧ s.SameWork t ∧ t.power = { s.power with supply := .on, lastOff := 0 } ∧ t.rd PWR_STAT_FEED = 1 ∧
      t.rd LIVE_INCARN_INCARN = s.fw.incarn.toNat ∧ t.rd RST_REASON_CAUSE = s.power.lastOff % 16 ∧ t.rd RST_REASON_FLUSHED = 0 ∧
      t.rd RST_REASON_DIRTY_LOST = 0) ∧
  (s.power.supply = .tripped → s.flag PWR_STAT_A_GOOD = true → s.fw.lastGasp = none →
    ∃ t, Ends .resetNLongLow s t ∧ s.SameWork t ∧ t.power = { s.power with supply := .on, lastOff := 0 } ∧
      t.rd LIVE_INCARN_INCARN = s.fw.incarn.toNat ∧ t.rd RST_REASON_CAUSE = 2)

/-- R367, R368: the clocks. A lost REFCLK clears REFCLK_OK and ROOT_LOCK, with PG_ERR bit 16. Before READY the first PTM exchange
steps CLK_TS to the root's time; after it CLK_TS is slewed forward, by at most 500 ns at an exchange, and never back; PTM_LOCK falls
with PG_ERR bit 17. CLK_TS crossing a second leaves a pulse. -/
def Clocks : Prop := ∀ s : State,
  (s.power.refLost = false → s.ports = [] → ∃ t, Ends .refclkLoss s t ∧ s.SameWork t ∧ t.power = { s.power with refLost := true } ∧
    t.flag CLK_STAT_REFCLK_OK = false ∧ t.flag CLK_STAT_ROOT_LOCK = false ∧ bit (t.pgErr { blk := .clk }) 16 = true) ∧
  (∀ r : BitVec 64, s.flag CLK_PTM_ROOT = false → s.rd CLK_PTM_PORT ≠ 0xFF → s.role (s.rd CLK_PTM_PORT) = .trunk →
    s.linked (s.rd CLK_PTM_PORT) = true → s.flag RST_STAT_READY = false → s.flag CLK_STAT_PTM_LOCK = false →
    ∃ t, Ends (.ptmExchange r) s t ∧ s.SameWork t ∧ t.ts = r ∧ t.flag CLK_STAT_PTM_LOCK = true) ∧
  (∀ r : BitVec 64, s.flag CLK_PTM_ROOT = false → s.rd CLK_PTM_PORT ≠ 0xFF → s.role (s.rd CLK_PTM_PORT) = .trunk →
    s.linked (s.rd CLK_PTM_PORT) = true → s.flag RST_STAT_READY = true →
    ∃ t, Ends (.ptmExchange r) s t ∧ s.SameWork t ∧ s.ts.toNat ≤ t.ts.toNat ∧ t.ts.toNat ≤ s.ts.toNat + 500 ∧
      (t.ts.toNat ≤ max s.ts.toNat r.toNat) ∧ t.flag CLK_STAT_PTM_LOCK = true) ∧
  (s.flag CLK_STAT_PTM_LOCK = true → ∃ t, Ends .ptmUnlock s t ∧ s.SameWork t ∧ t.flag CLK_STAT_PTM_LOCK = false ∧ t.ts = s.ts ∧
    bit (t.pgErr { blk := .clk }) 17 = true) ∧
  (s.ts.toNat < 10 ^ 18 → ∃ t, Ends .pps s t ∧ t = { s with ts := t.ts, out := t.out } ∧
    t.ts.toNat = (s.ts.toNat / 10 ^ 9 + 1) * 10 ^ 9 ∧ t.out = .pps (s.ts.toNat / 10 ^ 9 + 1) :: s.out)

/-- Resets and clocks: the ways to a DEV_RESET, power-on, REFCLK and CLK_TS. -/
def Obligations.ResetsAndClocks : Prop := DevResets ∧ PowerOnResets ∧ Clocks

/-- R375, R376, R395, R399, R443: start-up. The boot ROM starts the valid slot NEXT names, counts the attempt, and raises the
incarnation by one; a trained stack and a calibrated port die are enabled; READY ends start-up and the attempt count of the slot that
runs. -/
def Obligations.StartUp : Prop := ∀ s : State, s.flag RST_STAT_STOPPED = false →
  (s.rd RST_STAT_STEP = 3 → s.power.supply = .on → s.power.refLost = false → s.power.resetLow = false → s.rd FW_STAT_NEXT = 0 →
    Tbl.get s.fw.boots 0 0 < 3 → s.flag FW_STAT_A_VALID = true → s.profile ≠ 3 →
    ∃ t, Ends .bootRomStart s t ∧ s.SameWork t ∧ t.rd RST_STAT_STEP = 5 ∧ t.rd FW_STAT_ACTIVE = 0 ∧
      Tbl.get t.fw.boots 0 0 = Tbl.get s.fw.boots 0 0 + 1 ∧ t.rd LIVE_INCARN_INCARN = (s.rd LIVE_INCARN_INCARN + 1) % 2 ^ 16 ∧
      t.fw.incarn = BitVec.ofNat 16 (s.rd LIVE_INCARN_INCARN + 1) ∧ t.flag CLK_STAT_ROOT_LOCK = true) ∧
  (∀ k : DieId, s.rd RST_STAT_STEP = 5 → k.val ∉ s.power.done →
    ∃ t, Ends (.hbmTrainingDone k true) s t ∧ s.SameWork t ∧ t.flag HBM_STAT_TRAINED k = true ∧ t.enabled .hbm k = true ∧
      t.power.done = setAdd s.power.done k.val) ∧
  (∀ d : DieId, s.rd RST_STAT_STEP = 6 → 8 + d.val ∉ s.power.done →
    ∃ t, Ends (.calibrationDone d 0) s t ∧ s.SameWork t ∧ t.flag PDIE_STAT_CALIBRATED d = true ∧ t.enabled .pdie d = true ∧
      t.power.done = setAdd s.power.done (8 + d.val)) ∧
  (s.rd RST_STAT_STEP = 7 → s.power.supply = .on → s.power.refLost = false → s.power.resetLow = false →
    ∃ t, Ends .ready s t ∧ t.rd RST_STAT_STEP = 15 ∧ t.flag RST_STAT_READY = true ∧
      Tbl.get t.fw.boots (t.rd FW_STAT_ACTIVE) 0 = 0)

/-- R394 to R398, R434: firmware and settings. STAGE makes the inactive slot invalid while it is written and valid, with the image's
SVN, when it ends without a failed check; ACTIVATE names a valid slot for the next start; COMMIT_SVN raises the anti-rollback counter
to the running image's SVN; a save keeps the settings as they are now, and takes effect when it ends. -/
def Obligations.FirmwareAndSettings : Prop := ∀ s : State,
  (∀ path, s.Takes path ⟨.fw, 0⟩ → s.flag FW_STAT_BUSY = false →
    8192 ≤ s.rd FW_LEN_BYTES → s.rd FW_LEN_BYTES ≤ 224 * 2 ^ 20 → s.rd FW_SRC_LO_ADDR % 64 = 0 →
    ∃ t, Ends (.stage path) s t ∧ s.SameWork t ∧ t.flag FW_STAT_BUSY = true ∧ t.slotValid (1 - s.rd FW_STAT_ACTIVE) = false ∧
      t.rd FW_STAT_NEXT = s.rd FW_STAT_ACTIVE) ∧
  (∀ (svn : BitVec 7) (a b : Byte), s.flag FW_STAT_BUSY = true → s.rd FW_STAT_SVN_FUSE ≤ svn.toNat →
    ∃ t, Ends (.stageDone 0 svn a b) s t ∧ s.SameWork t ∧ t.flag FW_STAT_BUSY = false ∧ t.rd FW_STAT_RESULT = 0 ∧
      t.slotValid (1 - s.rd FW_STAT_ACTIVE) = true ∧ t.slotSvn (1 - s.rd FW_STAT_ACTIVE) = svn.toNat) ∧
  (∀ path, s.Takes path ⟨.fw, 0⟩ → s.flag FW_STAT_BUSY = false → s.slotValid s.inactiveSlot = true →
    s.rd FW_STAT_SVN_FUSE ≤ s.slotSvn s.inactiveSlot →
    ∃ t, Ends (.activate path) s t ∧ s.SameWork t ∧ t.rd FW_STAT_NEXT = 1 - s.rd FW_STAT_ACTIVE ∧ t.rd FW_STAT_RESULT = 0) ∧
  (∀ path, s.Takes path ⟨.fw, 0⟩ → s.flag FW_STAT_BUSY = false → s.flag RST_STAT_READY = true →
    ∃ t, Ends (.commitSvn path) s t ∧ s.SameWork t ∧ t.rd FW_STAT_RESULT = 0 ∧
      t.rd FW_STAT_SVN_FUSE = max (s.rd FW_STAT_SVN_FUSE) (min (s.slotSvn (s.rd FW_STAT_ACTIVE)) 64)) ∧
  (∀ path, s.Takes path ⟨.dev, 0⟩ → s.flag DEV_SAVE_BUSY = false →
    ∃ t, Ends (.settingsSave path) s t ∧ s.SameWork t ∧ t.flag DEV_SAVE_BUSY = true ∧ t.fw.snap.isSome = true ∧
      t.fw.saved = s.fw.saved) ∧
  (∀ n, s.fw.snap = some n → s.fw.booked = none →
    ∃ t, Ends (.settingsSaveDone true) s t ∧ s.SameWork t ∧ t.fw = { s.fw with saved := n, snap := none } ∧
      t.flag DEV_SAVE_BUSY = false)

/-- R370, R442: a stack that may and holds nothing enters self-refresh unless it holds a copy of the directory (free); a lost die link
of a port die takes its ports down, one of a compute die clears its link bit, each with PG_ERR bit 17. -/
def StacksAndDieLinks : Prop := ∀ (s : State) (k : DieId),
  (s.flag HBM_PWR_SR_EN k = true → s.tier.t1 = [] → s.home.repl.local_ = [] → s.procs.running = [] → s.rc = [] →
    ∃ t, Ends (.hbmSrEnter k) s t ∧ s.SameWork t ∧
      ((Config.freeValue s.free % 2 = 0 ∧ t.flag HBM_PWR_IN_SR k = true ∧ t.free = s.free + 1) ∨
        (Config.freeValue s.free % 2 = 1 ∧ t = s))) ∧
  (s.flag CDIE_LINK_PDIE_UP k = true → s.ports = [] →
    ∃ t, Ends (.dieLinkLoss k false) s t ∧ s.SameWork t ∧ t.flag CDIE_LINK_PDIE_UP k = false ∧
      bit (t.pgErr ⟨.cdie, k⟩) 17 = true) ∧
  (s.flag CDIE_LINK_PDIE_UP k = false → Ends (.dieLinkLoss k false) s s)

/-- Rebuilds, lost stacks, self-refresh and die links. -/
def Obligations.StacksAndDieLinksFail : Prop := RebuildsAndLostStacks ∧ StacksAndDieLinks

/-! ### The Pocket (spec 17) -/

/-- R382, R383, R384, R389: events of a powered Pocket that signs nothing and has nothing due, its log not full. A 15-minute boundary
sets the RTC to it; the record that falls due, with the next sequence number, is signed at once, and the flag OVERRANGE starts anew
with it. Opening the lid counts once, up to 65,535, logs an entry and has a seal record signed. A crystal fault and a saturated
reading set their flag and log an entry; the loss of power logs an entry first. Nothing else changes. -/
def PocketEvents : Prop := ∀ s : State, s.pocket.powered = true → s.pocket.signing = none → s.pocket.due = [] →
  s.pocket.log.length < pocketLogSize →
  (let k := { s.pocket with rtc := (s.pocket.rtc / 900 + 1) * 900, tenths := 0 }
   Ends .pocketPeriodic s { s with pocket := { k with
     overRange := false
     seq := k.seq + 1
     signing := some { ({ s with pocket := k } : State).pocketNow pkPeriodic 0 with seq := k.seq + 1 } } }) ∧
  (let k := { s.pocket with sealCnt := min (s.pocket.sealCnt + 1) 65535 }
   Ends .sealBreak s { s with pocket := { k with
     log := k.log ++ [({ s with pocket := k } : State).pocketNow peSeal 0]
     overRange := false
     seq := k.seq + 1
     signing := some { ({ s with pocket := k } : State).pocketNow pkSeal 0 with seq := k.seq + 1 } } }) ∧
  (let k := { s.pocket with xtal := true }
   Ends .xtalFault s { s with pocket := { k with log := k.log ++ [({ s with pocket := k } : State).pocketNow peXtal 0] } }) ∧
  (∀ f, let k := { s.pocket with overRange := true }
   Ends (.overrange f) s { s with pocket := { k with log := k.log ++ [({ s with pocket := k } : State).pocketNow peOverrange 0] } }) ∧
  Ends .pocketPowerLoss s
    { s with pocket := { s.pocket with log := s.pocket.log ++ [s.pocketNow pePowerLoss 0], powered := false } }

/-- R380, R384, R387 to R390: the Pocket's answers. Power that returns has one seal record signed for a break that waited; a pulse
leaves for each 100 mWh of E_A + E_B; the optical port reads without changing anything and sets the RTC; a ring sets PENDING and has a
requested record with the page's nonce signed, or only sets DROPPED while PENDING; a computed signature makes the record ready for the
page and keeps it in the log unless it is a seal record; a page unwritten for 300 ms clears ALIVE, with PG_ERR bit 16. -/
def Obligations.PocketAnswers : Prop := ∀ s : State,
  (s.pocket.powered = false → s.pocket.sealDue = 1 → s.pocket.due = [] → s.pocket.signing = none →
    let k := { s.pocket with powered := true, sealDue := 0 }
    Ends .pocketPowerUp s { s with pocket := { k with
      overRange := false
      seq := k.seq + 1
      signing := some { ({ s with pocket := k } : State).pocketNow pkSeal 0 with seq := k.seq + 1 } } }) ∧
  (s.pocket.pulseAt + 100 ≤ s.pocket.eA + s.pocket.eB →
    Ends .pocketPulse s
      { s with pocket := { s.pocket with pulseAt := s.pocket.pulseAt + 100 }, out := .pocketPulse :: s.out }) ∧
  (s.pocket.powered = true → Ends (.opticalPortRead .log) s
    { s with out := .optical .log (s.pocket.log.map (pocketWord s.pocket.id)) :: s.out }) ∧
  (s.pocket.powered = true → Ends (.opticalPortRead .registers) s
    (s.emit (.optical .registers
      [s.pocketFlags, s.pocket.eA, s.pocket.eB, s.pocket.rtc, s.pocket.sealCnt, s.pocket.seq]))) ∧
  (s.pocket.powered = true → ∀ v : BitVec 64, Ends (.rtcAdjust v) s
    { s with pocket := { s.pocket with rtc := v.toNat, rtcSet := true, tenths := 0 } }) ∧
  (∀ path, s.Takes path ⟨.pocket, 0⟩ → s.flag POCKET_DB_PENDING = true →
    ∃ t, Ends (.pocketRing path) s t ∧ t = { s with regs := t.regs } ∧
      ∀ b, t.reg b = if b = POCKET_DB_DROPPED.addr then insBits (s.reg b) 3 3 1 else s.reg b) ∧
  (∀ path, s.Takes path ⟨.pocket, 0⟩ → s.flag POCKET_DB_PENDING = false → s.pocket.powered = true →
    s.pocket.signing = none → s.pocket.due = [] →
    ∃ t, Ends (.pocketRing path) s t ∧ t = { s with regs := t.regs, pocket := t.pocket } ∧
      (∀ b, t.reg b = if b = POCKET_DB_PENDING.addr then insBits (s.reg b) 1 1 1 else s.reg b) ∧
      t.pocket = { s.pocket with
        overRange := false
        seq := s.pocket.seq + 1
        signing := some { s.pocketNow pkRequested s.pocketNonce with seq := s.pocket.seq + 1 } }) ∧
  (∀ (r u : BitVec 256) (q : PocketRec), s.pocket.signing = some q → s.pocket.due = [] → q.kind = pkSeal →
    Ends (.pocketSignDone r u) s { s with pocket := { s.pocket with
      signing := none
      ready := s.pocket.ready ++ [{ q with sig := r.toNat + 2 ^ 256 * u.toNat }] } }) ∧
  (∀ (r u : BitVec 256) (q : PocketRec), s.pocket.signing = some q → s.pocket.due = [] → q.kind ≠ pkSeal →
    s.pocket.log.length < pocketLogSize →
    Ends (.pocketSignDone r u) s { s with pocket := { s.pocket with
      signing := none
      ready := s.pocket.ready ++ [{ q with sig := r.toNat + 2 ^ 256 * u.toNat }]
      log := s.pocket.log ++ [{ q with sig := r.toNat + 2 ^ 256 * u.toNat }] } }) ∧
  (s.flag POCKET_STAT_ALIVE = true →
    Ends .pocketAliveTimeout s ((s.set POCKET_STAT_ALIVE 0).err { blk := .pocket } 16))

/-- R379, R385, R386: with nothing ready to be shown and no key loaded, a page write of the powered module adds the interval's
energies, shows energies, RTC, seal count and flags, adds 2 to MSEQ and sets ALIVE; tenths carry into the RTC's seconds, and at a
15-minute boundary a periodic record of that moment falls due and is signed. The currents and voltages shown are free. -/
def PocketMirror : Prop := ∀ (s : State) (a b : Nat), s.pocket.powered = true → s.power.supply = .on →
  s.pocket.ready = [] → s.sec.slots = [] →
  ∃ t, Ends (.pocketMirrorWrite a b) s t ∧
    t = { s with regs := t.regs, pocket := t.pocket, free := s.free + 2 } ∧
    ((s.pocket.tenths + 1) % 10 ≠ 0 ∨ (s.pocket.rtc + (s.pocket.tenths + 1) / 10) % 900 ≠ 0 →
      t.pocket = { s.pocket with
        eA := s.pocket.eA + a
        eB := s.pocket.eB + b
        tenths := (s.pocket.tenths + 1) % 10
        rtc := s.pocket.rtc + (s.pocket.tenths + 1) / 10 }) ∧
    (s.pocket.tenths = 9 → (s.pocket.rtc + 1) % 900 = 0 → s.pocket.signing = none → s.pocket.due = [] →
      ∃ q, t.pocket.signing = some q ∧ q.kind = pkPeriodic ∧ q.rtc = s.pocket.rtc + 1 ∧ q.eA = s.pocket.eA + a ∧
        q.eB = s.pocket.eB + b ∧ q.seq = s.pocket.seq + 1) ∧
    t.rd POCKET_EA_LO_V + 2 ^ 32 * t.rd POCKET_EA_HI_V = (s.pocket.eA + a) % 2 ^ 64 ∧
    t.rd POCKET_EB_LO_V + 2 ^ 32 * t.rd POCKET_EB_HI_V = (s.pocket.eB + b) % 2 ^ 64 ∧
    t.rd POCKET_MSEQ_SEQ = (s.rd POCKET_MSEQ_SEQ + 2) % 2 ^ 32 ∧ t.rd POCKET_STAT_ALIVE = 1

/-- What a powered Pocket does by itself: its events, and its page. -/
def Obligations.PocketEventsAndMirror : Prop := PocketEvents ∧ PocketMirror

/-! ### Fabric Management API (spec 02 R53 to R55; 14 R326) -/

/-- R53, R54: the commands that ask. While the management subsystem runs, on any of its three paths, each is answered once: with what
State holds, or with one value that the spec does not give. The setters keep what they are given. Any other command is answered
Unsupported. A configuration request goes out on a port that is up, a tunnelled one towards a tray, and an AER event to the host of a
bound vPPB. Before step 3 of start-up has ended no command is answered. The return codes are those of the CXL specification (PRESUMED,
assumption log 36). -/
def Obligations.FmAnswers : Prop := ∀ (s : State) (q : Req),
  let ok : List Nat → State := fun l => { s with out := .fm q 0 0 l :: s.out }
  let free : List Nat → Nat → State := fun l v => { s with free := s.free + 1, out := .fm q 0 0 (l ++ [v]) :: s.out }
  (s.fmUp q = true →
    (∀ c ∈ [Instr.identify q, .getSupportedLogs q, .identifySwitchDevice q, .getDcdInfo q], ∃ v, Ends c s (free [] v)) ∧
    (∀ n, ∃ v, Ends (.getLog q n) s (free [n] v)) ∧
    (∀ p, ∃ v, Ends (.getHostDcRegionConfiguration q p) s (free [p.val] v)) ∧
    (s.mgmt.background = none → Ends (.backgroundOperationStatus q) s (ok [0, 0])) ∧
    (∀ op, s.mgmt.background = some op → Ends (.backgroundOperationStatus q) s (ok [1, op])) ∧
    Ends (.getResponseMessageLimit q) s (ok [s.mgmt.msgLimit]) ∧
    (∀ n, Ends (.setResponseMessageLimit q n) s { ok [n.toNat] with mgmt := { s.mgmt with msgLimit := n.toNat } }) ∧
    Ends (.getEventRecords q) s (ok (s.mgmt.events.flatMap (fun (e : Nat × Nat × Nat × Nat) => [e.1, e.2.1, e.2.2.1, e.2.2.2]))) ∧
    (∀ n, Ends (.clearEventRecords q true n) s { ok [] with mgmt := { s.mgmt with events := [] } }) ∧
    (∀ n, Ends (.clearEventRecords q false n) s { ok [] with mgmt := { s.mgmt with events := s.mgmt.events.drop n } }) ∧
    Ends (.getEventInterruptPolicy q) s (ok [s.mgmt.policy.toNat]) ∧
    (∀ v, Ends (.setEventInterruptPolicy q v) s { ok [] with mgmt := { s.mgmt with policy := v } }) ∧
    (∀ p : PortId, Ends (.getPhysicalPortState q p) s
      (ok [p.val, b2n (s.enabled .port p.val), s.rd PORT_CFG_ROLE p.val, s.reg (PORT_LSTAT_UP.ref.at ⟨.port, p.val⟩)])) ∧
    (∀ vcs : BitVec 8, Ends (.getVirtualCxlSwitchInfo q vcs) s
      (ok ((s.mgmt.vppb.filter (fun (b : Nat × Nat) => b.1 / 256 == vcs.toNat)).flatMap (fun (b : Nat × Nat) => [b.1 % 256, b.2])))) ∧
    (∀ p : PortId, Ends (.getDcRegionExtentLists q p) s
      (ok (p.val :: (s.map.cur.extents.filter (fun (e : Nat × Nat) => s.map.cur.portMay p.val e.2)).map (·.1)))) ∧
    (∀ (vcs vppb : BitVec 8) e p, Tbl.get? s.mgmt.vppb (256 * vcs.toNat + vppb.toNat) = some p → s.up p = true →
      ∃ t, Ends (.generateAerEvent q vcs vppb e) s t ∧ t = { ok [] with ports := t.ports } ∧ s.Sends t p (.ioAer vppb.toNat e) ∧
        ∀ r, r ≠ p → t.port r = s.port r) ∧
    (∀ (vcs vppb : BitVec 8) e, (∀ p, Tbl.get? s.mgmt.vppb (256 * vcs.toNat + vppb.toNat) = some p → s.up p = false) →
      Ends (.generateAerEvent q vcs vppb e) s { s with out := .fm q 2 rcDependency [] :: s.out }) ∧
    (∀ op, Ends (.fmapiUnsupported q op) s { s with out := .fm q 3 0 [] :: s.out }) ∧
    (∀ (p : PortId) reg v, s.up p.val = true → s.profile ≠ profileF →
      ∃ t, Ends (.sendPpbCxlIoConfigRequest q p reg true v) s t ∧ t = { ok [] with ports := t.ports } ∧
        s.Sends t p.val (.ioCfg true reg v)) ∧
    (∀ (p : PortId) reg v, s.up p.val = true →
      ∃ t w, Ends (.sendPpbCxlIoConfigRequest q p reg false v) s t ∧ t = { free [] w with ports := t.ports } ∧
        s.Sends t p.val (.ioCfg false reg v)) ∧
    (∀ (p : PortId) l, s.up p.val = true → s.role p.val = .tray →
      ∃ t w, Ends (.tunnelManagementCommand q p l) s t ∧ t = { free [] w with ports := t.ports } ∧
        (t.port p.val).egress = (s.port p.val).egress ++ [{ q := 3, msg := .mctp l }]) ∧
    (∀ (p : PortId) l, s.role p.val ≠ .tray → Ends (.tunnelManagementCommand q p l) s { s with out := .fm q 2 rcRole [] :: s.out })) ∧
  (s.fmUp q = false → ∀ c ∈ [Instr.backgroundOperationStatus q, .getResponseMessageLimit q, .getEventRecords q, .clearEventRecords q true 0,
    .getEventInterruptPolicy q, .fmapiUnsupported q 0, .bindVppb q 0 0 0], Ends c s s)

/-- R55, R326: the commands that configure. In PROFILE_F they are answered Invalid Security State. One that would start a second
background operation is answered Busy. The register writes of Set DC Region Configuration have the effect of a direct write, and where
they are refused the answer is Invalid Input with the reason. Bind vPPB, Unbind vPPB and the dynamic capacity commands change the
port's binding and commit it. Physical Port Control disables a port. Which writes a command stands for is the model's choice
(assumption log 35); its return codes are PRESUMED (36). -/
def Obligations.FmConfigures : Prop := ∀ (s : State) (q : Req) (p : PortId), s.fmUp q = true →
  let answers : Byte → Nat → State := fun code ext => { s with out := .fm q code ext [] :: s.out }
  let starts : BitVec 8 → BitVec 8 → List (BitVec 18) → List Instr := fun m n xs => [.physicalPortControl q p m, .bindVppb q m n p,
    .unbindVppb q m n, .initiateDynamicCapacityAdd q p xs, .initiateDynamicCapacityRelease q p xs]
  (s.profile = profileF → (∀ m n xs, ∀ c ∈ starts m n xs, Ends c s (answers 0x13 0)) ∧ ∀ l, Ends (.setDcRegionConfiguration q p l) s (answers 0x13 0)) ∧
  (s.profile ≠ profileF → s.mgmt.background.isSome = true → ∀ m n xs, ∀ c ∈ starts m n xs, Ends c s (answers 0x06 0)) ∧
  (s.profile ≠ profileF → s.mgmt.background = none →
    (∀ op : BitVec 8, 3 ≤ op.toNat → Ends (.physicalPortControl q p op) s (answers 0x02 rcFieldRange)) ∧
    (∀ vcs vppb : BitVec 8, Tbl.get? s.mgmt.vppb (256 * vcs.toNat + vppb.toNat) = none →
      Ends (.unbindVppb q vcs vppb) s (answers 0x02 rcDependency))) ∧
  (s.profile ≠ profileF → Ends (.setDcRegionConfiguration q p []) s (answers 0x00 0)) ∧
  (∀ (a : BitVec 26) g d b v, s.Takes .eth g → winAt a.toNat = none → regAt a.toNat = some (g, d) → d.blk = some b →
    b = .home ∨ b = .cmpr ∨ b = .keys ∨ b = .qos ∨ b = .atom ∨ b = .repl → s.flag MAP_COMMIT_COMMIT = false →
    (outOfRange d v.toNat = false → s.rwlLocked g = false →
      ∃ t u, Ends (.setDcRegionConfiguration q p [(a.toNat, v)]) s t ∧ Ends (.registerWrite .eth a v 15) s u ∧
        t = { u with out := .fm q 0x00 0 [] :: u.out }) ∧
    (outOfRange d v.toNat = true →
      ∃ t, Ends (.setDcRegionConfiguration q p [(a.toNat, v)]) s t ∧
        t = { s.err (errPage g) 1 with out := .fm q 0x02 rcFieldRange [] :: (s.err (errPage g) 1).out })) ∧
  (s.Takes .eth ⟨.port, p.val⟩ → s.mgmt.background = none → s.flag MAP_COMMIT_COMMIT = false → s.enabled .port p.val = true →
    s.dependents ⟨.port, p.val⟩ = [] → s.linked p.val = false → s.closing = [] → s.coll = [] → s.procs.procs = [] →
    ∃ t, Ends (.physicalPortControl q p 0) s t ∧ t = { answers 0x01 0 with
        regs := t.regs
        ports := t.ports
        mgmt := { s.mgmt with background := some 0x5102 } } ∧
      t.enabled .port p.val = false ∧ t.hrd ⟨.port, p.val⟩ PG_CTL_ENABLE = 0) ∧
  (s.profile ≠ profileF → s.mgmt.background = none → s.pendHeld = false → s.hrd ⟨.map, 0⟩ PG_CTL_LOCK ≠ 1 → s.map.xferUndo = none →
    s.mgmt.held = [] → s.mgmt.heldEnt = [] → s.mgmt.msgs = [] →
    (∀ vcs vppb : BitVec 8, (State.bindSlices p.val true [vcs.toNat] s).startCommit.commitRefusal = none →
      ∃ t, Ends (.bindVppb q vcs vppb p) s t ∧ t.out.head? = some (.fm q 0x01 0 []) ∧ t.mgmt.background = some 0x5201 ∧
        Tbl.get? t.mgmt.vppb (256 * vcs.toNat + vppb.toNat) = some p.val ∧ t.epoch = (s.epoch + 1) % 2 ^ 16 ∧
        bit (bdSlices (t.map.cur.bind p.val)) vcs.toNat = true ∧ bit (t.map.cur.bind p.val) 0 = true ∧
        t.map.cur.extents = s.map.pend.extents ∧ ∀ r, r ≠ p.val → t.map.cur.bind r = s.map.pend.bind r) ∧
    (∀ vcs vppb : BitVec 8, Tbl.get? s.mgmt.vppb (256 * vcs.toNat + vppb.toNat) = some p.val →
      (State.bindSlices p.val false [vcs.toNat] s).startCommit.commitRefusal = none →
      ∃ t, Ends (.unbindVppb q vcs vppb) s t ∧ t.out.head? = some (.fm q 0x01 0 []) ∧ t.mgmt.background = some 0x5202 ∧
        Tbl.get? t.mgmt.vppb (256 * vcs.toNat + vppb.toNat) = none ∧ t.epoch = (s.epoch + 1) % 2 ^ 16 ∧
        bit (bdSlices (t.map.cur.bind p.val)) vcs.toNat = false ∧
        t.map.cur.extents = s.map.pend.extents ∧ ∀ r, r ≠ p.val → t.map.cur.bind r = s.map.pend.bind r) ∧
    (∀ (on : Bool) (xs : List (BitVec 18)), xs ≠ [] →
      (State.bindSlices p.val on (xs.map (fun x => exOwner (s.map.pend.extent x.toNat))) s).startCommit.commitRefusal = none →
      ∃ t, Ends (if on then .initiateDynamicCapacityAdd q p xs else .initiateDynamicCapacityRelease q p xs) s t ∧
        t.out.head? = some (.fm q 0x01 0 []) ∧ t.mgmt.background = some (if on then 0x5604 else 0x5605) ∧ t.mgmt.vppb = s.mgmt.vppb ∧
        t.epoch = (s.epoch + 1) % 2 ^ 16 ∧ (∀ x ∈ xs, bit (bdSlices (t.map.cur.bind p.val)) (exOwner (s.map.pend.extent x.toNat)) = on) ∧
        t.map.cur.extents = s.map.pend.extents ∧ ∀ r, r ≠ p.val → t.map.cur.bind r = s.map.pend.bind r)) ∧
  Ends .backgroundOperationDone s { s with mgmt := { s.mgmt with background := none } }

/-! ### Keys, contexts, attestation, signed batches (spec 14; 02 R50) -/

/-- A port with other IDE key sets. -/
def OnlyPort (s t : State) (p : Nat) (x : PortSt) : Prop := t.port p = x ∧ ∀ q, q ≠ p → t.port q = s.port q

/-- R50, R325, R328, R329: SPDM. Each supported request is answered once, with one value that the spec does not give where it is a
digest, a certificate or a signature; any other gets ERROR UnsupportedRequest. A measurement block is returned to a session that may
see it, and to no other. In PROFILE_F a tenant opens no session; a 65th KEY_EXCHANGE is Busy; FINISH completes a session or ends it.
IDE_KM programs a link's key sets, and a programmed set goes into use; towards a tray, and on a TRUNK link as the lower device ID, the
device is the requester itself, and its request leaves on the link. The response codes are those of DSP0274 (PRESUMED, assumption log
26). Before step 3 of start-up has ended no request is answered. -/
def Obligations.SpdmAnswers : Prop := ∀ (s : State) (r : SpdmReq),
  let answers : Byte → List Nat → State := fun c l => { s with out := .spdm r.req c l :: s.out }
  let free : Byte → List Nat → Nat → State := fun c l v => { s with free := s.free + 1, out := .spdm r.req c (l ++ [v]) :: s.out }
  (s.mgmtUp = true →
    (∃ v, Ends (.getVersion r) s (free 0x04 [] v)) ∧ (∃ v, Ends (.getCapabilities r) s (free 0x61 [] v)) ∧
    (∃ v, Ends (.negotiateAlgorithms r) s (free 0x63 [] v)) ∧ (∃ v, Ends (.getDigests r) s (free 0x01 [] v)) ∧
    (∀ k, ∃ v, Ends (.getCertificate r k) s (free 0x02 [k.toNat] v)) ∧ (∀ k, ∃ v, Ends (.challenge r k) s (free 0x03 [k.toNat] v)) ∧
    (∀ c, Ends (.spdmUnsupported r c) s (answers 0x7F [7])) ∧
    (∀ i, s.session r.session = none → Ends (.getMeasurements r i) s (answers 0x7F [1])) ∧
    (∀ n, s.session r.session = some n → n.kind = .operator →
      Ends (.getMeasurements r 0) s (answers 0x60 [6]) ∧
      (∃ v, Ends (.getMeasurements r 3) s (free 0x60
        [3, s.rd FW_STAT_ACTIVE, s.rd FW_STAT_SVN_FUSE, Tbl.get s.fw.svn (s.rd FW_STAT_ACTIVE) 0] v)) ∧
      (∃ v, Ends (.getMeasurements r 6) s (free 0x60 [6, s.fw.secSeq.toNat, s.sec.opDigest.toNat] v)) ∧
      ∀ i : BitVec 8, 7 ≤ i.toNat → i.toNat < 255 → Ends (.getMeasurements r i) s (answers 0x7F [1])) ∧
    (∀ n, s.session r.session = some n → n.kind = .tenant →
      (s.profile = profileU → (∃ v, Ends (.getMeasurements r 0x10) s (free 0x60 (0x10 :: s.manifest n.digest.toNat) v)) ∧
        Ends (.getMeasurements r 6) s (answers 0x7F [1])) ∧
      (s.profile = profileF → ∀ i, Ends (.getMeasurements r i) s (answers 0x7F [1]))) ∧
    (s.profile = profileF → r.kind = .tenant → Ends (.keyExchange r) s (answers 0x7F [1])) ∧
    (¬(s.profile = profileF ∧ r.kind = .tenant) → 64 ≤ s.sec.sessions.length → Ends (.keyExchange r) s (answers 0x7F [3])) ∧
    (¬(s.profile = profileF ∧ r.kind = .tenant) → s.sec.sessions.length < 64 → ∃ v, Ends (.keyExchange r) s { free 0x64 [s.sec.nextSess] v with
      sec := { s.sec with sessions := s.sec.sessions ++ [{ id := s.sec.nextSess, kind := r.kind, digest := r.digest }], nextSess := s.sec.nextSess + 1 } }) ∧
    (∀ n, s.sec.sessions = [n] → n.id = r.session → n.done = false →
      Ends (.finish r true) s { answers 0x65 [] with sec := { s.sec with sessions := [{ n with done := true }] } } ∧
      Ends (.finish r false) s { answers 0x7F [6] with sec := { s.sec with sessions := [] } }) ∧
    ((s.session r.session).isSome = true → Ends (.heartbeat r) s (answers 0x68 []) ∧ Ends (.keyUpdate r) s (answers 0x69 []) ∧
      ∃ t, Ends (.endSession r) s t ∧ t = { answers 0x6C [] with sec := { s.sec with sessions := t.sec.sessions } } ∧
        t.session r.session = none) ∧
    (s.session r.session = none → Ends (.heartbeat r) s (answers 0x7F [2]) ∧ Ends (.keyUpdate r) s (answers 0x7F [2]) ∧
      Ends (.endSession r) s (answers 0x7F [2]) ∧
      ∀ (p : PortId) k, s.ideRequester p.val = false → Ends (.vendorDefinedRequest r p k) s (answers 0x7F [2])) ∧
    (∀ p : PortId, s.ideRequester p.val = true →
      (∀ k, ∃ t l, Ends (.vendorDefinedRequest r p (.keyProg k)) s t ∧ t = { s with ports := t.ports, free := s.free + 1 } ∧
        OnlyPort s t p.val { s.port p.val with
          ideKeySet := (s.port p.val).ideKeySet ||| (if k then 2 else 1)
          egress := (s.port p.val).egress ++ [{ q := 3, msg := .ideKm l }] }) ∧
      (∀ k, Ends (.vendorDefinedRequest r p (.kSetGo k true)) s s) ∧
      (∀ k, bit (s.port p.val).ideKeySet (b2n k) = true → s.linked p.val = true →
        ∃ t l, Ends (.vendorDefinedRequest r p (.kSetGo k false)) s t ∧
          t = { s with regs := t.regs, ports := t.ports, free := s.free + 1 } ∧ t.flag PORT_LSTAT_IDE_ACTIVE p.val = true ∧
          (t.port p.val).egress = (s.port p.val).egress ++ [{ q := 3, msg := .ideKm l }])) ∧
    (∀ p : PortId, s.ideRequester p.val = false → (s.session r.session).isSome = true →
      Ends (.vendorDefinedRequest r p .query) s (answers 0x7E [(s.port p.val).ideKeySet]) ∧
      (∀ k, ∃ t, Ends (.vendorDefinedRequest r p (.keyProg k)) s t ∧ t = { answers 0x7E [0] with ports := t.ports } ∧
        OnlyPort s t p.val { s.port p.val with ideKeySet := (s.port p.val).ideKeySet ||| (if k then 2 else 1) }) ∧
      (∀ k, Ends (.vendorDefinedRequest r p (.kSetGo k true)) s (answers 0x7F [1])) ∧
      (∀ k, bit (s.port p.val).ideKeySet (b2n k) = true → s.linked p.val = true →
        ∃ t, Ends (.vendorDefinedRequest r p (.kSetGo k false)) s t ∧ t = { answers 0x7E [0] with regs := t.regs, ports := t.ports } ∧
          t.flag PORT_LSTAT_IDE_ACTIVE p.val = true ∧ t.flag PORT_FSTAT_IDE_INSECURE p.val = false) ∧
      (∀ k, bits (s.port p.val).ideKeySet 2 2 = b2n k →
        ∃ t, Ends (.vendorDefinedRequest r p (.kSetStop k)) s t ∧ t = { answers 0x7E [0] with regs := t.regs, ports := t.ports } ∧
          t.flag PORT_LSTAT_IDE_ACTIVE p.val = false))) ∧
  (s.mgmtUp = false → ∀ c ∈ [Instr.spdmUnsupported r 0, .heartbeat r, .keyUpdate r, .endSession r, .finish r true, .keyExchange r,
    .getMeasurements r 0], Ends c s s)

/-- R320 to R324, R332 to R334: a context's key. A load that a ground of R324 refuses changes nothing but its outcome, and the first
ground of the table decides (DEDUCED); one that none refuses puts the pair into the slot, and the context is READY. RETIRE puts a
READY context without procedures into RETIRING and leaves any other as it is. Zeroising removes the pair: the context is FREE, cools,
and has the next GEN. The end of cooling clears COOLING. CTX_RESET of a READY context leaves it READY with its key. -/
def Obligations.ContextsAndKeys : Prop := ∀ s : State,
  (∀ path (k : KeyLoad), let x := k.ctx.val
    s.mgmtUp = true → (∀ p, path ≠ .tenant p) → s.hrd ⟨.keys, 0⟩ PG_CTL_LOCK ≠ 1 →
    let refused : Nat → Prop := fun code => ∃ t, Ends (.keyLoad path k) s t ∧ t = { s with regs := t.regs, mgmt := t.mgmt } ∧
      t.rd KEYS_LOAD_STAT_RESULT = code ∧ t.rd KEYS_LOAD_STAT_CTX = x ∧ t.flag KEYS_LOAD_STAT_VALID = true ∧
      t.ctxState x = s.ctxState x ∧ bit (t.pgErr ⟨.keys, 0⟩) 16 = true
    let owner := if s.profile = profileF then s.sec.opDigest.toNat else s.ctxOwner x
    let noCmpr : Bool := s.profile == profileU && k.noCmpr
    let other := s.sec.slots.any (fun q => s.ctxTenant q.1 == s.ctxTenant x && (q.2.pair != k.pair || q.2.noCmpr != noCmpr))
    (k.rsvdZero = false → refused 0x0001) ∧
    (k.rsvdZero = true → s.ctxState x ≠ ctxFree ∨ s.flag CTX_STAT_COOLING x = true → refused 0x0009) ∧
    (k.rsvdZero = true → s.ctxState x = ctxFree → s.flag CTX_STAT_COOLING x = false →
      (s.session k.session = none → refused 0x1101) ∧
      ∀ n, s.session k.session = some n →
        (n.digest.toNat ≠ owner → refused 0x1101) ∧
        (n.digest.toNat = owner → k.unwrapOk = false → refused 0x1102) ∧
        (n.digest.toNat = owner → k.unwrapOk = true → other = true → refused 0x1103) ∧
        (n.digest.toNat = owner → k.unwrapOk = true → other = false → noCmpr = true → s.map.cur.tenantCmpr (s.ctxTenant x) = true →
          refused 0x0006) ∧
        (n.digest.toNat = owner → k.unwrapOk = true → other = false → noCmpr = false →
          ∃ t, Ends (.keyLoad path k) s t ∧
            t = { s with regs := t.regs, sec := { s.sec with slots := Tbl.put s.sec.slots x { pair := k.pair, noCmpr := false } }, pmon := t.pmon } ∧
            t.rd KEYS_LOAD_STAT_RESULT = 0 ∧ t.rd KEYS_LOAD_STAT_CTX = x ∧ t.ctxState x = ctxReady ∧ t.flag CTX_STAT_KEYED x = true ∧
            t.rd CTX_KEYID_KEY_ID x = k.keyId.toNat))) ∧
  (∀ path (x : CtxId), s.Takes path ⟨.ctx, x.val⟩ → s.procsOf x.val = [] → s.tier.scheds = [] →
    (s.ctxState x.val = ctxReady → ∃ t, Ends (.retire path x) s t ∧ t = { s with regs := t.regs } ∧ t.ctxState x.val = ctxRetiring) ∧
    (s.ctxState x.val ≠ ctxReady → ∃ t, Ends (.retire path x) s t ∧ t = { s with regs := t.regs } ∧ ∀ a, t.reg a = s.reg a) ∧
    ∃ t, Ends (.ctxReset path x) s t ∧ t = { s with regs := t.regs } ∧ ∀ a, t.reg a = s.reg a) ∧
  (∀ path (x : CtxId) p c, s.Takes path ⟨.ctx, x.val⟩ → s.procs.procs = [(x.val, [p])] → p.phase = .running c → p.hostUsed = [] →
    s.ctxState x.val = ctxReady →
    ∃ t q, Ends (.ctxReset path x) s t ∧ t.ctxState x.val = ctxReady ∧ t.sec = s.sec ∧ t.pool = s.pool ∧ t.procsOf x.val = [q] ∧
      q.phase = .ending ∧ q.status = stAborted ∧ q.idx = p.idx ∧ q.staged = [] ∧ t.flag CORE_STAT_RUNNING c = false) ∧
  (∀ x : CtxId, s.ctxState x.val = ctxRetiring → s.procsOf x.val = [] → s.home.txns = [] →
    ∃ t, Ends (.ctxZeroise x) s t ∧ t = { s with regs := t.regs, sec := { s.sec with slots := Tbl.del s.sec.slots x.val } } ∧
      t.ctxState x.val = ctxFree ∧ t.flag CTX_STAT_KEYED x.val = false ∧ t.flag CTX_STAT_COOLING x.val = true ∧
      t.rd CTX_STAT_GEN x.val = (s.rd CTX_STAT_GEN x.val + 1) % 256) ∧
  (∀ x : CtxId, s.ctxState x.val ≠ ctxRetiring → Ends (.ctxZeroise x) s s) ∧
  (∀ x : CtxId, ∃ t, Ends (.coolingEnd x) s t ∧ t = { s with regs := t.regs } ∧ t.flag CTX_STAT_COOLING x.val = false ∧
    t.ctxState x.val = s.ctxState x.val)

/-- R326, R327: signed configuration. A device that is not in PROFILE_F refuses a batch both ways: RESULT 0x0006, BATCH_REFUSED set,
nothing else. In PROFILE_F the first of the three checks that fails gives its code and nothing is applied; a batch that passes them
stores its SEQ, and each entry acts as a direct write. A read of SEC_BATCH that fails gives 0x0705. A register write on its own is
ignored in PROFILE_F, but for W1C fields: it sets LOCKED_WRITE and counts UNSIGNED_WRITE where it would change anything. -/
def Obligations.SignedConfiguration : Prop := ∀ s : State,
  let refused : Instr → Nat → Prop := fun c code => ∃ t, Ends c s t ∧ t = { s with regs := t.regs, mgmt := t.mgmt } ∧
    t.rd SEC_BATCH_CMD_RESULT = code ∧ t.flag SEC_BATCH_CMD_GO = false ∧ bit (t.pgErr ⟨.sec, 0⟩) 17 = true ∧
    ∀ a, a ≠ SEC_BATCH_CMD_RESULT.addr → a ≠ PG_ERR_ERR.at ⟨.sec, 0⟩ → t.reg a = s.reg a
  (∀ path b, s.profile ≠ profileF → s.flag SEC_BATCH_CMD_GO = false → refused (.signedBatch path b) 0x0006) ∧
  (∀ path b, s.profile = profileF → s.flag SEC_BATCH_CMD_GO = false →
    (b.keyOk = false → refused (.signedBatch path b) 0x0701) ∧
    (b.keyOk = true → b.sigOk = false → refused (.signedBatch path b) 0x0702) ∧
    (b.keyOk = true → b.sigOk = true → b.seq ≤ s.fw.secSeq → refused (.signedBatch path b) 0x0703)) ∧
  (∀ path b, s.profile = profileF → b.keyOk = true → b.sigOk = true → s.fw.secSeq < b.seq → s.mgmtUp = true →
    s.flag DEV_SAVE_AUTO = false → (∀ p, path ≠ .tenant p) →
    (b.entries = [] → ∃ t, Ends (.signedBatch path b) s t ∧ t = { s with regs := t.regs, fw := { s.fw with secSeq := b.seq } } ∧
      t.rd SEC_BATCH_CMD_RESULT = 0) ∧
    (∀ o v g d blk, b.entries = [(o, v)] → o < 2 ^ 24 → winAt (4 * o) = none → regAt (4 * o) = some (g, d) → d.blk = some blk →
      blk = .home ∨ blk = .cmpr ∨ blk = .keys ∨ blk = .qos ∨ blk = .atom ∨ blk = .repl → outOfRange d v.toNat = false →
      s.hrd (errPage g) PG_CTL_LOCK ≠ 1 → s.holdsWrites g = false → s.rwlLocked g = false → s.flag MAP_COMMIT_COMMIT = false →
      ∃ t, Ends (.signedBatch path b) s t ∧ t = { s with regs := t.regs, fw := { s.fw with secSeq := b.seq } } ∧
        t.rd SEC_BATCH_CMD_RESULT = 0 ∧ (∀ f ∈ d.flds, f.ty = .rw ∨ f.ty = .rwl → bits (t.reg (4 * o)) f.hi f.lo = bits v.toNat f.hi f.lo) ∧
        ∀ a, a ≠ 4 * o → a ≠ SEC_BATCH_CMD_RESULT.addr → t.reg a = s.reg a) ∧
    (∀ o v, b.entries = [(o, v)] → o < 2 ^ 24 → winAt (4 * o) = none →
      (∃ g d, regAt (4 * o) = some (g, d) ∧ d.blk = some .home ∧ outOfRange d v.toNat = true ∧ s.holdsWrites g = false ∧
        s.hrd ⟨.home, 0⟩ PG_CTL_LOCK ≠ 1) → s.flag MAP_COMMIT_COMMIT = false →
      ∃ t, Ends (.signedBatch path b) s t ∧ t.fw.secSeq = b.seq ∧ t.rd SEC_BATCH_CMD_RESULT = rcFieldRange ∧ t.rd SEC_BATCH_IDX_INDEX = 0 ∧
        t.reg (4 * o) = s.reg (4 * o) ∧ bit (t.pgErr ⟨.sec, 0⟩) 17 = true)) ∧
  (∀ path, s.mgmtUp = true → (∀ p, path ≠ .tenant p) → s.hrd ⟨.sec, 0⟩ PG_CTL_LOCK ≠ 1 → s.holdsWrites ⟨.sec, 0⟩ = false →
    s.flag SEC_BATCH_CMD_GO = false →
    (s.profile = profileF → ∃ t, Ends (.secBatchGo path) s t ∧ t = { s with regs := t.regs } ∧ t.flag SEC_BATCH_CMD_GO = true) ∧
    (s.profile ≠ profileF → refused (.secBatchGo path) 0x0006)) ∧
  (∀ ok b, s.flag SEC_BATCH_CMD_GO = false → Ends (.secBatchReadDone ok b) s s) ∧
  (∀ b, s.flag SEC_BATCH_CMD_GO = true →
    ∃ t, Ends (.secBatchReadDone false b) s t ∧ t = { s with regs := t.regs, mgmt := t.mgmt } ∧ t.rd SEC_BATCH_CMD_RESULT = 0x0705 ∧
      t.flag SEC_BATCH_CMD_GO = false ∧ bit (t.pgErr ⟨.sec, 0⟩) 17 = true) ∧
  (∀ b, s.flag SEC_BATCH_CMD_GO = true → s.profile = profileF → b.keyOk = true → b.sigOk = true → s.fw.secSeq < b.seq → s.mgmtUp = true →
    s.flag DEV_SAVE_AUTO = false → b.entries = [] →
    ∃ t, Ends (.secBatchReadDone true b) s t ∧ t = { s with regs := t.regs, fw := { s.fw with secSeq := b.seq } } ∧
      t.rd SEC_BATCH_CMD_RESULT = 0 ∧ t.flag SEC_BATCH_CMD_GO = false) ∧
  (∀ path (a : BitVec 26) v g d, s.mgmtUp = true → (∀ p, path ≠ .tenant p) → s.profile = profileF → winAt a.toNat = none →
    regAt a.toNat = some (g, d) → g.blk ≠ .pmon → g.blk ≠ .sec → g.blk ≠ .ctx → g.blk ≠ .win → (∀ f ∈ d.flds, f.ty ≠ .w1c) →
    offends d 0 (s.reg a.toNat) v.toNat = true →
    ∃ t, Ends (.registerWrite path a v 15) s t ∧ t = { s with regs := t.regs, mgmt := t.mgmt, pmon := t.pmon } ∧ bit (t.pgErr g) 0 = true ∧
      t.tally .sec 0x01 = s.tally .sec 0x01 + 1 ∧ bit (t.pgErr ⟨.sec, 0⟩) 16 = true ∧
      ∀ b, b / 0x1000 ≠ 0x13 → b ≠ PG_ERR_ERR.at g → b ≠ PG_ERR_ERR.at ⟨.sec, 0⟩ → t.reg b = s.reg b)
end

