-- ==== Sys2Proof/Laws/Tables.lean ====
section
/-! SUPPORT. Laws of the tables, of bit fields and of registers: what is read after a write. -/

namespace Sys2Proof.Machine

variable {α : Type}

/-! ### Tables -/

@[simp] theorem Tbl.get?_nil (x : Nat) : Tbl.get? ([] : Tbl α) x = none := rfl

@[simp] theorem Tbl.get_nil (x : Nat) (d : α) : Tbl.get ([] : Tbl α) x d = d := rfl

theorem Tbl.get?_put (t : Tbl α) (x y : Nat) (v : α) :
    Tbl.get? (Tbl.put t x v) y = if x = y then some v else Tbl.get? t y := by
  induction t with
  | nil => simp [Tbl.put, Tbl.get?]
  | cons e t ih =>
    obtain ⟨k, w⟩ := e
    simp only [Tbl.put]
    by_cases h1 : x < k
    · rw [if_pos h1]; simp only [Tbl.get?]
    · by_cases h2 : x = k
      · subst h2
        by_cases hxy : x = y <;> simp [Tbl.get?, hxy]
      · by_cases hxy : x = y
        · subst hxy; simp [h1, h2, Tbl.get?, ih, Ne.symm h2]
        · simp [h1, h2, Tbl.get?, ih, hxy]

theorem Tbl.get?_del (t : Tbl α) (x y : Nat) :
    Tbl.get? (Tbl.del t x) y = if x = y then none else Tbl.get? t y := by
  induction t with
  | nil => simp [Tbl.del]
  | cons e t ih =>
    obtain ⟨k, w⟩ := e
    simp only [Tbl.del] at ih ⊢
    by_cases h : k = x
    · subst h
      by_cases hxy : k = y
      · subst hxy; simpa using ih
      · simpa [Tbl.get?, hxy] using ih
    · simp only [List.filter_cons, bne_iff_ne, ne_eq, h, not_false_eq_true, if_true, Tbl.get?, ih]
      by_cases hky : k = y
      · subst hky; simp [Ne.symm h]
      · simp [hky]

theorem Tbl.get_put (t : Tbl α) (x y : Nat) (v d : α) :
    Tbl.get (Tbl.put t x v) y d = if x = y then v else Tbl.get t y d := by
  simp only [Tbl.get, Tbl.get?_put]; split <;> rfl

@[simp] theorem Tbl.get_put_same (t : Tbl α) (x : Nat) (v d : α) : Tbl.get (Tbl.put t x v) x d = v := by
  simp [Tbl.get_put]

theorem Tbl.get_putD [DecidableEq α] (t : Tbl α) (x y : Nat) (d v : α) :
    Tbl.get (Tbl.putD t x d v) y d = if x = y then v else Tbl.get t y d := by
  unfold Tbl.putD
  split
  · subst_vars; simp only [Tbl.get, Tbl.get?_del]; split <;> rfl
  · exact Tbl.get_put t x y v d

/-- A write to one key leaves what any default reads under another key. -/
theorem Tbl.get_putD_ne [DecidableEq α] (t : Tbl α) (x y : Nat) (d e v : α) (h : x ≠ y) :
    Tbl.get (Tbl.putD t x d v) y e = Tbl.get t y e := by
  unfold Tbl.putD
  split
  · simp [Tbl.get, Tbl.get?_del, h]
  · simp [Tbl.get_put, h]

@[simp] theorem Tbl.get_mod (t : Tbl α) (x : Nat) (d : α) (f : α → α) :
    Tbl.get (Tbl.mod t x d f) x d = f (Tbl.get t x d) := by simp [Tbl.mod]

theorem Tbl.get_mod_ne (t : Tbl α) (x y : Nat) (d : α) (f : α → α) (h : x ≠ y) :
    Tbl.get (Tbl.mod t x d f) y d = Tbl.get t y d := by simp [Tbl.mod, Tbl.get_put, h]

/-- A put into a table of rising keys keeps the keys rising. -/
theorem Tbl.sorted_cons (k : Nat) (w : α) (t : Tbl α) :
    Tbl.sorted ((k, w) :: t) = true ↔ (∀ e ∈ t.head?, k < e.1) ∧ Tbl.sorted t = true := by
  cases t with
  | nil => simp [Tbl.sorted]
  | cons e t => obtain ⟨j, u⟩ := e; simp [Tbl.sorted]

theorem Tbl.head_put (t : Tbl α) (x : Nat) (v : α) (k : Nat) (hk : k < x) (h : ∀ e ∈ t.head?, k < e.1) :
    ∀ e ∈ (Tbl.put t x v).head?, k < e.1 := by
  cases t with
  | nil => simpa [Tbl.put] using hk
  | cons e t =>
    obtain ⟨j, u⟩ := e
    simp only [Tbl.put]
    split
    · simpa using hk
    · split
      · simpa using hk
      · simpa using h

theorem Tbl.sorted_put (t : Tbl α) (x : Nat) (v : α) (h : Tbl.sorted t = true) :
    Tbl.sorted (Tbl.put t x v) = true := by
  induction t with
  | nil => simp [Tbl.put, Tbl.sorted]
  | cons e t ih =>
    obtain ⟨k, w⟩ := e
    have hs := (Tbl.sorted_cons k w t).1 h
    simp only [Tbl.put]
    split
    · rename_i hlt; exact (Tbl.sorted_cons _ _ _).2 ⟨by simpa using hlt, h⟩
    · split
      · subst_vars; exact (Tbl.sorted_cons _ _ _).2 hs
      · exact (Tbl.sorted_cons _ _ _).2 ⟨Tbl.head_put t x v k (by omega) hs.1, ih hs.2⟩

theorem Tbl.sorted_pairwise (t : Tbl α) : Tbl.sorted t = true ↔ t.Pairwise (fun a b => a.1 < b.1) := by
  induction t with
  | nil => simp [Tbl.sorted]
  | cons e t ih =>
    obtain ⟨k, w⟩ := e
    rw [Tbl.sorted_cons, ih, List.pairwise_cons]
    constructor
    · rintro ⟨hh, hp⟩
      refine ⟨?_, hp⟩
      intro b hb
      cases t with
      | nil => simp at hb
      | cons c t =>
        have hc : k < c.1 := hh c (by simp)
        rcases List.mem_cons.1 hb with rfl | hb
        · exact hc
        · exact Nat.lt_trans hc ((List.pairwise_cons.1 hp).1 b hb)
    · rintro ⟨ha, hp⟩
      refine ⟨?_, hp⟩
      intro b hb
      cases t with
      | nil => simp at hb
      | cons c t => simp at hb; subst hb; exact ha c (by simp)

theorem Tbl.sorted_del (t : Tbl α) (x : Nat) (h : Tbl.sorted t = true) : Tbl.sorted (Tbl.del t x) = true := by
  rw [Tbl.sorted_pairwise] at h ⊢; exact h.filter _

theorem Tbl.mem_put {t : Tbl α} {x : Nat} {v : α} {e : Nat × α} (h : e ∈ Tbl.put t x v) : e = (x, v) ∨ e ∈ t := by
  induction t with
  | nil => simp [Tbl.put] at h; exact .inl h
  | cons c t ih =>
    obtain ⟨k, w⟩ := c
    simp only [Tbl.put] at h
    split at h
    · rcases List.mem_cons.1 h with rfl | h
      · exact .inl rfl
      · exact .inr h
    · split at h
      · rcases List.mem_cons.1 h with rfl | h
        · exact .inl rfl
        · exact .inr (List.mem_cons_of_mem _ h)
      · rcases List.mem_cons.1 h with rfl | h
        · exact .inr (by simp)
        · rcases ih h with h | h
          · exact .inl h
          · exact .inr (List.mem_cons_of_mem _ h)

/-! ### Bit fields -/

/-- A bit of a number with a field replaced. -/
theorem insBits_testBit (n hi lo v i : Nat) (h : lo ≤ hi) :
    (insBits n hi lo v).testBit i =
      if i < lo then n.testBit i else if i ≤ hi then v.testBit (i - lo) else n.testBit i := by
  have e : insBits n hi lo v =
      ((n >>> (hi + 1)) * 2 ^ (hi + 1 - lo) + v % 2 ^ (hi + 1 - lo)) * 2 ^ lo + n % 2 ^ lo := by
    simp only [insBits, Nat.shiftLeft_eq]
    rw [Nat.add_mul, Nat.mul_assoc, ← Nat.pow_add, Nat.sub_add_cancel (by omega)]
  rw [e, Nat.mul_comm, Nat.testBit_two_pow_mul_add _ (Nat.mod_lt _ (Nat.two_pow_pos lo))]
  by_cases h1 : i < lo
  · simp [h1]
  · rw [if_neg h1, if_neg h1, Nat.mul_comm _ (2 ^ (hi + 1 - lo)),
      Nat.testBit_two_pow_mul_add _ (Nat.mod_lt _ (Nat.two_pow_pos _))]
    by_cases h2 : i ≤ hi
    · have h3 : i - lo < hi + 1 - lo := by omega
      simp [h2, h3]
    · have h3 : ¬ i - lo < hi + 1 - lo := by omega
      have h4 : hi + 1 + (i - lo - (hi + 1 - lo)) = i := by omega
      simp [h2, h3, Nat.testBit_shiftRight, h4]

theorem bits_testBit (n hi lo i : Nat) : (bits n hi lo).testBit i = (decide (i < hi + 1 - lo) && n.testBit (lo + i)) := by
  simp [bits, Nat.testBit_shiftRight, Nat.testBit_mod_two_pow]

/-- The field just written reads back, cut to its width. -/
@[simp] theorem bits_insBits (n hi lo v : Nat) (h : lo ≤ hi) : bits (insBits n hi lo v) hi lo = v % 2 ^ (hi + 1 - lo) := by
  apply Nat.eq_of_testBit_eq; intro i
  rw [bits_testBit, insBits_testBit _ _ _ _ _ h, Nat.testBit_mod_two_pow]
  by_cases h1 : i < hi + 1 - lo
  · have h2 : ¬ lo + i < lo := by omega
    have h3 : lo + i ≤ hi := by omega
    simp [h1, h2, h3]
  · simp [h1]

/-- A field apart from the one written reads as before. -/
theorem bits_insBits_ne (n hi lo v hi' lo' : Nat) (h : lo ≤ hi) (d : hi < lo' ∨ hi' < lo) :
    bits (insBits n hi lo v) hi' lo' = bits n hi' lo' := by
  apply Nat.eq_of_testBit_eq; intro i
  rw [bits_testBit, bits_testBit, insBits_testBit _ _ _ _ _ h]
  by_cases h1 : i < hi' + 1 - lo'
  · rcases d with d | d
    · have h2 : ¬ lo' + i < lo := by omega
      have h3 : ¬ lo' + i ≤ hi := by omega
      simp [h2, h3]
    · have h2 : lo' + i < lo := by omega
      simp [h2]
  · simp [h1]

theorem bits_lt (n hi lo : Nat) : bits n hi lo < 2 ^ (hi + 1 - lo) := Nat.mod_lt _ (Nat.two_pow_pos _)

theorem bits_mod (n hi lo k : Nat) (h : hi < k) : bits (n % 2 ^ k) hi lo = bits n hi lo := by
  apply Nat.eq_of_testBit_eq; intro i
  rw [bits_testBit, bits_testBit, Nat.testBit_mod_two_pow]
  by_cases h1 : i < hi + 1 - lo
  · have h2 : lo + i < k := by omega
    simp [h2]
  · simp [h1]

/-! ### Registers -/

@[simp] theorem State.reg_setReg (s : State) (a v : Nat) : (s.setReg a v).reg a = v % 2 ^ 32 := by
  simp [State.reg, State.setReg, Tbl.get_putD]

theorem State.reg_setReg_ne (s : State) (a b v : Nat) (h : a ≠ b) : (s.setReg a v).reg b = s.reg b := by
  simp [State.reg, State.setReg, Tbl.get_putD_ne, h]

theorem State.reg_lt (s : State) (a : Nat) : s.reg a < 2 ^ 32 := BitVec.isLt _

theorem insBits_lt (n hi lo v k : Nat) (h1 : lo ≤ hi) (h2 : hi < k) (h3 : n < 2 ^ k) : insBits n hi lo v < 2 ^ k := by
  apply Nat.lt_pow_two_of_testBit
  intro i hi'
  rw [insBits_testBit _ _ _ _ _ h1, if_neg (by omega), if_neg (by omega)]
  exact Nat.testBit_lt_two_pow (Nat.lt_of_lt_of_le h3 (Nat.pow_le_pow_right (by omega) hi'))

/-- Setting a field changes its register to the register with the field replaced, and no other register. -/
theorem State.reg_set (s : State) (f : BlockField) (v i k b : Nat) (h1 : f.ref.lo ≤ f.ref.hi) (h2 : f.ref.hi < 32) :
    (s.set f v i k).reg b =
      if b = f.ref.at ⟨f.blk, i⟩ k then insBits (s.reg b) f.ref.hi f.ref.lo v else s.reg b := by
  unfold State.set
  split
  · subst_vars
    rw [State.reg_setReg, Nat.mod_eq_of_lt (insBits_lt _ _ _ _ 32 h1 h2 (s.reg_lt _))]
  · rename_i h; exact State.reg_setReg_ne _ _ _ _ (Ne.symm h)

/-- Setting a header field changes its register to the register with the field replaced, and no other register. -/
theorem State.reg_hset (s : State) (g : Page) (f : FieldRef) (v b : Nat) (h1 : f.lo ≤ f.hi) (h2 : f.hi < 32) :
    (s.hset g f v).reg b = if b = f.at g then insBits (s.reg b) f.hi f.lo v else s.reg b := by
  unfold State.hset
  split
  · subst_vars
    rw [State.reg_setReg, Nat.mod_eq_of_lt (insBits_lt _ _ _ _ 32 h1 h2 (s.reg_lt _))]
  · rename_i h; exact State.reg_setReg_ne _ _ _ _ (Ne.symm h)

/-- Storing a register what it holds changes no register. -/
theorem State.reg_setReg_self (s : State) (a b : Nat) : (s.setReg a (s.reg a)).reg b = s.reg b := by
  by_cases h : a = b
  · subst h; rw [State.reg_setReg, Nat.mod_eq_of_lt (s.reg_lt _)]
  · exact State.reg_setReg_ne _ _ _ _ h

/-- A field reads back what was written into it. -/
theorem State.rd_set (s : State) (f : BlockField) (v i k : Nat) (h1 : f.ref.lo ≤ f.ref.hi) (h2 : f.ref.hi < 32) :
    (s.set f v i k).rd f i k = v % 2 ^ (f.ref.hi + 1 - f.ref.lo) := by
  simp only [State.set, State.rd, State.reg_setReg, bits_mod _ _ _ _ h2, bits_insBits _ _ _ _ h1]

/-- A field of another register reads as before. -/
theorem State.rd_set_reg (s : State) (f g : BlockField) (v i k j l : Nat)
    (h : f.ref.at ⟨f.blk, i⟩ k ≠ g.ref.at ⟨g.blk, j⟩ l) : (s.set f v i k).rd g j l = s.rd g j l := by
  simp only [State.set, State.rd, State.reg_setReg_ne _ _ _ _ h]

/-- Another field of the same register reads as before. -/
theorem State.rd_set_field (s : State) (f g : BlockField) (v i k j l : Nat)
    (h : f.ref.at ⟨f.blk, i⟩ k = g.ref.at ⟨g.blk, j⟩ l) (h1 : f.ref.lo ≤ f.ref.hi) (h2 : g.ref.hi < 32)
    (d : f.ref.hi < g.ref.lo ∨ g.ref.hi < f.ref.lo) : (s.set f v i k).rd g j l = s.rd g j l := by
  simp only [State.set, State.rd, ← h, State.reg_setReg, bits_mod _ _ _ _ h2, bits_insBits_ne _ _ _ _ _ _ h1 d]

end Sys2Proof.Machine
end

