-- ==== Sys2Proof/Laws/Memory.lean ====
section
/-! SUPPORT. Laws of pool memory: a byte read after a write, and that every operation keeps the canonical form. -/

namespace Sys2Proof.Machine

theorem Memory.read_write (m : List Host.Cell) (a b : Nat) (v : Byte) :
    Memory.read (Memory.write m a v) b = if a = b then v else Memory.read m b := Tbl.get_putD m a b 0 v

@[simp] theorem Memory.read_write_same (m : List Host.Cell) (a : Nat) (v : Byte) :
    Memory.read (Memory.write m a v) a = v := by simp [Memory.read_write]

theorem Memory.read_write_ne (m : List Host.Cell) (a b : Nat) (v : Byte) (h : a ≠ b) :
    Memory.read (Memory.write m a v) b = Memory.read m b := by simp [Memory.read_write, h]

/-- The canonical form, spelled out. -/
theorem Memory.wf_iff (m : List Host.Cell) : Memory.wf m = true ↔ Tbl.sorted m = true ∧ ∀ c ∈ m, c.2 ≠ 0 := by
  simp [Memory.wf]

@[simp] theorem Memory.wf_nil : Memory.wf [] = true := rfl

/-- Writing a byte keeps the canonical form. -/
theorem Memory.wf_write (m : List Host.Cell) (a : Nat) (v : Byte) (h : Memory.wf m = true) :
    Memory.wf (Memory.write m a v) = true := by
  rw [Memory.wf_iff] at h ⊢
  unfold Memory.write Tbl.putD
  split
  · exact ⟨Tbl.sorted_del m a h.1, fun c hc => h.2 c (List.mem_filter.1 hc).1⟩
  · rename_i hv
    refine ⟨Tbl.sorted_put m a v h.1, fun c hc => ?_⟩
    rcases Tbl.mem_put hc with rfl | hc
    · exact hv
    · exact h.2 c hc

/-- Writing several bytes keeps the canonical form. -/
theorem Memory.wf_foldl {β : Type} (l : List β) (f : β → Nat) (g : β → Byte) (c : β → Bool) (m : List Host.Cell)
    (h : Memory.wf m = true) :
    Memory.wf (l.foldl (fun m x => if c x then Memory.write m (f x) (g x) else m) m) = true := by
  induction l generalizing m with
  | nil => exact h
  | cons x t ih =>
    simp only [List.foldl_cons]
    split
    · exact ih _ (Memory.wf_write _ _ _ h)
    · exact ih _ h

theorem Memory.wf_writeLine (m : List Host.Cell) (a : Nat) (mask : BitVec 64) (d : Line) (h : Memory.wf m = true) :
    Memory.wf (Memory.writeLine m a mask d) = true :=
  Memory.wf_foldl (List.range 64) (fun i => a + i) (fun i => byteOf d.toNat i) (fun i => mask.getLsbD i) m h

theorem Memory.wf_writeBytes (l : List Byte) (m : List Host.Cell) (a : Nat) (h : Memory.wf m = true) :
    Memory.wf (Memory.writeBytes m a l) = true := by
  induction l generalizing m a with
  | nil => exact h
  | cons b t ih => exact ih _ _ (Memory.wf_write _ _ _ h)

/-- Bringing stored bytes into canonical form gives the canonical form. -/
theorem Memory.wf_canon (m : List Host.Cell) : Memory.wf (Memory.canon m) = true := by
  unfold Memory.canon
  split
  · assumption
  · exact Memory.wf_foldl m (·.1) (·.2) (fun _ => true) [] rfl

/-- Bytes in canonical form are left as they are. -/
theorem Memory.canon_of_wf (m : List Host.Cell) (h : Memory.wf m = true) : Memory.canon m = m := by
  simp [Memory.canon, h]

/-- Writing bytes changes no byte outside the run. -/
theorem Memory.read_writeBytes_ne (l : List Byte) (m : List Host.Cell) (a b : Nat) (h : b < a ∨ a + l.length ≤ b) :
    Memory.read (Memory.writeBytes m a l) b = Memory.read m b := by
  induction l generalizing m a with
  | nil => rfl
  | cons v t ih =>
    simp only [List.length_cons] at h
    simp only [Memory.writeBytes]
    rw [ih _ _ (by omega), Memory.read_write_ne _ _ _ _ (by omega)]

theorem Memory.read_foldl_ne (l : List Nat) (mask : BitVec 64) (d : Line) (m : List Host.Cell) (a b : Nat)
    (h : ∀ i ∈ l, a + i ≠ b) :
    Memory.read (l.foldl (fun m i => if mask.getLsbD i then Memory.write m (a + i) (byteOf d.toNat i) else m) m) b
      = Memory.read m b := by
  induction l generalizing m with
  | nil => rfl
  | cons i t ih =>
    simp only [List.foldl_cons]
    rw [ih _ (fun j hj => h j (List.mem_cons_of_mem _ hj))]
    split
    · exact Memory.read_write_ne _ _ _ _ (h i (by simp))
    · rfl

/-- Writing a line changes no byte outside it. -/
theorem Memory.read_writeLine_ne (m : List Host.Cell) (a b : Nat) (mask : BitVec 64) (d : Line) (h : b < a ∨ a + 64 ≤ b) :
    Memory.read (Memory.writeLine m a mask d) b = Memory.read m b := by
  refine Memory.read_foldl_ne _ _ _ _ _ _ (fun i hi => ?_)
  have := List.mem_range.1 hi
  omega

end Sys2Proof.Machine
end

