-- ==== Sys2Proof/Laws/State.lean ====
section
/-! SUPPORT. Laws of State: what each update of the state leaves of each field, and what it leaves of the registers and the
ports. No proof needs to unfold an update. -/

namespace Sys2Proof.Machine

/-! ### State.setReg -/

@[simp] theorem State.setReg_pending (s : State) (a v : Nat) : (s.setReg a v).pending = s.pending := rfl
@[simp] theorem State.setReg_qos (s : State) (a v : Nat) : (s.setReg a v).qos = s.qos := rfl
@[simp] theorem State.setReg_ports (s : State) (a v : Nat) : (s.setReg a v).ports = s.ports := rfl
@[simp] theorem State.setReg_map (s : State) (a v : Nat) : (s.setReg a v).map = s.map := rfl
@[simp] theorem State.setReg_home (s : State) (a v : Nat) : (s.setReg a v).home = s.home := rfl
@[simp] theorem State.setReg_pub (s : State) (a v : Nat) : (s.setReg a v).pub = s.pub := rfl
@[simp] theorem State.setReg_rc (s : State) (a v : Nat) : (s.setReg a v).rc = s.rc := rfl
@[simp] theorem State.setReg_pool (s : State) (a v : Nat) : (s.setReg a v).pool = s.pool := rfl
@[simp] theorem State.setReg_tier (s : State) (a v : Nat) : (s.setReg a v).tier = s.tier := rfl
@[simp] theorem State.setReg_procs (s : State) (a v : Nat) : (s.setReg a v).procs = s.procs := rfl
@[simp] theorem State.setReg_filt (s : State) (a v : Nat) : (s.setReg a v).filt = s.filt := rfl
@[simp] theorem State.setReg_coll (s : State) (a v : Nat) : (s.setReg a v).coll = s.coll := rfl
@[simp] theorem State.setReg_sec (s : State) (a v : Nat) : (s.setReg a v).sec = s.sec := rfl
@[simp] theorem State.setReg_live (s : State) (a v : Nat) : (s.setReg a v).live = s.live := rfl
@[simp] theorem State.setReg_power (s : State) (a v : Nat) : (s.setReg a v).power = s.power := rfl
@[simp] theorem State.setReg_pocket (s : State) (a v : Nat) : (s.setReg a v).pocket = s.pocket := rfl
@[simp] theorem State.setReg_fw (s : State) (a v : Nat) : (s.setReg a v).fw = s.fw := rfl
@[simp] theorem State.setReg_pmon (s : State) (a v : Nat) : (s.setReg a v).pmon = s.pmon := rfl
@[simp] theorem State.setReg_mgmt (s : State) (a v : Nat) : (s.setReg a v).mgmt = s.mgmt := rfl
@[simp] theorem State.setReg_closing (s : State) (a v : Nat) : (s.setReg a v).closing = s.closing := rfl
@[simp] theorem State.setReg_ts (s : State) (a v : Nat) : (s.setReg a v).ts = s.ts := rfl
@[simp] theorem State.setReg_free (s : State) (a v : Nat) : (s.setReg a v).free = s.free := rfl
@[simp] theorem State.setReg_out (s : State) (a v : Nat) : (s.setReg a v).out = s.out := rfl
@[simp] theorem State.setReg_port (s : State) (a v : Nat) (j : Nat) : (s.setReg a v).port j = s.port j := rfl

/-! ### State.set -/

@[simp] theorem State.set_pending (s : State) (f : BlockField) (v i k : Nat) : (s.set f v i k).pending = s.pending := rfl
@[simp] theorem State.set_qos (s : State) (f : BlockField) (v i k : Nat) : (s.set f v i k).qos = s.qos := rfl
@[simp] theorem State.set_ports (s : State) (f : BlockField) (v i k : Nat) : (s.set f v i k).ports = s.ports := rfl
@[simp] theorem State.set_map (s : State) (f : BlockField) (v i k : Nat) : (s.set f v i k).map = s.map := rfl
@[simp] theorem State.set_home (s : State) (f : BlockField) (v i k : Nat) : (s.set f v i k).home = s.home := rfl
@[simp] theorem State.set_pub (s : State) (f : BlockField) (v i k : Nat) : (s.set f v i k).pub = s.pub := rfl
@[simp] theorem State.set_rc (s : State) (f : BlockField) (v i k : Nat) : (s.set f v i k).rc = s.rc := rfl
@[simp] theorem State.set_pool (s : State) (f : BlockField) (v i k : Nat) : (s.set f v i k).pool = s.pool := rfl
@[simp] theorem State.set_tier (s : State) (f : BlockField) (v i k : Nat) : (s.set f v i k).tier = s.tier := rfl
@[simp] theorem State.set_procs (s : State) (f : BlockField) (v i k : Nat) : (s.set f v i k).procs = s.procs := rfl
@[simp] theorem State.set_filt (s : State) (f : BlockField) (v i k : Nat) : (s.set f v i k).filt = s.filt := rfl
@[simp] theorem State.set_coll (s : State) (f : BlockField) (v i k : Nat) : (s.set f v i k).coll = s.coll := rfl
@[simp] theorem State.set_sec (s : State) (f : BlockField) (v i k : Nat) : (s.set f v i k).sec = s.sec := rfl
@[simp] theorem State.set_live (s : State) (f : BlockField) (v i k : Nat) : (s.set f v i k).live = s.live := rfl
@[simp] theorem State.set_power (s : State) (f : BlockField) (v i k : Nat) : (s.set f v i k).power = s.power := rfl
@[simp] theorem State.set_pocket (s : State) (f : BlockField) (v i k : Nat) : (s.set f v i k).pocket = s.pocket := rfl
@[simp] theorem State.set_fw (s : State) (f : BlockField) (v i k : Nat) : (s.set f v i k).fw = s.fw := rfl
@[simp] theorem State.set_pmon (s : State) (f : BlockField) (v i k : Nat) : (s.set f v i k).pmon = s.pmon := rfl
@[simp] theorem State.set_mgmt (s : State) (f : BlockField) (v i k : Nat) : (s.set f v i k).mgmt = s.mgmt := rfl
@[simp] theorem State.set_closing (s : State) (f : BlockField) (v i k : Nat) : (s.set f v i k).closing = s.closing := rfl
@[simp] theorem State.set_ts (s : State) (f : BlockField) (v i k : Nat) : (s.set f v i k).ts = s.ts := rfl
@[simp] theorem State.set_free (s : State) (f : BlockField) (v i k : Nat) : (s.set f v i k).free = s.free := rfl
@[simp] theorem State.set_out (s : State) (f : BlockField) (v i k : Nat) : (s.set f v i k).out = s.out := rfl
@[simp] theorem State.set_port (s : State) (f : BlockField) (v i k : Nat) (j : Nat) : (s.set f v i k).port j = s.port j := rfl

/-! ### State.hset -/

@[simp] theorem State.hset_pending (s : State) (g : Page) (f : FieldRef) (v : Nat) : (s.hset g f v).pending = s.pending := rfl
@[simp] theorem State.hset_qos (s : State) (g : Page) (f : FieldRef) (v : Nat) : (s.hset g f v).qos = s.qos := rfl
@[simp] theorem State.hset_ports (s : State) (g : Page) (f : FieldRef) (v : Nat) : (s.hset g f v).ports = s.ports := rfl
@[simp] theorem State.hset_map (s : State) (g : Page) (f : FieldRef) (v : Nat) : (s.hset g f v).map = s.map := rfl
@[simp] theorem State.hset_home (s : State) (g : Page) (f : FieldRef) (v : Nat) : (s.hset g f v).home = s.home := rfl
@[simp] theorem State.hset_pub (s : State) (g : Page) (f : FieldRef) (v : Nat) : (s.hset g f v).pub = s.pub := rfl
@[simp] theorem State.hset_rc (s : State) (g : Page) (f : FieldRef) (v : Nat) : (s.hset g f v).rc = s.rc := rfl
@[simp] theorem State.hset_pool (s : State) (g : Page) (f : FieldRef) (v : Nat) : (s.hset g f v).pool = s.pool := rfl
@[simp] theorem State.hset_tier (s : State) (g : Page) (f : FieldRef) (v : Nat) : (s.hset g f v).tier = s.tier := rfl
@[simp] theorem State.hset_procs (s : State) (g : Page) (f : FieldRef) (v : Nat) : (s.hset g f v).procs = s.procs := rfl
@[simp] theorem State.hset_filt (s : State) (g : Page) (f : FieldRef) (v : Nat) : (s.hset g f v).filt = s.filt := rfl
@[simp] theorem State.hset_coll (s : State) (g : Page) (f : FieldRef) (v : Nat) : (s.hset g f v).coll = s.coll := rfl
@[simp] theorem State.hset_sec (s : State) (g : Page) (f : FieldRef) (v : Nat) : (s.hset g f v).sec = s.sec := rfl
@[simp] theorem State.hset_live (s : State) (g : Page) (f : FieldRef) (v : Nat) : (s.hset g f v).live = s.live := rfl
@[simp] theorem State.hset_power (s : State) (g : Page) (f : FieldRef) (v : Nat) : (s.hset g f v).power = s.power := rfl
@[simp] theorem State.hset_pocket (s : State) (g : Page) (f : FieldRef) (v : Nat) : (s.hset g f v).pocket = s.pocket := rfl
@[simp] theorem State.hset_fw (s : State) (g : Page) (f : FieldRef) (v : Nat) : (s.hset g f v).fw = s.fw := rfl
@[simp] theorem State.hset_pmon (s : State) (g : Page) (f : FieldRef) (v : Nat) : (s.hset g f v).pmon = s.pmon := rfl
@[simp] theorem State.hset_mgmt (s : State) (g : Page) (f : FieldRef) (v : Nat) : (s.hset g f v).mgmt = s.mgmt := rfl
@[simp] theorem State.hset_closing (s : State) (g : Page) (f : FieldRef) (v : Nat) : (s.hset g f v).closing = s.closing := rfl
@[simp] theorem State.hset_ts (s : State) (g : Page) (f : FieldRef) (v : Nat) : (s.hset g f v).ts = s.ts := rfl
@[simp] theorem State.hset_free (s : State) (g : Page) (f : FieldRef) (v : Nat) : (s.hset g f v).free = s.free := rfl
@[simp] theorem State.hset_out (s : State) (g : Page) (f : FieldRef) (v : Nat) : (s.hset g f v).out = s.out := rfl
@[simp] theorem State.hset_port (s : State) (g : Page) (f : FieldRef) (v : Nat) (j : Nat) : (s.hset g f v).port j = s.port j := rfl

/-! ### State.emit -/

@[simp] theorem State.emit_pending (s : State) (o : Output) : (s.emit o).pending = s.pending := rfl
@[simp] theorem State.emit_regs (s : State) (o : Output) : (s.emit o).regs = s.regs := rfl
@[simp] theorem State.emit_qos (s : State) (o : Output) : (s.emit o).qos = s.qos := rfl
@[simp] theorem State.emit_ports (s : State) (o : Output) : (s.emit o).ports = s.ports := rfl
@[simp] theorem State.emit_map (s : State) (o : Output) : (s.emit o).map = s.map := rfl
@[simp] theorem State.emit_home (s : State) (o : Output) : (s.emit o).home = s.home := rfl
@[simp] theorem State.emit_pub (s : State) (o : Output) : (s.emit o).pub = s.pub := rfl
@[simp] theorem State.emit_rc (s : State) (o : Output) : (s.emit o).rc = s.rc := rfl
@[simp] theorem State.emit_pool (s : State) (o : Output) : (s.emit o).pool = s.pool := rfl
@[simp] theorem State.emit_tier (s : State) (o : Output) : (s.emit o).tier = s.tier := rfl
@[simp] theorem State.emit_procs (s : State) (o : Output) : (s.emit o).procs = s.procs := rfl
@[simp] theorem State.emit_filt (s : State) (o : Output) : (s.emit o).filt = s.filt := rfl
@[simp] theorem State.emit_coll (s : State) (o : Output) : (s.emit o).coll = s.coll := rfl
@[simp] theorem State.emit_sec (s : State) (o : Output) : (s.emit o).sec = s.sec := rfl
@[simp] theorem State.emit_live (s : State) (o : Output) : (s.emit o).live = s.live := rfl
@[simp] theorem State.emit_power (s : State) (o : Output) : (s.emit o).power = s.power := rfl
@[simp] theorem State.emit_pocket (s : State) (o : Output) : (s.emit o).pocket = s.pocket := rfl
@[simp] theorem State.emit_fw (s : State) (o : Output) : (s.emit o).fw = s.fw := rfl
@[simp] theorem State.emit_pmon (s : State) (o : Output) : (s.emit o).pmon = s.pmon := rfl
@[simp] theorem State.emit_mgmt (s : State) (o : Output) : (s.emit o).mgmt = s.mgmt := rfl
@[simp] theorem State.emit_closing (s : State) (o : Output) : (s.emit o).closing = s.closing := rfl
@[simp] theorem State.emit_ts (s : State) (o : Output) : (s.emit o).ts = s.ts := rfl
@[simp] theorem State.emit_free (s : State) (o : Output) : (s.emit o).free = s.free := rfl
@[simp] theorem State.emit_out (s : State) (o : Output) : (s.emit o).out = o :: s.out := rfl
@[simp] theorem State.emit_reg (s : State) (o : Output) (b : Nat) : (s.emit o).reg b = s.reg b := rfl
@[simp] theorem State.emit_rd (s : State) (o : Output) (g : BlockField) (j c : Nat) : (s.emit o).rd g j c = s.rd g j c := rfl
@[simp] theorem State.emit_hrd (s : State) (o : Output) (w : Page) (g : FieldRef) : (s.emit o).hrd w g = s.hrd w g := rfl
@[simp] theorem State.emit_flag (s : State) (o : Output) (g : BlockField) (j : Nat) : (s.emit o).flag g j = s.flag g j := rfl
@[simp] theorem State.emit_enabled (s : State) (o : Output) (b : Block) (j : Nat) : (s.emit o).enabled b j = s.enabled b j := rfl
@[simp] theorem State.emit_quiescing (s : State) (o : Output) (b : Block) (j : Nat) : (s.emit o).quiescing b j = s.quiescing b j := rfl
@[simp] theorem State.emit_port (s : State) (o : Output) (j : Nat) : (s.emit o).port j = s.port j := rfl
@[simp] theorem State.emit_role (s : State) (o : Output) (j : Nat) : (s.emit o).role j = s.role j := rfl
@[simp] theorem State.emit_linked (s : State) (o : Output) (j : Nat) : (s.emit o).linked j = s.linked j := rfl

/-! ### State.modPort -/

@[simp] theorem State.modPort_pending (s : State) (p : Nat) (f : PortSt → PortSt) : (s.modPort p f).pending = s.pending := rfl
@[simp] theorem State.modPort_regs (s : State) (p : Nat) (f : PortSt → PortSt) : (s.modPort p f).regs = s.regs := rfl
@[simp] theorem State.modPort_qos (s : State) (p : Nat) (f : PortSt → PortSt) : (s.modPort p f).qos = s.qos := rfl
@[simp] theorem State.modPort_ports (s : State) (p : Nat) (f : PortSt → PortSt) : (s.modPort p f).ports = Tbl.mod s.ports p {} f := rfl
@[simp] theorem State.modPort_map (s : State) (p : Nat) (f : PortSt → PortSt) : (s.modPort p f).map = s.map := rfl
@[simp] theorem State.modPort_home (s : State) (p : Nat) (f : PortSt → PortSt) : (s.modPort p f).home = s.home := rfl
@[simp] theorem State.modPort_pub (s : State) (p : Nat) (f : PortSt → PortSt) : (s.modPort p f).pub = s.pub := rfl
@[simp] theorem State.modPort_rc (s : State) (p : Nat) (f : PortSt → PortSt) : (s.modPort p f).rc = s.rc := rfl
@[simp] theorem State.modPort_pool (s : State) (p : Nat) (f : PortSt → PortSt) : (s.modPort p f).pool = s.pool := rfl
@[simp] theorem State.modPort_tier (s : State) (p : Nat) (f : PortSt → PortSt) : (s.modPort p f).tier = s.tier := rfl
@[simp] theorem State.modPort_procs (s : State) (p : Nat) (f : PortSt → PortSt) : (s.modPort p f).procs = s.procs := rfl
@[simp] theorem State.modPort_filt (s : State) (p : Nat) (f : PortSt → PortSt) : (s.modPort p f).filt = s.filt := rfl
@[simp] theorem State.modPort_coll (s : State) (p : Nat) (f : PortSt → PortSt) : (s.modPort p f).coll = s.coll := rfl
@[simp] theorem State.modPort_sec (s : State) (p : Nat) (f : PortSt → PortSt) : (s.modPort p f).sec = s.sec := rfl
@[simp] theorem State.modPort_live (s : State) (p : Nat) (f : PortSt → PortSt) : (s.modPort p f).live = s.live := rfl
@[simp] theorem State.modPort_power (s : State) (p : Nat) (f : PortSt → PortSt) : (s.modPort p f).power = s.power := rfl
@[simp] theorem State.modPort_pocket (s : State) (p : Nat) (f : PortSt → PortSt) : (s.modPort p f).pocket = s.pocket := rfl
@[simp] theorem State.modPort_fw (s : State) (p : Nat) (f : PortSt → PortSt) : (s.modPort p f).fw = s.fw := rfl
@[simp] theorem State.modPort_pmon (s : State) (p : Nat) (f : PortSt → PortSt) : (s.modPort p f).pmon = s.pmon := rfl
@[simp] theorem State.modPort_mgmt (s : State) (p : Nat) (f : PortSt → PortSt) : (s.modPort p f).mgmt = s.mgmt := rfl
@[simp] theorem State.modPort_closing (s : State) (p : Nat) (f : PortSt → PortSt) : (s.modPort p f).closing = s.closing := rfl
@[simp] theorem State.modPort_ts (s : State) (p : Nat) (f : PortSt → PortSt) : (s.modPort p f).ts = s.ts := rfl
@[simp] theorem State.modPort_free (s : State) (p : Nat) (f : PortSt → PortSt) : (s.modPort p f).free = s.free := rfl
@[simp] theorem State.modPort_out (s : State) (p : Nat) (f : PortSt → PortSt) : (s.modPort p f).out = s.out := rfl
@[simp] theorem State.modPort_reg (s : State) (p : Nat) (f : PortSt → PortSt) (b : Nat) : (s.modPort p f).reg b = s.reg b := rfl
@[simp] theorem State.modPort_rd (s : State) (p : Nat) (f : PortSt → PortSt) (g : BlockField) (j c : Nat) : (s.modPort p f).rd g j c = s.rd g j c := rfl
@[simp] theorem State.modPort_hrd (s : State) (p : Nat) (f : PortSt → PortSt) (w : Page) (g : FieldRef) : (s.modPort p f).hrd w g = s.hrd w g := rfl
@[simp] theorem State.modPort_flag (s : State) (p : Nat) (f : PortSt → PortSt) (g : BlockField) (j : Nat) : (s.modPort p f).flag g j = s.flag g j := rfl
@[simp] theorem State.modPort_enabled (s : State) (p : Nat) (f : PortSt → PortSt) (b : Block) (j : Nat) : (s.modPort p f).enabled b j = s.enabled b j := rfl
@[simp] theorem State.modPort_quiescing (s : State) (p : Nat) (f : PortSt → PortSt) (b : Block) (j : Nat) : (s.modPort p f).quiescing b j = s.quiescing b j := rfl
@[simp] theorem State.modPort_role (s : State) (p : Nat) (f : PortSt → PortSt) (j : Nat) : (s.modPort p f).role j = s.role j := rfl

/-! ### State.sendQ -/

@[simp] theorem State.sendQ_pending (s : State) (p q : Nat) (m : Msg) : (s.sendQ p q m).pending = s.pending := rfl
@[simp] theorem State.sendQ_regs (s : State) (p q : Nat) (m : Msg) : (s.sendQ p q m).regs = s.regs := rfl
@[simp] theorem State.sendQ_qos (s : State) (p q : Nat) (m : Msg) : (s.sendQ p q m).qos = s.qos := rfl
@[simp] theorem State.sendQ_map (s : State) (p q : Nat) (m : Msg) : (s.sendQ p q m).map = s.map := rfl
@[simp] theorem State.sendQ_home (s : State) (p q : Nat) (m : Msg) : (s.sendQ p q m).home = s.home := rfl
@[simp] theorem State.sendQ_pub (s : State) (p q : Nat) (m : Msg) : (s.sendQ p q m).pub = s.pub := rfl
@[simp] theorem State.sendQ_rc (s : State) (p q : Nat) (m : Msg) : (s.sendQ p q m).rc = s.rc := rfl
@[simp] theorem State.sendQ_pool (s : State) (p q : Nat) (m : Msg) : (s.sendQ p q m).pool = s.pool := rfl
@[simp] theorem State.sendQ_tier (s : State) (p q : Nat) (m : Msg) : (s.sendQ p q m).tier = s.tier := rfl
@[simp] theorem State.sendQ_procs (s : State) (p q : Nat) (m : Msg) : (s.sendQ p q m).procs = s.procs := rfl
@[simp] theorem State.sendQ_filt (s : State) (p q : Nat) (m : Msg) : (s.sendQ p q m).filt = s.filt := rfl
@[simp] theorem State.sendQ_coll (s : State) (p q : Nat) (m : Msg) : (s.sendQ p q m).coll = s.coll := rfl
@[simp] theorem State.sendQ_sec (s : State) (p q : Nat) (m : Msg) : (s.sendQ p q m).sec = s.sec := rfl
@[simp] theorem State.sendQ_live (s : State) (p q : Nat) (m : Msg) : (s.sendQ p q m).live = s.live := rfl
@[simp] theorem State.sendQ_power (s : State) (p q : Nat) (m : Msg) : (s.sendQ p q m).power = s.power := rfl
@[simp] theorem State.sendQ_pocket (s : State) (p q : Nat) (m : Msg) : (s.sendQ p q m).pocket = s.pocket := rfl
@[simp] theorem State.sendQ_fw (s : State) (p q : Nat) (m : Msg) : (s.sendQ p q m).fw = s.fw := rfl
@[simp] theorem State.sendQ_pmon (s : State) (p q : Nat) (m : Msg) : (s.sendQ p q m).pmon = s.pmon := rfl
@[simp] theorem State.sendQ_mgmt (s : State) (p q : Nat) (m : Msg) : (s.sendQ p q m).mgmt = s.mgmt := rfl
@[simp] theorem State.sendQ_closing (s : State) (p q : Nat) (m : Msg) : (s.sendQ p q m).closing = s.closing := rfl
@[simp] theorem State.sendQ_ts (s : State) (p q : Nat) (m : Msg) : (s.sendQ p q m).ts = s.ts := rfl
@[simp] theorem State.sendQ_free (s : State) (p q : Nat) (m : Msg) : (s.sendQ p q m).free = s.free := rfl
@[simp] theorem State.sendQ_out (s : State) (p q : Nat) (m : Msg) : (s.sendQ p q m).out = s.out := rfl
@[simp] theorem State.sendQ_reg (s : State) (p q : Nat) (m : Msg) (b : Nat) : (s.sendQ p q m).reg b = s.reg b := rfl
@[simp] theorem State.sendQ_rd (s : State) (p q : Nat) (m : Msg) (g : BlockField) (j c : Nat) : (s.sendQ p q m).rd g j c = s.rd g j c := rfl
@[simp] theorem State.sendQ_hrd (s : State) (p q : Nat) (m : Msg) (w : Page) (g : FieldRef) : (s.sendQ p q m).hrd w g = s.hrd w g := rfl
@[simp] theorem State.sendQ_flag (s : State) (p q : Nat) (m : Msg) (g : BlockField) (j : Nat) : (s.sendQ p q m).flag g j = s.flag g j := rfl
@[simp] theorem State.sendQ_enabled (s : State) (p q : Nat) (m : Msg) (b : Block) (j : Nat) : (s.sendQ p q m).enabled b j = s.enabled b j := rfl
@[simp] theorem State.sendQ_quiescing (s : State) (p q : Nat) (m : Msg) (b : Block) (j : Nat) : (s.sendQ p q m).quiescing b j = s.quiescing b j := rfl
@[simp] theorem State.sendQ_role (s : State) (p q : Nat) (m : Msg) (j : Nat) : (s.sendQ p q m).role j = s.role j := rfl

/-! ### State.sendW -/

@[simp] theorem State.sendW_pending (s : State) (p tc : Nat) (n : Option Nat) (k : Nat) (m : Msg) : (s.sendW p tc n k m).pending = s.pending := rfl
@[simp] theorem State.sendW_regs (s : State) (p tc : Nat) (n : Option Nat) (k : Nat) (m : Msg) : (s.sendW p tc n k m).regs = s.regs := rfl
@[simp] theorem State.sendW_qos (s : State) (p tc : Nat) (n : Option Nat) (k : Nat) (m : Msg) : (s.sendW p tc n k m).qos = s.qos := rfl
@[simp] theorem State.sendW_map (s : State) (p tc : Nat) (n : Option Nat) (k : Nat) (m : Msg) : (s.sendW p tc n k m).map = s.map := rfl
@[simp] theorem State.sendW_home (s : State) (p tc : Nat) (n : Option Nat) (k : Nat) (m : Msg) : (s.sendW p tc n k m).home = s.home := rfl
@[simp] theorem State.sendW_pub (s : State) (p tc : Nat) (n : Option Nat) (k : Nat) (m : Msg) : (s.sendW p tc n k m).pub = s.pub := rfl
@[simp] theorem State.sendW_rc (s : State) (p tc : Nat) (n : Option Nat) (k : Nat) (m : Msg) : (s.sendW p tc n k m).rc = s.rc := rfl
@[simp] theorem State.sendW_pool (s : State) (p tc : Nat) (n : Option Nat) (k : Nat) (m : Msg) : (s.sendW p tc n k m).pool = s.pool := rfl
@[simp] theorem State.sendW_tier (s : State) (p tc : Nat) (n : Option Nat) (k : Nat) (m : Msg) : (s.sendW p tc n k m).tier = s.tier := rfl
@[simp] theorem State.sendW_procs (s : State) (p tc : Nat) (n : Option Nat) (k : Nat) (m : Msg) : (s.sendW p tc n k m).procs = s.procs := rfl
@[simp] theorem State.sendW_filt (s : State) (p tc : Nat) (n : Option Nat) (k : Nat) (m : Msg) : (s.sendW p tc n k m).filt = s.filt := rfl
@[simp] theorem State.sendW_coll (s : State) (p tc : Nat) (n : Option Nat) (k : Nat) (m : Msg) : (s.sendW p tc n k m).coll = s.coll := rfl
@[simp] theorem State.sendW_sec (s : State) (p tc : Nat) (n : Option Nat) (k : Nat) (m : Msg) : (s.sendW p tc n k m).sec = s.sec := rfl
@[simp] theorem State.sendW_live (s : State) (p tc : Nat) (n : Option Nat) (k : Nat) (m : Msg) : (s.sendW p tc n k m).live = s.live := rfl
@[simp] theorem State.sendW_power (s : State) (p tc : Nat) (n : Option Nat) (k : Nat) (m : Msg) : (s.sendW p tc n k m).power = s.power := rfl
@[simp] theorem State.sendW_pocket (s : State) (p tc : Nat) (n : Option Nat) (k : Nat) (m : Msg) : (s.sendW p tc n k m).pocket = s.pocket := rfl
@[simp] theorem State.sendW_fw (s : State) (p tc : Nat) (n : Option Nat) (k : Nat) (m : Msg) : (s.sendW p tc n k m).fw = s.fw := rfl
@[simp] theorem State.sendW_pmon (s : State) (p tc : Nat) (n : Option Nat) (k : Nat) (m : Msg) : (s.sendW p tc n k m).pmon = s.pmon := rfl
@[simp] theorem State.sendW_mgmt (s : State) (p tc : Nat) (n : Option Nat) (k : Nat) (m : Msg) : (s.sendW p tc n k m).mgmt = s.mgmt := rfl
@[simp] theorem State.sendW_closing (s : State) (p tc : Nat) (n : Option Nat) (k : Nat) (m : Msg) : (s.sendW p tc n k m).closing = s.closing := rfl
@[simp] theorem State.sendW_ts (s : State) (p tc : Nat) (n : Option Nat) (k : Nat) (m : Msg) : (s.sendW p tc n k m).ts = s.ts := rfl
@[simp] theorem State.sendW_free (s : State) (p tc : Nat) (n : Option Nat) (k : Nat) (m : Msg) : (s.sendW p tc n k m).free = s.free := rfl
@[simp] theorem State.sendW_out (s : State) (p tc : Nat) (n : Option Nat) (k : Nat) (m : Msg) : (s.sendW p tc n k m).out = s.out := rfl
@[simp] theorem State.sendW_reg (s : State) (p tc : Nat) (n : Option Nat) (k : Nat) (m : Msg) (b : Nat) : (s.sendW p tc n k m).reg b = s.reg b := rfl
@[simp] theorem State.sendW_rd (s : State) (p tc : Nat) (n : Option Nat) (k : Nat) (m : Msg) (g : BlockField) (j c : Nat) : (s.sendW p tc n k m).rd g j c = s.rd g j c := rfl
@[simp] theorem State.sendW_hrd (s : State) (p tc : Nat) (n : Option Nat) (k : Nat) (m : Msg) (w : Page) (g : FieldRef) : (s.sendW p tc n k m).hrd w g = s.hrd w g := rfl
@[simp] theorem State.sendW_flag (s : State) (p tc : Nat) (n : Option Nat) (k : Nat) (m : Msg) (g : BlockField) (j : Nat) : (s.sendW p tc n k m).flag g j = s.flag g j := rfl
@[simp] theorem State.sendW_enabled (s : State) (p tc : Nat) (n : Option Nat) (k : Nat) (m : Msg) (b : Block) (j : Nat) : (s.sendW p tc n k m).enabled b j = s.enabled b j := rfl
@[simp] theorem State.sendW_quiescing (s : State) (p tc : Nat) (n : Option Nat) (k : Nat) (m : Msg) (b : Block) (j : Nat) : (s.sendW p tc n k m).quiescing b j = s.quiescing b j := rfl
@[simp] theorem State.sendW_role (s : State) (p tc : Nat) (n : Option Nat) (k : Nat) (m : Msg) (j : Nat) : (s.sendW p tc n k m).role j = s.role j := rfl

/-! ### State.setHo -/

@[simp] theorem State.setHo_pending (s : State) (x : Nat) (h : Option Handover) : (s.setHo x h).pending = s.pending := rfl
@[simp] theorem State.setHo_regs (s : State) (x : Nat) (h : Option Handover) : (s.setHo x h).regs = s.regs := rfl
@[simp] theorem State.setHo_qos (s : State) (x : Nat) (h : Option Handover) : (s.setHo x h).qos = s.qos := rfl
@[simp] theorem State.setHo_ports (s : State) (x : Nat) (h : Option Handover) : (s.setHo x h).ports = s.ports := rfl
@[simp] theorem State.setHo_home (s : State) (x : Nat) (h : Option Handover) : (s.setHo x h).home = s.home := rfl
@[simp] theorem State.setHo_pub (s : State) (x : Nat) (h : Option Handover) : (s.setHo x h).pub = s.pub := rfl
@[simp] theorem State.setHo_rc (s : State) (x : Nat) (h : Option Handover) : (s.setHo x h).rc = s.rc := rfl
@[simp] theorem State.setHo_pool (s : State) (x : Nat) (h : Option Handover) : (s.setHo x h).pool = s.pool := rfl
@[simp] theorem State.setHo_tier (s : State) (x : Nat) (h : Option Handover) : (s.setHo x h).tier = s.tier := rfl
@[simp] theorem State.setHo_procs (s : State) (x : Nat) (h : Option Handover) : (s.setHo x h).procs = s.procs := rfl
@[simp] theorem State.setHo_filt (s : State) (x : Nat) (h : Option Handover) : (s.setHo x h).filt = s.filt := rfl
@[simp] theorem State.setHo_coll (s : State) (x : Nat) (h : Option Handover) : (s.setHo x h).coll = s.coll := rfl
@[simp] theorem State.setHo_sec (s : State) (x : Nat) (h : Option Handover) : (s.setHo x h).sec = s.sec := rfl
@[simp] theorem State.setHo_live (s : State) (x : Nat) (h : Option Handover) : (s.setHo x h).live = s.live := rfl
@[simp] theorem State.setHo_power (s : State) (x : Nat) (h : Option Handover) : (s.setHo x h).power = s.power := rfl
@[simp] theorem State.setHo_pocket (s : State) (x : Nat) (h : Option Handover) : (s.setHo x h).pocket = s.pocket := rfl
@[simp] theorem State.setHo_fw (s : State) (x : Nat) (h : Option Handover) : (s.setHo x h).fw = s.fw := rfl
@[simp] theorem State.setHo_pmon (s : State) (x : Nat) (h : Option Handover) : (s.setHo x h).pmon = s.pmon := rfl
@[simp] theorem State.setHo_mgmt (s : State) (x : Nat) (h : Option Handover) : (s.setHo x h).mgmt = s.mgmt := rfl
@[simp] theorem State.setHo_closing (s : State) (x : Nat) (h : Option Handover) : (s.setHo x h).closing = s.closing := rfl
@[simp] theorem State.setHo_ts (s : State) (x : Nat) (h : Option Handover) : (s.setHo x h).ts = s.ts := rfl
@[simp] theorem State.setHo_free (s : State) (x : Nat) (h : Option Handover) : (s.setHo x h).free = s.free := rfl
@[simp] theorem State.setHo_out (s : State) (x : Nat) (h : Option Handover) : (s.setHo x h).out = s.out := rfl
@[simp] theorem State.setHo_reg (s : State) (x : Nat) (h : Option Handover) (b : Nat) : (s.setHo x h).reg b = s.reg b := rfl
@[simp] theorem State.setHo_rd (s : State) (x : Nat) (h : Option Handover) (g : BlockField) (j c : Nat) : (s.setHo x h).rd g j c = s.rd g j c := rfl
@[simp] theorem State.setHo_hrd (s : State) (x : Nat) (h : Option Handover) (w : Page) (g : FieldRef) : (s.setHo x h).hrd w g = s.hrd w g := rfl
@[simp] theorem State.setHo_flag (s : State) (x : Nat) (h : Option Handover) (g : BlockField) (j : Nat) : (s.setHo x h).flag g j = s.flag g j := rfl
@[simp] theorem State.setHo_enabled (s : State) (x : Nat) (h : Option Handover) (b : Block) (j : Nat) : (s.setHo x h).enabled b j = s.enabled b j := rfl
@[simp] theorem State.setHo_quiescing (s : State) (x : Nat) (h : Option Handover) (b : Block) (j : Nat) : (s.setHo x h).quiescing b j = s.quiescing b j := rfl
@[simp] theorem State.setHo_port (s : State) (x : Nat) (h : Option Handover) (j : Nat) : (s.setHo x h).port j = s.port j := rfl
@[simp] theorem State.setHo_role (s : State) (x : Nat) (h : Option Handover) (j : Nat) : (s.setHo x h).role j = s.role j := rfl
@[simp] theorem State.setHo_linked (s : State) (x : Nat) (h : Option Handover) (j : Nat) : (s.setHo x h).linked j = s.linked j := rfl

/-! ### State.setPageEnt -/

@[simp] theorem State.setPageEnt_pending (s : State) (p : Nat) (e : PageEnt) : (s.setPageEnt p e).pending = s.pending := by
  unfold State.setPageEnt State.tableWrite; dsimp only; split <;> rfl
@[simp] theorem State.setPageEnt_regs (s : State) (p : Nat) (e : PageEnt) : (s.setPageEnt p e).regs = s.regs := by
  unfold State.setPageEnt State.tableWrite; dsimp only; split <;> rfl
@[simp] theorem State.setPageEnt_qos (s : State) (p : Nat) (e : PageEnt) : (s.setPageEnt p e).qos = s.qos := by
  unfold State.setPageEnt State.tableWrite; dsimp only; split <;> rfl
@[simp] theorem State.setPageEnt_map (s : State) (p : Nat) (e : PageEnt) : (s.setPageEnt p e).map = s.map := by
  unfold State.setPageEnt State.tableWrite; dsimp only; split <;> rfl
@[simp] theorem State.setPageEnt_home (s : State) (p : Nat) (e : PageEnt) : (s.setPageEnt p e).home = s.home := by
  unfold State.setPageEnt State.tableWrite; dsimp only; split <;> rfl
@[simp] theorem State.setPageEnt_pub (s : State) (p : Nat) (e : PageEnt) : (s.setPageEnt p e).pub = s.pub := by
  unfold State.setPageEnt State.tableWrite; dsimp only; split <;> rfl
@[simp] theorem State.setPageEnt_rc (s : State) (p : Nat) (e : PageEnt) : (s.setPageEnt p e).rc = s.rc := by
  unfold State.setPageEnt State.tableWrite; dsimp only; split <;> rfl
@[simp] theorem State.setPageEnt_pool (s : State) (p : Nat) (e : PageEnt) : (s.setPageEnt p e).pool = s.pool := by
  unfold State.setPageEnt State.tableWrite; dsimp only; split <;> rfl
@[simp] theorem State.setPageEnt_procs (s : State) (p : Nat) (e : PageEnt) : (s.setPageEnt p e).procs = s.procs := by
  unfold State.setPageEnt State.tableWrite; dsimp only; split <;> rfl
@[simp] theorem State.setPageEnt_filt (s : State) (p : Nat) (e : PageEnt) : (s.setPageEnt p e).filt = s.filt := by
  unfold State.setPageEnt State.tableWrite; dsimp only; split <;> rfl
@[simp] theorem State.setPageEnt_coll (s : State) (p : Nat) (e : PageEnt) : (s.setPageEnt p e).coll = s.coll := by
  unfold State.setPageEnt State.tableWrite; dsimp only; split <;> rfl
@[simp] theorem State.setPageEnt_sec (s : State) (p : Nat) (e : PageEnt) : (s.setPageEnt p e).sec = s.sec := by
  unfold State.setPageEnt State.tableWrite; dsimp only; split <;> rfl
@[simp] theorem State.setPageEnt_live (s : State) (p : Nat) (e : PageEnt) : (s.setPageEnt p e).live = s.live := by
  unfold State.setPageEnt State.tableWrite; dsimp only; split <;> rfl
@[simp] theorem State.setPageEnt_power (s : State) (p : Nat) (e : PageEnt) : (s.setPageEnt p e).power = s.power := by
  unfold State.setPageEnt State.tableWrite; dsimp only; split <;> rfl
@[simp] theorem State.setPageEnt_pocket (s : State) (p : Nat) (e : PageEnt) : (s.setPageEnt p e).pocket = s.pocket := by
  unfold State.setPageEnt State.tableWrite; dsimp only; split <;> rfl
@[simp] theorem State.setPageEnt_fw (s : State) (p : Nat) (e : PageEnt) : (s.setPageEnt p e).fw = s.fw := by
  unfold State.setPageEnt State.tableWrite; dsimp only; split <;> rfl
@[simp] theorem State.setPageEnt_pmon (s : State) (p : Nat) (e : PageEnt) : (s.setPageEnt p e).pmon = s.pmon := by
  unfold State.setPageEnt State.tableWrite; dsimp only; split <;> rfl
@[simp] theorem State.setPageEnt_mgmt (s : State) (p : Nat) (e : PageEnt) : (s.setPageEnt p e).mgmt = s.mgmt := by
  unfold State.setPageEnt State.tableWrite; dsimp only; split <;> rfl
@[simp] theorem State.setPageEnt_closing (s : State) (p : Nat) (e : PageEnt) : (s.setPageEnt p e).closing = s.closing := by
  unfold State.setPageEnt State.tableWrite; dsimp only; split <;> rfl
@[simp] theorem State.setPageEnt_ts (s : State) (p : Nat) (e : PageEnt) : (s.setPageEnt p e).ts = s.ts := by
  unfold State.setPageEnt State.tableWrite; dsimp only; split <;> rfl
@[simp] theorem State.setPageEnt_free (s : State) (p : Nat) (e : PageEnt) : (s.setPageEnt p e).free = s.free := by
  unfold State.setPageEnt State.tableWrite; dsimp only; split <;> rfl
@[simp] theorem State.setPageEnt_out (s : State) (p : Nat) (e : PageEnt) : (s.setPageEnt p e).out = s.out := by
  unfold State.setPageEnt State.tableWrite; dsimp only; split <;> rfl
@[simp] theorem State.setPageEnt_reg (s : State) (p : Nat) (e : PageEnt) (b : Nat) : (s.setPageEnt p e).reg b = s.reg b := by
  unfold State.setPageEnt State.tableWrite; dsimp only; split <;> rfl
@[simp] theorem State.setPageEnt_rd (s : State) (p : Nat) (e : PageEnt) (g : BlockField) (j c : Nat) : (s.setPageEnt p e).rd g j c = s.rd g j c := by
  unfold State.setPageEnt State.tableWrite; dsimp only; split <;> rfl
@[simp] theorem State.setPageEnt_hrd (s : State) (p : Nat) (e : PageEnt) (w : Page) (g : FieldRef) : (s.setPageEnt p e).hrd w g = s.hrd w g := by
  unfold State.setPageEnt State.tableWrite; dsimp only; split <;> rfl
@[simp] theorem State.setPageEnt_flag (s : State) (p : Nat) (e : PageEnt) (g : BlockField) (j : Nat) : (s.setPageEnt p e).flag g j = s.flag g j := by
  unfold State.setPageEnt State.tableWrite; dsimp only; split <;> rfl
@[simp] theorem State.setPageEnt_enabled (s : State) (p : Nat) (e : PageEnt) (b : Block) (j : Nat) : (s.setPageEnt p e).enabled b j = s.enabled b j := by
  unfold State.setPageEnt State.tableWrite; dsimp only; split <;> rfl
@[simp] theorem State.setPageEnt_quiescing (s : State) (p : Nat) (e : PageEnt) (b : Block) (j : Nat) : (s.setPageEnt p e).quiescing b j = s.quiescing b j := by
  unfold State.setPageEnt State.tableWrite; dsimp only; split <;> rfl
@[simp] theorem State.setPageEnt_role (s : State) (p : Nat) (e : PageEnt) (j : Nat) : (s.setPageEnt p e).role j = s.role j := by
  unfold State.setPageEnt State.tableWrite; dsimp only; split <;> rfl

/-! ### State.setDir -/

@[simp] theorem State.setDir_pending (s : State) (l : Nat) (e : Option DirEntry) : (s.setDir l e).pending = s.pending := rfl
@[simp] theorem State.setDir_regs (s : State) (l : Nat) (e : Option DirEntry) : (s.setDir l e).regs = s.regs := rfl
@[simp] theorem State.setDir_qos (s : State) (l : Nat) (e : Option DirEntry) : (s.setDir l e).qos = s.qos := rfl
@[simp] theorem State.setDir_ports (s : State) (l : Nat) (e : Option DirEntry) : (s.setDir l e).ports = s.ports := rfl
@[simp] theorem State.setDir_map (s : State) (l : Nat) (e : Option DirEntry) : (s.setDir l e).map = s.map := rfl
@[simp] theorem State.setDir_pub (s : State) (l : Nat) (e : Option DirEntry) : (s.setDir l e).pub = s.pub := rfl
@[simp] theorem State.setDir_rc (s : State) (l : Nat) (e : Option DirEntry) : (s.setDir l e).rc = s.rc := rfl
@[simp] theorem State.setDir_pool (s : State) (l : Nat) (e : Option DirEntry) : (s.setDir l e).pool = s.pool := rfl
@[simp] theorem State.setDir_tier (s : State) (l : Nat) (e : Option DirEntry) : (s.setDir l e).tier = s.tier := rfl
@[simp] theorem State.setDir_procs (s : State) (l : Nat) (e : Option DirEntry) : (s.setDir l e).procs = s.procs := rfl
@[simp] theorem State.setDir_filt (s : State) (l : Nat) (e : Option DirEntry) : (s.setDir l e).filt = s.filt := rfl
@[simp] theorem State.setDir_coll (s : State) (l : Nat) (e : Option DirEntry) : (s.setDir l e).coll = s.coll := rfl
@[simp] theorem State.setDir_sec (s : State) (l : Nat) (e : Option DirEntry) : (s.setDir l e).sec = s.sec := rfl
@[simp] theorem State.setDir_live (s : State) (l : Nat) (e : Option DirEntry) : (s.setDir l e).live = s.live := rfl
@[simp] theorem State.setDir_power (s : State) (l : Nat) (e : Option DirEntry) : (s.setDir l e).power = s.power := rfl
@[simp] theorem State.setDir_pocket (s : State) (l : Nat) (e : Option DirEntry) : (s.setDir l e).pocket = s.pocket := rfl
@[simp] theorem State.setDir_fw (s : State) (l : Nat) (e : Option DirEntry) : (s.setDir l e).fw = s.fw := rfl
@[simp] theorem State.setDir_pmon (s : State) (l : Nat) (e : Option DirEntry) : (s.setDir l e).pmon = s.pmon := rfl
@[simp] theorem State.setDir_mgmt (s : State) (l : Nat) (e : Option DirEntry) : (s.setDir l e).mgmt = s.mgmt := rfl
@[simp] theorem State.setDir_closing (s : State) (l : Nat) (e : Option DirEntry) : (s.setDir l e).closing = s.closing := rfl
@[simp] theorem State.setDir_ts (s : State) (l : Nat) (e : Option DirEntry) : (s.setDir l e).ts = s.ts := rfl
@[simp] theorem State.setDir_free (s : State) (l : Nat) (e : Option DirEntry) : (s.setDir l e).free = s.free := rfl
@[simp] theorem State.setDir_out (s : State) (l : Nat) (e : Option DirEntry) : (s.setDir l e).out = s.out := rfl
@[simp] theorem State.setDir_reg (s : State) (l : Nat) (e : Option DirEntry) (b : Nat) : (s.setDir l e).reg b = s.reg b := rfl
@[simp] theorem State.setDir_rd (s : State) (l : Nat) (e : Option DirEntry) (g : BlockField) (j c : Nat) : (s.setDir l e).rd g j c = s.rd g j c := rfl
@[simp] theorem State.setDir_hrd (s : State) (l : Nat) (e : Option DirEntry) (w : Page) (g : FieldRef) : (s.setDir l e).hrd w g = s.hrd w g := rfl
@[simp] theorem State.setDir_flag (s : State) (l : Nat) (e : Option DirEntry) (g : BlockField) (j : Nat) : (s.setDir l e).flag g j = s.flag g j := rfl
@[simp] theorem State.setDir_enabled (s : State) (l : Nat) (e : Option DirEntry) (b : Block) (j : Nat) : (s.setDir l e).enabled b j = s.enabled b j := rfl
@[simp] theorem State.setDir_quiescing (s : State) (l : Nat) (e : Option DirEntry) (b : Block) (j : Nat) : (s.setDir l e).quiescing b j = s.quiescing b j := rfl
@[simp] theorem State.setDir_port (s : State) (l : Nat) (e : Option DirEntry) (j : Nat) : (s.setDir l e).port j = s.port j := rfl
@[simp] theorem State.setDir_role (s : State) (l : Nat) (e : Option DirEntry) (j : Nat) : (s.setDir l e).role j = s.role j := rfl
@[simp] theorem State.setDir_linked (s : State) (l : Nat) (e : Option DirEntry) (j : Nat) : (s.setDir l e).linked j = s.linked j := rfl

/-! ### State.modProc -/

@[simp] theorem State.modProc_pending (s : State) (x id : Nat) (f : Proc → Proc) : (s.modProc x id f).pending = s.pending := rfl
@[simp] theorem State.modProc_regs (s : State) (x id : Nat) (f : Proc → Proc) : (s.modProc x id f).regs = s.regs := rfl
@[simp] theorem State.modProc_qos (s : State) (x id : Nat) (f : Proc → Proc) : (s.modProc x id f).qos = s.qos := rfl
@[simp] theorem State.modProc_ports (s : State) (x id : Nat) (f : Proc → Proc) : (s.modProc x id f).ports = s.ports := rfl
@[simp] theorem State.modProc_map (s : State) (x id : Nat) (f : Proc → Proc) : (s.modProc x id f).map = s.map := rfl
@[simp] theorem State.modProc_home (s : State) (x id : Nat) (f : Proc → Proc) : (s.modProc x id f).home = s.home := rfl
@[simp] theorem State.modProc_pub (s : State) (x id : Nat) (f : Proc → Proc) : (s.modProc x id f).pub = s.pub := rfl
@[simp] theorem State.modProc_rc (s : State) (x id : Nat) (f : Proc → Proc) : (s.modProc x id f).rc = s.rc := rfl
@[simp] theorem State.modProc_pool (s : State) (x id : Nat) (f : Proc → Proc) : (s.modProc x id f).pool = s.pool := rfl
@[simp] theorem State.modProc_tier (s : State) (x id : Nat) (f : Proc → Proc) : (s.modProc x id f).tier = s.tier := rfl
@[simp] theorem State.modProc_filt (s : State) (x id : Nat) (f : Proc → Proc) : (s.modProc x id f).filt = s.filt := rfl
@[simp] theorem State.modProc_coll (s : State) (x id : Nat) (f : Proc → Proc) : (s.modProc x id f).coll = s.coll := rfl
@[simp] theorem State.modProc_sec (s : State) (x id : Nat) (f : Proc → Proc) : (s.modProc x id f).sec = s.sec := rfl
@[simp] theorem State.modProc_live (s : State) (x id : Nat) (f : Proc → Proc) : (s.modProc x id f).live = s.live := rfl
@[simp] theorem State.modProc_power (s : State) (x id : Nat) (f : Proc → Proc) : (s.modProc x id f).power = s.power := rfl
@[simp] theorem State.modProc_pocket (s : State) (x id : Nat) (f : Proc → Proc) : (s.modProc x id f).pocket = s.pocket := rfl
@[simp] theorem State.modProc_fw (s : State) (x id : Nat) (f : Proc → Proc) : (s.modProc x id f).fw = s.fw := rfl
@[simp] theorem State.modProc_pmon (s : State) (x id : Nat) (f : Proc → Proc) : (s.modProc x id f).pmon = s.pmon := rfl
@[simp] theorem State.modProc_mgmt (s : State) (x id : Nat) (f : Proc → Proc) : (s.modProc x id f).mgmt = s.mgmt := rfl
@[simp] theorem State.modProc_closing (s : State) (x id : Nat) (f : Proc → Proc) : (s.modProc x id f).closing = s.closing := rfl
@[simp] theorem State.modProc_ts (s : State) (x id : Nat) (f : Proc → Proc) : (s.modProc x id f).ts = s.ts := rfl
@[simp] theorem State.modProc_free (s : State) (x id : Nat) (f : Proc → Proc) : (s.modProc x id f).free = s.free := rfl
@[simp] theorem State.modProc_out (s : State) (x id : Nat) (f : Proc → Proc) : (s.modProc x id f).out = s.out := rfl
@[simp] theorem State.modProc_reg (s : State) (x id : Nat) (f : Proc → Proc) (b : Nat) : (s.modProc x id f).reg b = s.reg b := rfl
@[simp] theorem State.modProc_rd (s : State) (x id : Nat) (f : Proc → Proc) (g : BlockField) (j c : Nat) : (s.modProc x id f).rd g j c = s.rd g j c := rfl
@[simp] theorem State.modProc_hrd (s : State) (x id : Nat) (f : Proc → Proc) (w : Page) (g : FieldRef) : (s.modProc x id f).hrd w g = s.hrd w g := rfl
@[simp] theorem State.modProc_flag (s : State) (x id : Nat) (f : Proc → Proc) (g : BlockField) (j : Nat) : (s.modProc x id f).flag g j = s.flag g j := rfl
@[simp] theorem State.modProc_enabled (s : State) (x id : Nat) (f : Proc → Proc) (b : Block) (j : Nat) : (s.modProc x id f).enabled b j = s.enabled b j := rfl
@[simp] theorem State.modProc_quiescing (s : State) (x id : Nat) (f : Proc → Proc) (b : Block) (j : Nat) : (s.modProc x id f).quiescing b j = s.quiescing b j := rfl
@[simp] theorem State.modProc_port (s : State) (x id : Nat) (f : Proc → Proc) (j : Nat) : (s.modProc x id f).port j = s.port j := rfl
@[simp] theorem State.modProc_role (s : State) (x id : Nat) (f : Proc → Proc) (j : Nat) : (s.modProc x id f).role j = s.role j := rfl
@[simp] theorem State.modProc_linked (s : State) (x id : Nat) (f : Proc → Proc) (j : Nat) : (s.modProc x id f).linked j = s.linked j := rfl

/-! ### State.mapRepl -/

@[simp] theorem State.mapRepl_pending (s : State) (f : ReplSt → ReplSt) : (s.mapRepl f).pending = s.pending := rfl
@[simp] theorem State.mapRepl_regs (s : State) (f : ReplSt → ReplSt) : (s.mapRepl f).regs = s.regs := rfl
@[simp] theorem State.mapRepl_qos (s : State) (f : ReplSt → ReplSt) : (s.mapRepl f).qos = s.qos := rfl
@[simp] theorem State.mapRepl_ports (s : State) (f : ReplSt → ReplSt) : (s.mapRepl f).ports = s.ports := rfl
@[simp] theorem State.mapRepl_map (s : State) (f : ReplSt → ReplSt) : (s.mapRepl f).map = s.map := rfl
@[simp] theorem State.mapRepl_pub (s : State) (f : ReplSt → ReplSt) : (s.mapRepl f).pub = s.pub := rfl
@[simp] theorem State.mapRepl_rc (s : State) (f : ReplSt → ReplSt) : (s.mapRepl f).rc = s.rc := rfl
@[simp] theorem State.mapRepl_pool (s : State) (f : ReplSt → ReplSt) : (s.mapRepl f).pool = s.pool := rfl
@[simp] theorem State.mapRepl_tier (s : State) (f : ReplSt → ReplSt) : (s.mapRepl f).tier = s.tier := rfl
@[simp] theorem State.mapRepl_procs (s : State) (f : ReplSt → ReplSt) : (s.mapRepl f).procs = s.procs := rfl
@[simp] theorem State.mapRepl_filt (s : State) (f : ReplSt → ReplSt) : (s.mapRepl f).filt = s.filt := rfl
@[simp] theorem State.mapRepl_coll (s : State) (f : ReplSt → ReplSt) : (s.mapRepl f).coll = s.coll := rfl
@[simp] theorem State.mapRepl_sec (s : State) (f : ReplSt → ReplSt) : (s.mapRepl f).sec = s.sec := rfl
@[simp] theorem State.mapRepl_live (s : State) (f : ReplSt → ReplSt) : (s.mapRepl f).live = s.live := rfl
@[simp] theorem State.mapRepl_power (s : State) (f : ReplSt → ReplSt) : (s.mapRepl f).power = s.power := rfl
@[simp] theorem State.mapRepl_pocket (s : State) (f : ReplSt → ReplSt) : (s.mapRepl f).pocket = s.pocket := rfl
@[simp] theorem State.mapRepl_fw (s : State) (f : ReplSt → ReplSt) : (s.mapRepl f).fw = s.fw := rfl
@[simp] theorem State.mapRepl_pmon (s : State) (f : ReplSt → ReplSt) : (s.mapRepl f).pmon = s.pmon := rfl
@[simp] theorem State.mapRepl_mgmt (s : State) (f : ReplSt → ReplSt) : (s.mapRepl f).mgmt = s.mgmt := rfl
@[simp] theorem State.mapRepl_closing (s : State) (f : ReplSt → ReplSt) : (s.mapRepl f).closing = s.closing := rfl
@[simp] theorem State.mapRepl_ts (s : State) (f : ReplSt → ReplSt) : (s.mapRepl f).ts = s.ts := rfl
@[simp] theorem State.mapRepl_free (s : State) (f : ReplSt → ReplSt) : (s.mapRepl f).free = s.free := rfl
@[simp] theorem State.mapRepl_out (s : State) (f : ReplSt → ReplSt) : (s.mapRepl f).out = s.out := rfl
@[simp] theorem State.mapRepl_reg (s : State) (f : ReplSt → ReplSt) (b : Nat) : (s.mapRepl f).reg b = s.reg b := rfl
@[simp] theorem State.mapRepl_rd (s : State) (f : ReplSt → ReplSt) (g : BlockField) (j c : Nat) : (s.mapRepl f).rd g j c = s.rd g j c := rfl
@[simp] theorem State.mapRepl_hrd (s : State) (f : ReplSt → ReplSt) (w : Page) (g : FieldRef) : (s.mapRepl f).hrd w g = s.hrd w g := rfl
@[simp] theorem State.mapRepl_flag (s : State) (f : ReplSt → ReplSt) (g : BlockField) (j : Nat) : (s.mapRepl f).flag g j = s.flag g j := rfl
@[simp] theorem State.mapRepl_enabled (s : State) (f : ReplSt → ReplSt) (b : Block) (j : Nat) : (s.mapRepl f).enabled b j = s.enabled b j := rfl
@[simp] theorem State.mapRepl_quiescing (s : State) (f : ReplSt → ReplSt) (b : Block) (j : Nat) : (s.mapRepl f).quiescing b j = s.quiescing b j := rfl
@[simp] theorem State.mapRepl_port (s : State) (f : ReplSt → ReplSt) (j : Nat) : (s.mapRepl f).port j = s.port j := rfl
@[simp] theorem State.mapRepl_role (s : State) (f : ReplSt → ReplSt) (j : Nat) : (s.mapRepl f).role j = s.role j := rfl
@[simp] theorem State.mapRepl_linked (s : State) (f : ReplSt → ReplSt) (j : Nat) : (s.mapRepl f).linked j = s.linked j := rfl

/-! ### State.mapFilt -/

@[simp] theorem State.mapFilt_pending (s : State) (f : FiltSt → FiltSt) : (s.mapFilt f).pending = s.pending := rfl
@[simp] theorem State.mapFilt_regs (s : State) (f : FiltSt → FiltSt) : (s.mapFilt f).regs = s.regs := rfl
@[simp] theorem State.mapFilt_qos (s : State) (f : FiltSt → FiltSt) : (s.mapFilt f).qos = s.qos := rfl
@[simp] theorem State.mapFilt_ports (s : State) (f : FiltSt → FiltSt) : (s.mapFilt f).ports = s.ports := rfl
@[simp] theorem State.mapFilt_map (s : State) (f : FiltSt → FiltSt) : (s.mapFilt f).map = s.map := rfl
@[simp] theorem State.mapFilt_home (s : State) (f : FiltSt → FiltSt) : (s.mapFilt f).home = s.home := rfl
@[simp] theorem State.mapFilt_pub (s : State) (f : FiltSt → FiltSt) : (s.mapFilt f).pub = s.pub := rfl
@[simp] theorem State.mapFilt_rc (s : State) (f : FiltSt → FiltSt) : (s.mapFilt f).rc = s.rc := rfl
@[simp] theorem State.mapFilt_pool (s : State) (f : FiltSt → FiltSt) : (s.mapFilt f).pool = s.pool := rfl
@[simp] theorem State.mapFilt_tier (s : State) (f : FiltSt → FiltSt) : (s.mapFilt f).tier = s.tier := rfl
@[simp] theorem State.mapFilt_procs (s : State) (f : FiltSt → FiltSt) : (s.mapFilt f).procs = s.procs := rfl
@[simp] theorem State.mapFilt_filt (s : State) (f : FiltSt → FiltSt) : (s.mapFilt f).filt = f s.filt := rfl
@[simp] theorem State.mapFilt_coll (s : State) (f : FiltSt → FiltSt) : (s.mapFilt f).coll = s.coll := rfl
@[simp] theorem State.mapFilt_sec (s : State) (f : FiltSt → FiltSt) : (s.mapFilt f).sec = s.sec := rfl
@[simp] theorem State.mapFilt_live (s : State) (f : FiltSt → FiltSt) : (s.mapFilt f).live = s.live := rfl
@[simp] theorem State.mapFilt_power (s : State) (f : FiltSt → FiltSt) : (s.mapFilt f).power = s.power := rfl
@[simp] theorem State.mapFilt_pocket (s : State) (f : FiltSt → FiltSt) : (s.mapFilt f).pocket = s.pocket := rfl
@[simp] theorem State.mapFilt_fw (s : State) (f : FiltSt → FiltSt) : (s.mapFilt f).fw = s.fw := rfl
@[simp] theorem State.mapFilt_pmon (s : State) (f : FiltSt → FiltSt) : (s.mapFilt f).pmon = s.pmon := rfl
@[simp] theorem State.mapFilt_mgmt (s : State) (f : FiltSt → FiltSt) : (s.mapFilt f).mgmt = s.mgmt := rfl
@[simp] theorem State.mapFilt_closing (s : State) (f : FiltSt → FiltSt) : (s.mapFilt f).closing = s.closing := rfl
@[simp] theorem State.mapFilt_ts (s : State) (f : FiltSt → FiltSt) : (s.mapFilt f).ts = s.ts := rfl
@[simp] theorem State.mapFilt_free (s : State) (f : FiltSt → FiltSt) : (s.mapFilt f).free = s.free := rfl
@[simp] theorem State.mapFilt_out (s : State) (f : FiltSt → FiltSt) : (s.mapFilt f).out = s.out := rfl
@[simp] theorem State.mapFilt_reg (s : State) (f : FiltSt → FiltSt) (b : Nat) : (s.mapFilt f).reg b = s.reg b := rfl
@[simp] theorem State.mapFilt_rd (s : State) (f : FiltSt → FiltSt) (g : BlockField) (j c : Nat) : (s.mapFilt f).rd g j c = s.rd g j c := rfl
@[simp] theorem State.mapFilt_hrd (s : State) (f : FiltSt → FiltSt) (w : Page) (g : FieldRef) : (s.mapFilt f).hrd w g = s.hrd w g := rfl
@[simp] theorem State.mapFilt_flag (s : State) (f : FiltSt → FiltSt) (g : BlockField) (j : Nat) : (s.mapFilt f).flag g j = s.flag g j := rfl
@[simp] theorem State.mapFilt_enabled (s : State) (f : FiltSt → FiltSt) (b : Block) (j : Nat) : (s.mapFilt f).enabled b j = s.enabled b j := rfl
@[simp] theorem State.mapFilt_quiescing (s : State) (f : FiltSt → FiltSt) (b : Block) (j : Nat) : (s.mapFilt f).quiescing b j = s.quiescing b j := rfl
@[simp] theorem State.mapFilt_port (s : State) (f : FiltSt → FiltSt) (j : Nat) : (s.mapFilt f).port j = s.port j := rfl
@[simp] theorem State.mapFilt_role (s : State) (f : FiltSt → FiltSt) (j : Nat) : (s.mapFilt f).role j = s.role j := rfl
@[simp] theorem State.mapFilt_linked (s : State) (f : FiltSt → FiltSt) (j : Nat) : (s.mapFilt f).linked j = s.linked j := rfl

/-! ### State.mapFw -/

@[simp] theorem State.mapFw_pending (s : State) (f : FwSt → FwSt) : (s.mapFw f).pending = s.pending := rfl
@[simp] theorem State.mapFw_regs (s : State) (f : FwSt → FwSt) : (s.mapFw f).regs = s.regs := rfl
@[simp] theorem State.mapFw_qos (s : State) (f : FwSt → FwSt) : (s.mapFw f).qos = s.qos := rfl
@[simp] theorem State.mapFw_ports (s : State) (f : FwSt → FwSt) : (s.mapFw f).ports = s.ports := rfl
@[simp] theorem State.mapFw_map (s : State) (f : FwSt → FwSt) : (s.mapFw f).map = s.map := rfl
@[simp] theorem State.mapFw_home (s : State) (f : FwSt → FwSt) : (s.mapFw f).home = s.home := rfl
@[simp] theorem State.mapFw_pub (s : State) (f : FwSt → FwSt) : (s.mapFw f).pub = s.pub := rfl
@[simp] theorem State.mapFw_rc (s : State) (f : FwSt → FwSt) : (s.mapFw f).rc = s.rc := rfl
@[simp] theorem State.mapFw_pool (s : State) (f : FwSt → FwSt) : (s.mapFw f).pool = s.pool := rfl
@[simp] theorem State.mapFw_tier (s : State) (f : FwSt → FwSt) : (s.mapFw f).tier = s.tier := rfl
@[simp] theorem State.mapFw_procs (s : State) (f : FwSt → FwSt) : (s.mapFw f).procs = s.procs := rfl
@[simp] theorem State.mapFw_filt (s : State) (f : FwSt → FwSt) : (s.mapFw f).filt = s.filt := rfl
@[simp] theorem State.mapFw_coll (s : State) (f : FwSt → FwSt) : (s.mapFw f).coll = s.coll := rfl
@[simp] theorem State.mapFw_sec (s : State) (f : FwSt → FwSt) : (s.mapFw f).sec = s.sec := rfl
@[simp] theorem State.mapFw_live (s : State) (f : FwSt → FwSt) : (s.mapFw f).live = s.live := rfl
@[simp] theorem State.mapFw_power (s : State) (f : FwSt → FwSt) : (s.mapFw f).power = s.power := rfl
@[simp] theorem State.mapFw_pocket (s : State) (f : FwSt → FwSt) : (s.mapFw f).pocket = s.pocket := rfl
@[simp] theorem State.mapFw_fw (s : State) (f : FwSt → FwSt) : (s.mapFw f).fw = f s.fw := rfl
@[simp] theorem State.mapFw_pmon (s : State) (f : FwSt → FwSt) : (s.mapFw f).pmon = s.pmon := rfl
@[simp] theorem State.mapFw_mgmt (s : State) (f : FwSt → FwSt) : (s.mapFw f).mgmt = s.mgmt := rfl
@[simp] theorem State.mapFw_closing (s : State) (f : FwSt → FwSt) : (s.mapFw f).closing = s.closing := rfl
@[simp] theorem State.mapFw_ts (s : State) (f : FwSt → FwSt) : (s.mapFw f).ts = s.ts := rfl
@[simp] theorem State.mapFw_free (s : State) (f : FwSt → FwSt) : (s.mapFw f).free = s.free := rfl
@[simp] theorem State.mapFw_out (s : State) (f : FwSt → FwSt) : (s.mapFw f).out = s.out := rfl
@[simp] theorem State.mapFw_reg (s : State) (f : FwSt → FwSt) (b : Nat) : (s.mapFw f).reg b = s.reg b := rfl
@[simp] theorem State.mapFw_rd (s : State) (f : FwSt → FwSt) (g : BlockField) (j c : Nat) : (s.mapFw f).rd g j c = s.rd g j c := rfl
@[simp] theorem State.mapFw_hrd (s : State) (f : FwSt → FwSt) (w : Page) (g : FieldRef) : (s.mapFw f).hrd w g = s.hrd w g := rfl
@[simp] theorem State.mapFw_flag (s : State) (f : FwSt → FwSt) (g : BlockField) (j : Nat) : (s.mapFw f).flag g j = s.flag g j := rfl
@[simp] theorem State.mapFw_enabled (s : State) (f : FwSt → FwSt) (b : Block) (j : Nat) : (s.mapFw f).enabled b j = s.enabled b j := rfl
@[simp] theorem State.mapFw_quiescing (s : State) (f : FwSt → FwSt) (b : Block) (j : Nat) : (s.mapFw f).quiescing b j = s.quiescing b j := rfl
@[simp] theorem State.mapFw_port (s : State) (f : FwSt → FwSt) (j : Nat) : (s.mapFw f).port j = s.port j := rfl
@[simp] theorem State.mapFw_role (s : State) (f : FwSt → FwSt) (j : Nat) : (s.mapFw f).role j = s.role j := rfl
@[simp] theorem State.mapFw_linked (s : State) (f : FwSt → FwSt) (j : Nat) : (s.mapFw f).linked j = s.linked j := rfl

/-! ### State.mapLive -/

@[simp] theorem State.mapLive_pending (s : State) (f : LiveSt → LiveSt) : (s.mapLive f).pending = s.pending := rfl
@[simp] theorem State.mapLive_regs (s : State) (f : LiveSt → LiveSt) : (s.mapLive f).regs = s.regs := rfl
@[simp] theorem State.mapLive_qos (s : State) (f : LiveSt → LiveSt) : (s.mapLive f).qos = s.qos := rfl
@[simp] theorem State.mapLive_ports (s : State) (f : LiveSt → LiveSt) : (s.mapLive f).ports = s.ports := rfl
@[simp] theorem State.mapLive_map (s : State) (f : LiveSt → LiveSt) : (s.mapLive f).map = s.map := rfl
@[simp] theorem State.mapLive_home (s : State) (f : LiveSt → LiveSt) : (s.mapLive f).home = s.home := rfl
@[simp] theorem State.mapLive_pub (s : State) (f : LiveSt → LiveSt) : (s.mapLive f).pub = s.pub := rfl
@[simp] theorem State.mapLive_rc (s : State) (f : LiveSt → LiveSt) : (s.mapLive f).rc = s.rc := rfl
@[simp] theorem State.mapLive_pool (s : State) (f : LiveSt → LiveSt) : (s.mapLive f).pool = s.pool := rfl
@[simp] theorem State.mapLive_tier (s : State) (f : LiveSt → LiveSt) : (s.mapLive f).tier = s.tier := rfl
@[simp] theorem State.mapLive_procs (s : State) (f : LiveSt → LiveSt) : (s.mapLive f).procs = s.procs := rfl
@[simp] theorem State.mapLive_filt (s : State) (f : LiveSt → LiveSt) : (s.mapLive f).filt = s.filt := rfl
@[simp] theorem State.mapLive_coll (s : State) (f : LiveSt → LiveSt) : (s.mapLive f).coll = s.coll := rfl
@[simp] theorem State.mapLive_sec (s : State) (f : LiveSt → LiveSt) : (s.mapLive f).sec = s.sec := rfl
@[simp] theorem State.mapLive_live (s : State) (f : LiveSt → LiveSt) : (s.mapLive f).live = f s.live := rfl
@[simp] theorem State.mapLive_power (s : State) (f : LiveSt → LiveSt) : (s.mapLive f).power = s.power := rfl
@[simp] theorem State.mapLive_pocket (s : State) (f : LiveSt → LiveSt) : (s.mapLive f).pocket = s.pocket := rfl
@[simp] theorem State.mapLive_fw (s : State) (f : LiveSt → LiveSt) : (s.mapLive f).fw = s.fw := rfl
@[simp] theorem State.mapLive_pmon (s : State) (f : LiveSt → LiveSt) : (s.mapLive f).pmon = s.pmon := rfl
@[simp] theorem State.mapLive_mgmt (s : State) (f : LiveSt → LiveSt) : (s.mapLive f).mgmt = s.mgmt := rfl
@[simp] theorem State.mapLive_closing (s : State) (f : LiveSt → LiveSt) : (s.mapLive f).closing = s.closing := rfl
@[simp] theorem State.mapLive_ts (s : State) (f : LiveSt → LiveSt) : (s.mapLive f).ts = s.ts := rfl
@[simp] theorem State.mapLive_free (s : State) (f : LiveSt → LiveSt) : (s.mapLive f).free = s.free := rfl
@[simp] theorem State.mapLive_out (s : State) (f : LiveSt → LiveSt) : (s.mapLive f).out = s.out := rfl
@[simp] theorem State.mapLive_reg (s : State) (f : LiveSt → LiveSt) (b : Nat) : (s.mapLive f).reg b = s.reg b := rfl
@[simp] theorem State.mapLive_rd (s : State) (f : LiveSt → LiveSt) (g : BlockField) (j c : Nat) : (s.mapLive f).rd g j c = s.rd g j c := rfl
@[simp] theorem State.mapLive_hrd (s : State) (f : LiveSt → LiveSt) (w : Page) (g : FieldRef) : (s.mapLive f).hrd w g = s.hrd w g := rfl
@[simp] theorem State.mapLive_flag (s : State) (f : LiveSt → LiveSt) (g : BlockField) (j : Nat) : (s.mapLive f).flag g j = s.flag g j := rfl
@[simp] theorem State.mapLive_enabled (s : State) (f : LiveSt → LiveSt) (b : Block) (j : Nat) : (s.mapLive f).enabled b j = s.enabled b j := rfl
@[simp] theorem State.mapLive_quiescing (s : State) (f : LiveSt → LiveSt) (b : Block) (j : Nat) : (s.mapLive f).quiescing b j = s.quiescing b j := rfl
@[simp] theorem State.mapLive_port (s : State) (f : LiveSt → LiveSt) (j : Nat) : (s.mapLive f).port j = s.port j := rfl
@[simp] theorem State.mapLive_role (s : State) (f : LiveSt → LiveSt) (j : Nat) : (s.mapLive f).role j = s.role j := rfl
@[simp] theorem State.mapLive_linked (s : State) (f : LiveSt → LiveSt) (j : Nat) : (s.mapLive f).linked j = s.linked j := rfl

/-! ### State.mapPmon -/

@[simp] theorem State.mapPmon_pending (s : State) (f : PmonSt → PmonSt) : (s.mapPmon f).pending = s.pending := rfl
@[simp] theorem State.mapPmon_regs (s : State) (f : PmonSt → PmonSt) : (s.mapPmon f).regs = s.regs := rfl
@[simp] theorem State.mapPmon_qos (s : State) (f : PmonSt → PmonSt) : (s.mapPmon f).qos = s.qos := rfl
@[simp] theorem State.mapPmon_ports (s : State) (f : PmonSt → PmonSt) : (s.mapPmon f).ports = s.ports := rfl
@[simp] theorem State.mapPmon_map (s : State) (f : PmonSt → PmonSt) : (s.mapPmon f).map = s.map := rfl
@[simp] theorem State.mapPmon_home (s : State) (f : PmonSt → PmonSt) : (s.mapPmon f).home = s.home := rfl
@[simp] theorem State.mapPmon_pub (s : State) (f : PmonSt → PmonSt) : (s.mapPmon f).pub = s.pub := rfl
@[simp] theorem State.mapPmon_rc (s : State) (f : PmonSt → PmonSt) : (s.mapPmon f).rc = s.rc := rfl
@[simp] theorem State.mapPmon_pool (s : State) (f : PmonSt → PmonSt) : (s.mapPmon f).pool = s.pool := rfl
@[simp] theorem State.mapPmon_tier (s : State) (f : PmonSt → PmonSt) : (s.mapPmon f).tier = s.tier := rfl
@[simp] theorem State.mapPmon_procs (s : State) (f : PmonSt → PmonSt) : (s.mapPmon f).procs = s.procs := rfl
@[simp] theorem State.mapPmon_filt (s : State) (f : PmonSt → PmonSt) : (s.mapPmon f).filt = s.filt := rfl
@[simp] theorem State.mapPmon_coll (s : State) (f : PmonSt → PmonSt) : (s.mapPmon f).coll = s.coll := rfl
@[simp] theorem State.mapPmon_sec (s : State) (f : PmonSt → PmonSt) : (s.mapPmon f).sec = s.sec := rfl
@[simp] theorem State.mapPmon_live (s : State) (f : PmonSt → PmonSt) : (s.mapPmon f).live = s.live := rfl
@[simp] theorem State.mapPmon_power (s : State) (f : PmonSt → PmonSt) : (s.mapPmon f).power = s.power := rfl
@[simp] theorem State.mapPmon_pocket (s : State) (f : PmonSt → PmonSt) : (s.mapPmon f).pocket = s.pocket := rfl
@[simp] theorem State.mapPmon_fw (s : State) (f : PmonSt → PmonSt) : (s.mapPmon f).fw = s.fw := rfl
@[simp] theorem State.mapPmon_pmon (s : State) (f : PmonSt → PmonSt) : (s.mapPmon f).pmon = f s.pmon := rfl
@[simp] theorem State.mapPmon_mgmt (s : State) (f : PmonSt → PmonSt) : (s.mapPmon f).mgmt = s.mgmt := rfl
@[simp] theorem State.mapPmon_closing (s : State) (f : PmonSt → PmonSt) : (s.mapPmon f).closing = s.closing := rfl
@[simp] theorem State.mapPmon_ts (s : State) (f : PmonSt → PmonSt) : (s.mapPmon f).ts = s.ts := rfl
@[simp] theorem State.mapPmon_free (s : State) (f : PmonSt → PmonSt) : (s.mapPmon f).free = s.free := rfl
@[simp] theorem State.mapPmon_out (s : State) (f : PmonSt → PmonSt) : (s.mapPmon f).out = s.out := rfl
@[simp] theorem State.mapPmon_reg (s : State) (f : PmonSt → PmonSt) (b : Nat) : (s.mapPmon f).reg b = s.reg b := rfl
@[simp] theorem State.mapPmon_rd (s : State) (f : PmonSt → PmonSt) (g : BlockField) (j c : Nat) : (s.mapPmon f).rd g j c = s.rd g j c := rfl
@[simp] theorem State.mapPmon_hrd (s : State) (f : PmonSt → PmonSt) (w : Page) (g : FieldRef) : (s.mapPmon f).hrd w g = s.hrd w g := rfl
@[simp] theorem State.mapPmon_flag (s : State) (f : PmonSt → PmonSt) (g : BlockField) (j : Nat) : (s.mapPmon f).flag g j = s.flag g j := rfl
@[simp] theorem State.mapPmon_enabled (s : State) (f : PmonSt → PmonSt) (b : Block) (j : Nat) : (s.mapPmon f).enabled b j = s.enabled b j := rfl
@[simp] theorem State.mapPmon_quiescing (s : State) (f : PmonSt → PmonSt) (b : Block) (j : Nat) : (s.mapPmon f).quiescing b j = s.quiescing b j := rfl
@[simp] theorem State.mapPmon_port (s : State) (f : PmonSt → PmonSt) (j : Nat) : (s.mapPmon f).port j = s.port j := rfl
@[simp] theorem State.mapPmon_role (s : State) (f : PmonSt → PmonSt) (j : Nat) : (s.mapPmon f).role j = s.role j := rfl
@[simp] theorem State.mapPmon_linked (s : State) (f : PmonSt → PmonSt) (j : Nat) : (s.mapPmon f).linked j = s.linked j := rfl

/-! ### State.mapPocket -/

@[simp] theorem State.mapPocket_pending (s : State) (f : PocketSt → PocketSt) : (s.mapPocket f).pending = s.pending := rfl
@[simp] theorem State.mapPocket_regs (s : State) (f : PocketSt → PocketSt) : (s.mapPocket f).regs = s.regs := rfl
@[simp] theorem State.mapPocket_qos (s : State) (f : PocketSt → PocketSt) : (s.mapPocket f).qos = s.qos := rfl
@[simp] theorem State.mapPocket_ports (s : State) (f : PocketSt → PocketSt) : (s.mapPocket f).ports = s.ports := rfl
@[simp] theorem State.mapPocket_map (s : State) (f : PocketSt → PocketSt) : (s.mapPocket f).map = s.map := rfl
@[simp] theorem State.mapPocket_home (s : State) (f : PocketSt → PocketSt) : (s.mapPocket f).home = s.home := rfl
@[simp] theorem State.mapPocket_pub (s : State) (f : PocketSt → PocketSt) : (s.mapPocket f).pub = s.pub := rfl
@[simp] theorem State.mapPocket_rc (s : State) (f : PocketSt → PocketSt) : (s.mapPocket f).rc = s.rc := rfl
@[simp] theorem State.mapPocket_pool (s : State) (f : PocketSt → PocketSt) : (s.mapPocket f).pool = s.pool := rfl
@[simp] theorem State.mapPocket_tier (s : State) (f : PocketSt → PocketSt) : (s.mapPocket f).tier = s.tier := rfl
@[simp] theorem State.mapPocket_procs (s : State) (f : PocketSt → PocketSt) : (s.mapPocket f).procs = s.procs := rfl
@[simp] theorem State.mapPocket_filt (s : State) (f : PocketSt → PocketSt) : (s.mapPocket f).filt = s.filt := rfl
@[simp] theorem State.mapPocket_coll (s : State) (f : PocketSt → PocketSt) : (s.mapPocket f).coll = s.coll := rfl
@[simp] theorem State.mapPocket_sec (s : State) (f : PocketSt → PocketSt) : (s.mapPocket f).sec = s.sec := rfl
@[simp] theorem State.mapPocket_live (s : State) (f : PocketSt → PocketSt) : (s.mapPocket f).live = s.live := rfl
@[simp] theorem State.mapPocket_power (s : State) (f : PocketSt → PocketSt) : (s.mapPocket f).power = s.power := rfl
@[simp] theorem State.mapPocket_pocket (s : State) (f : PocketSt → PocketSt) : (s.mapPocket f).pocket = f s.pocket := rfl
@[simp] theorem State.mapPocket_fw (s : State) (f : PocketSt → PocketSt) : (s.mapPocket f).fw = s.fw := rfl
@[simp] theorem State.mapPocket_pmon (s : State) (f : PocketSt → PocketSt) : (s.mapPocket f).pmon = s.pmon := rfl
@[simp] theorem State.mapPocket_mgmt (s : State) (f : PocketSt → PocketSt) : (s.mapPocket f).mgmt = s.mgmt := rfl
@[simp] theorem State.mapPocket_closing (s : State) (f : PocketSt → PocketSt) : (s.mapPocket f).closing = s.closing := rfl
@[simp] theorem State.mapPocket_ts (s : State) (f : PocketSt → PocketSt) : (s.mapPocket f).ts = s.ts := rfl
@[simp] theorem State.mapPocket_free (s : State) (f : PocketSt → PocketSt) : (s.mapPocket f).free = s.free := rfl
@[simp] theorem State.mapPocket_out (s : State) (f : PocketSt → PocketSt) : (s.mapPocket f).out = s.out := rfl
@[simp] theorem State.mapPocket_reg (s : State) (f : PocketSt → PocketSt) (b : Nat) : (s.mapPocket f).reg b = s.reg b := rfl
@[simp] theorem State.mapPocket_rd (s : State) (f : PocketSt → PocketSt) (g : BlockField) (j c : Nat) : (s.mapPocket f).rd g j c = s.rd g j c := rfl
@[simp] theorem State.mapPocket_hrd (s : State) (f : PocketSt → PocketSt) (w : Page) (g : FieldRef) : (s.mapPocket f).hrd w g = s.hrd w g := rfl
@[simp] theorem State.mapPocket_flag (s : State) (f : PocketSt → PocketSt) (g : BlockField) (j : Nat) : (s.mapPocket f).flag g j = s.flag g j := rfl
@[simp] theorem State.mapPocket_enabled (s : State) (f : PocketSt → PocketSt) (b : Block) (j : Nat) : (s.mapPocket f).enabled b j = s.enabled b j := rfl
@[simp] theorem State.mapPocket_quiescing (s : State) (f : PocketSt → PocketSt) (b : Block) (j : Nat) : (s.mapPocket f).quiescing b j = s.quiescing b j := rfl
@[simp] theorem State.mapPocket_port (s : State) (f : PocketSt → PocketSt) (j : Nat) : (s.mapPocket f).port j = s.port j := rfl
@[simp] theorem State.mapPocket_role (s : State) (f : PocketSt → PocketSt) (j : Nat) : (s.mapPocket f).role j = s.role j := rfl
@[simp] theorem State.mapPocket_linked (s : State) (f : PocketSt → PocketSt) (j : Nat) : (s.mapPocket f).linked j = s.linked j := rfl

/-! ### State.mapPower -/

@[simp] theorem State.mapPower_pending (s : State) (f : PowerSt → PowerSt) : (s.mapPower f).pending = s.pending := rfl
@[simp] theorem State.mapPower_regs (s : State) (f : PowerSt → PowerSt) : (s.mapPower f).regs = s.regs := rfl
@[simp] theorem State.mapPower_qos (s : State) (f : PowerSt → PowerSt) : (s.mapPower f).qos = s.qos := rfl
@[simp] theorem State.mapPower_ports (s : State) (f : PowerSt → PowerSt) : (s.mapPower f).ports = s.ports := rfl
@[simp] theorem State.mapPower_map (s : State) (f : PowerSt → PowerSt) : (s.mapPower f).map = s.map := rfl
@[simp] theorem State.mapPower_home (s : State) (f : PowerSt → PowerSt) : (s.mapPower f).home = s.home := rfl
@[simp] theorem State.mapPower_pub (s : State) (f : PowerSt → PowerSt) : (s.mapPower f).pub = s.pub := rfl
@[simp] theorem State.mapPower_rc (s : State) (f : PowerSt → PowerSt) : (s.mapPower f).rc = s.rc := rfl
@[simp] theorem State.mapPower_pool (s : State) (f : PowerSt → PowerSt) : (s.mapPower f).pool = s.pool := rfl
@[simp] theorem State.mapPower_tier (s : State) (f : PowerSt → PowerSt) : (s.mapPower f).tier = s.tier := rfl
@[simp] theorem State.mapPower_procs (s : State) (f : PowerSt → PowerSt) : (s.mapPower f).procs = s.procs := rfl
@[simp] theorem State.mapPower_filt (s : State) (f : PowerSt → PowerSt) : (s.mapPower f).filt = s.filt := rfl
@[simp] theorem State.mapPower_coll (s : State) (f : PowerSt → PowerSt) : (s.mapPower f).coll = s.coll := rfl
@[simp] theorem State.mapPower_sec (s : State) (f : PowerSt → PowerSt) : (s.mapPower f).sec = s.sec := rfl
@[simp] theorem State.mapPower_live (s : State) (f : PowerSt → PowerSt) : (s.mapPower f).live = s.live := rfl
@[simp] theorem State.mapPower_power (s : State) (f : PowerSt → PowerSt) : (s.mapPower f).power = f s.power := rfl
@[simp] theorem State.mapPower_pocket (s : State) (f : PowerSt → PowerSt) : (s.mapPower f).pocket = s.pocket := rfl
@[simp] theorem State.mapPower_fw (s : State) (f : PowerSt → PowerSt) : (s.mapPower f).fw = s.fw := rfl
@[simp] theorem State.mapPower_pmon (s : State) (f : PowerSt → PowerSt) : (s.mapPower f).pmon = s.pmon := rfl
@[simp] theorem State.mapPower_mgmt (s : State) (f : PowerSt → PowerSt) : (s.mapPower f).mgmt = s.mgmt := rfl
@[simp] theorem State.mapPower_closing (s : State) (f : PowerSt → PowerSt) : (s.mapPower f).closing = s.closing := rfl
@[simp] theorem State.mapPower_ts (s : State) (f : PowerSt → PowerSt) : (s.mapPower f).ts = s.ts := rfl
@[simp] theorem State.mapPower_free (s : State) (f : PowerSt → PowerSt) : (s.mapPower f).free = s.free := rfl
@[simp] theorem State.mapPower_out (s : State) (f : PowerSt → PowerSt) : (s.mapPower f).out = s.out := rfl
@[simp] theorem State.mapPower_reg (s : State) (f : PowerSt → PowerSt) (b : Nat) : (s.mapPower f).reg b = s.reg b := rfl
@[simp] theorem State.mapPower_rd (s : State) (f : PowerSt → PowerSt) (g : BlockField) (j c : Nat) : (s.mapPower f).rd g j c = s.rd g j c := rfl
@[simp] theorem State.mapPower_hrd (s : State) (f : PowerSt → PowerSt) (w : Page) (g : FieldRef) : (s.mapPower f).hrd w g = s.hrd w g := rfl
@[simp] theorem State.mapPower_flag (s : State) (f : PowerSt → PowerSt) (g : BlockField) (j : Nat) : (s.mapPower f).flag g j = s.flag g j := rfl
@[simp] theorem State.mapPower_enabled (s : State) (f : PowerSt → PowerSt) (b : Block) (j : Nat) : (s.mapPower f).enabled b j = s.enabled b j := rfl
@[simp] theorem State.mapPower_quiescing (s : State) (f : PowerSt → PowerSt) (b : Block) (j : Nat) : (s.mapPower f).quiescing b j = s.quiescing b j := rfl
@[simp] theorem State.mapPower_port (s : State) (f : PowerSt → PowerSt) (j : Nat) : (s.mapPower f).port j = s.port j := rfl
@[simp] theorem State.mapPower_role (s : State) (f : PowerSt → PowerSt) (j : Nat) : (s.mapPower f).role j = s.role j := rfl
@[simp] theorem State.mapPower_linked (s : State) (f : PowerSt → PowerSt) (j : Nat) : (s.mapPower f).linked j = s.linked j := rfl

/-! ### State.mapMgmt -/

@[simp] theorem State.mapMgmt_pending (s : State) (f : MgmtSt → MgmtSt) : (s.mapMgmt f).pending = s.pending := rfl
@[simp] theorem State.mapMgmt_regs (s : State) (f : MgmtSt → MgmtSt) : (s.mapMgmt f).regs = s.regs := rfl
@[simp] theorem State.mapMgmt_qos (s : State) (f : MgmtSt → MgmtSt) : (s.mapMgmt f).qos = s.qos := rfl
@[simp] theorem State.mapMgmt_ports (s : State) (f : MgmtSt → MgmtSt) : (s.mapMgmt f).ports = s.ports := rfl
@[simp] theorem State.mapMgmt_map (s : State) (f : MgmtSt → MgmtSt) : (s.mapMgmt f).map = s.map := rfl
@[simp] theorem State.mapMgmt_home (s : State) (f : MgmtSt → MgmtSt) : (s.mapMgmt f).home = s.home := rfl
@[simp] theorem State.mapMgmt_pub (s : State) (f : MgmtSt → MgmtSt) : (s.mapMgmt f).pub = s.pub := rfl
@[simp] theorem State.mapMgmt_rc (s : State) (f : MgmtSt → MgmtSt) : (s.mapMgmt f).rc = s.rc := rfl
@[simp] theorem State.mapMgmt_pool (s : State) (f : MgmtSt → MgmtSt) : (s.mapMgmt f).pool = s.pool := rfl
@[simp] theorem State.mapMgmt_tier (s : State) (f : MgmtSt → MgmtSt) : (s.mapMgmt f).tier = s.tier := rfl
@[simp] theorem State.mapMgmt_procs (s : State) (f : MgmtSt → MgmtSt) : (s.mapMgmt f).procs = s.procs := rfl
@[simp] theorem State.mapMgmt_filt (s : State) (f : MgmtSt → MgmtSt) : (s.mapMgmt f).filt = s.filt := rfl
@[simp] theorem State.mapMgmt_coll (s : State) (f : MgmtSt → MgmtSt) : (s.mapMgmt f).coll = s.coll := rfl
@[simp] theorem State.mapMgmt_sec (s : State) (f : MgmtSt → MgmtSt) : (s.mapMgmt f).sec = s.sec := rfl
@[simp] theorem State.mapMgmt_live (s : State) (f : MgmtSt → MgmtSt) : (s.mapMgmt f).live = s.live := rfl
@[simp] theorem State.mapMgmt_power (s : State) (f : MgmtSt → MgmtSt) : (s.mapMgmt f).power = s.power := rfl
@[simp] theorem State.mapMgmt_pocket (s : State) (f : MgmtSt → MgmtSt) : (s.mapMgmt f).pocket = s.pocket := rfl
@[simp] theorem State.mapMgmt_fw (s : State) (f : MgmtSt → MgmtSt) : (s.mapMgmt f).fw = s.fw := rfl
@[simp] theorem State.mapMgmt_pmon (s : State) (f : MgmtSt → MgmtSt) : (s.mapMgmt f).pmon = s.pmon := rfl
@[simp] theorem State.mapMgmt_mgmt (s : State) (f : MgmtSt → MgmtSt) : (s.mapMgmt f).mgmt = f s.mgmt := rfl
@[simp] theorem State.mapMgmt_closing (s : State) (f : MgmtSt → MgmtSt) : (s.mapMgmt f).closing = s.closing := rfl
@[simp] theorem State.mapMgmt_ts (s : State) (f : MgmtSt → MgmtSt) : (s.mapMgmt f).ts = s.ts := rfl
@[simp] theorem State.mapMgmt_free (s : State) (f : MgmtSt → MgmtSt) : (s.mapMgmt f).free = s.free := rfl
@[simp] theorem State.mapMgmt_out (s : State) (f : MgmtSt → MgmtSt) : (s.mapMgmt f).out = s.out := rfl
@[simp] theorem State.mapMgmt_reg (s : State) (f : MgmtSt → MgmtSt) (b : Nat) : (s.mapMgmt f).reg b = s.reg b := rfl
@[simp] theorem State.mapMgmt_rd (s : State) (f : MgmtSt → MgmtSt) (g : BlockField) (j c : Nat) : (s.mapMgmt f).rd g j c = s.rd g j c := rfl
@[simp] theorem State.mapMgmt_hrd (s : State) (f : MgmtSt → MgmtSt) (w : Page) (g : FieldRef) : (s.mapMgmt f).hrd w g = s.hrd w g := rfl
@[simp] theorem State.mapMgmt_flag (s : State) (f : MgmtSt → MgmtSt) (g : BlockField) (j : Nat) : (s.mapMgmt f).flag g j = s.flag g j := rfl
@[simp] theorem State.mapMgmt_enabled (s : State) (f : MgmtSt → MgmtSt) (b : Block) (j : Nat) : (s.mapMgmt f).enabled b j = s.enabled b j := rfl
@[simp] theorem State.mapMgmt_quiescing (s : State) (f : MgmtSt → MgmtSt) (b : Block) (j : Nat) : (s.mapMgmt f).quiescing b j = s.quiescing b j := rfl
@[simp] theorem State.mapMgmt_port (s : State) (f : MgmtSt → MgmtSt) (j : Nat) : (s.mapMgmt f).port j = s.port j := rfl
@[simp] theorem State.mapMgmt_role (s : State) (f : MgmtSt → MgmtSt) (j : Nat) : (s.mapMgmt f).role j = s.role j := rfl
@[simp] theorem State.mapMgmt_linked (s : State) (f : MgmtSt → MgmtSt) (j : Nat) : (s.mapMgmt f).linked j = s.linked j := rfl

end Sys2Proof.Machine
end

