-- ==== Sys2Proof/Laws/Finish.lean ====
section
/-! SUPPORT. Laws of State.finish and of exec: every command ends in State.finish of its own effect; where nothing waits,
finish adds nothing to that effect. -/

namespace Sys2Proof.Machine

/-! ### Finish -/

@[simp] theorem State.finish_pending (s t : State) : (s.finish t).pending = s.pending := rfl

theorem State.finish_memOk (s t : State) : (s.finish t).MemOk := ⟨Memory.wf_canon _, Memory.wf_canon _⟩

theorem State.tidy_of_memOk (s : State) (h : s.MemOk) : s.tidy = s := by
  unfold State.tidy
  rw [Memory.canon_of_wf _ h.1, Memory.canon_of_wf _ h.2]

theorem Tbl.mem_of_get? {α : Type} (t : Tbl α) (x : Nat) (v : α) (h : Tbl.get? t x = some v) : (x, v) ∈ t := by
  induction t with
  | nil => simp at h
  | cons e t ih =>
    obtain ⟨k, w⟩ := e
    simp only [Tbl.get?] at h
    split at h
    · cases h; subst_vars; simp
    · exact List.mem_cons_of_mem _ (ih h)

/-- A port of a quiet state holds nothing. -/
theorem State.Quiet.port {s : State} (h : s.Quiet) (p : Nat) : (s.port p).Idle := by
  unfold State.port Tbl.get
  cases e : Tbl.get? s.ports p with
  | none => exact ⟨rfl, rfl, rfl⟩
  | some v => exact h.ports (p, v) (Tbl.mem_of_get? _ _ _ e)

theorem State.drainPort_quiet {s : State} (h : s.Quiet) (p : Nat) : s.drainPort p = s := by
  unfold State.drainPort
  simp [(h.port p).owed, (h.port p).held]

theorem State.drainFences_quiet {s : State} (h : s.Quiet) (p : Nat) : s.drainFences p = s := by
  unfold State.drainFences
  rw [(h.port p).fences]
  rfl

theorem List.foldl_same {α β : Type} (f : β → α → β) (b : β) (l : List α) (h : ∀ a ∈ l, f b a = b) : l.foldl f b = b := by
  induction l with
  | nil => rfl
  | cons a t ih =>
    rw [List.foldl_cons, h a (by simp)]
    exact ih (fun a ha => h a (List.mem_cons_of_mem _ ha))

theorem State.drainBlocked_quiet {s : State} (h : s.Quiet) : s.drainBlocked = s := by
  have e := h.blocked
  unfold State.drainBlocked
  rw [e]
  cases s with
  | mk pending regs qos ports map home pub rc pool tier procs filt coll sec live power pocket fw pmon mgmt closing ts free out =>
    cases home; simp at e; subst e; rfl

theorem State.pubSettle_quiet {s : State} (h : s.Quiet) : s.pubSettle = s := by
  unfold State.pubSettle; rw [h.regions]; rfl

theorem State.endSamples_quiet {s : State} (h : s.Quiet) : s.endSamples = s := by
  unfold State.endSamples; rw [h.tagged]; rfl

theorem State.settlePass_quiet {s : State} (h : s.Quiet) : s.settlePass = s := by
  unfold State.settlePass
  dsimp only
  rw [State.drainBlocked_quiet h, List.foldl_same _ s _ (fun p _ => State.drainPort_quiet h p),
    List.foldl_same _ s _ (fun p _ => State.drainFences_quiet h p)]
  simp [h.txns, h.adopt, h.defines, h.prefOps, h.scheds, h.closing, State.pubSettle_quiet h, State.endSamples_quiet h]

/-- Where nothing waits, settling changes nothing. -/
theorem State.settle_quiet {s : State} (h : s.Quiet) : s.settle = s := by
  unfold State.settle State.settleN
  rw [State.settlePass_quiet h]
  simp

/-- A command whose effect leaves nothing waiting and memory in canonical form ends in that effect. -/
theorem State.finish_quiet {s t : State} (h : t.Quiet) (m : t.MemOk) (p : t.pending = s.pending) : s.finish t = t := by
  unfold State.finish
  rw [State.settle_quiet h, State.tidy_of_memOk _ m, ← p]

/-! ### Quiet through updates -/

/-- What a quiet state says of the parts beside its ports. -/
theorem State.Quiet.of_eq {s t : State} (h : s.Quiet) (c : t.closing = s.closing) (b : t.home = s.home) (r : t.pub = s.pub)
    (k : t.tier = s.tier) (g : t.pmon.tagged = s.pmon.tagged) (p : ∀ q ∈ t.ports, q.2.Idle) : t.Quiet := by
  constructor
  case ports => exact p
  all_goals simp only [c, b, r, k, g]
  all_goals cases h; assumption

/-- Changing a port keeps the state quiet where the change holds nothing back. -/
theorem State.Quiet.modPort {s : State} (h : s.Quiet) (p : Nat) (f : PortSt → PortSt)
    (hf : ∀ x : PortSt, x.Idle → (f x).Idle) : (s.modPort p f).Quiet :=
  h.of_eq rfl rfl rfl rfl rfl (fun q hq => (Tbl.mem_put hq).elim (fun e => e ▸ hf _ (h.port p)) (h.ports q))

theorem State.Quiet.sendQ {s : State} (h : s.Quiet) (p q : Nat) (m : Msg) : (s.sendQ p q m).Quiet :=
  h.modPort p _ (fun _ x => ⟨x.held, x.fences, x.owed⟩)

theorem State.Quiet.sendW {s : State} (h : s.Quiet) (p tc : Nat) (n : Option Nat) (k : Nat) (m : Msg) : (s.sendW p tc n k m).Quiet :=
  h.modPort p _ (fun _ x => ⟨x.held, x.fences, x.owed⟩)

theorem State.Quiet.setReg {s : State} (h : s.Quiet) (a v : Nat) : (s.setReg a v).Quiet := h.of_eq rfl rfl rfl rfl rfl h.ports
theorem State.Quiet.set {s : State} (h : s.Quiet) (f : BlockField) (v i k : Nat) : (s.set f v i k).Quiet := h.setReg _ _
theorem State.Quiet.hset {s : State} (h : s.Quiet) (g : Page) (f : FieldRef) (v : Nat) : (s.hset g f v).Quiet := h.setReg _ _
theorem State.Quiet.emit {s : State} (h : s.Quiet) (o : Output) : (s.emit o).Quiet := h.of_eq rfl rfl rfl rfl rfl h.ports

theorem State.Quiet.err {s : State} (h : s.Quiet) (g : Page) (b : Nat) : (s.err g b).Quiet := by
  unfold State.err
  dsimp only
  split
  · exact h
  · split
    · exact h.of_eq rfl rfl rfl rfl rfl h.ports
    · exact h.setReg _ _

/-! ### Counting changes counters and the registers that go with them only -/

/-- What counting an event changes: PMON's counters, and registers. -/
theorem State.pmonOvf_eq (s : State) (i : Nat) : ∃ r, s.pmonOvf i = { s with regs := r } := by
  unfold State.pmonOvf
  dsimp only
  split
  · exact ⟨_, rfl⟩
  · exact ⟨_, rfl⟩

theorem State.countOne_eq (o : Occ) (s : State) (c : Nat × List Word) :
    ∃ r k, State.countOne o s c = { s with regs := r, pmon := { s.pmon with cnt := k } } := by
  unfold State.countOne
  split
  · dsimp only
    split
    · obtain ⟨r, e⟩ := State.pmonOvf_eq
        { s with pmon := { s.pmon with cnt := Tbl.putD s.pmon.cnt c.1 0 (addCount (Tbl.get s.pmon.cnt c.1 0) o.n).1 } } c.1
      exact ⟨r, _, e⟩
    · exact ⟨s.regs, _, rfl⟩
  · exact ⟨s.regs, s.pmon.cnt, rfl⟩

theorem State.vcount_eq (o : Occ) (x : Nat) (s : State) (k : Nat) :
    ∃ r v, State.vcount o x s k = { s with regs := r, pmon := { s.pmon with vcnt := v } } := by
  unfold State.vcount
  dsimp only
  split
  · split
    · exact ⟨_, _, rfl⟩
    · exact ⟨s.regs, _, rfl⟩
  · exact ⟨s.regs, s.pmon.vcnt, rfl⟩

theorem State.foldCount_eq (o : Occ) (l : List (Nat × List Word)) (s : State) :
    ∃ r k, l.foldl (State.countOne o) s = { s with regs := r, pmon := { s.pmon with cnt := k } } := by
  induction l generalizing s with
  | nil => exact ⟨s.regs, s.pmon.cnt, rfl⟩
  | cons c t ih =>
    obtain ⟨r, k, e⟩ := State.countOne_eq o s c
    obtain ⟨r', k', e'⟩ := ih (State.countOne o s c)
    exact ⟨r', k', by rw [List.foldl_cons, e', e]⟩

theorem State.foldVcount_eq (o : Occ) (x : Nat) (l : List Nat) (s : State) :
    ∃ r v, l.foldl (State.vcount o x) s = { s with regs := r, pmon := { s.pmon with vcnt := v } } := by
  induction l generalizing s with
  | nil => exact ⟨s.regs, s.pmon.vcnt, rfl⟩
  | cons c t ih =>
    obtain ⟨r, k, e⟩ := State.vcount_eq o x s c
    obtain ⟨r', k', e'⟩ := ih (State.vcount o x s c)
    exact ⟨r', k', by rw [List.foldl_cons, e', e]⟩

/-- Everything State.count can change: registers, the tally and the two counter tables. -/
theorem State.count_eq (s : State) (o : Occ) :
    ∃ r ev k v, s.count o = { s with regs := r, pmon := { s.pmon with events := ev, cnt := k, vcnt := v } } := by
  let key := blockCode o.blk * 2 ^ 24 + o.code * 2 ^ 16 + (if globalPages.contains o.blk then 0 else o.inst)
  let ev := Tbl.mod s.pmon.events key 0 (· + o.n)
  let u : State := { s with pmon := { s.pmon with events := ev } }
  have e : ∃ r k, (if u.enabled .pmon && !u.flag PMON_CTL_FREEZE then u.pmon.cfg.foldl (State.countOne o) u else u)
      = { u with regs := r, pmon := { u.pmon with cnt := k } } := by
    split
    · exact State.foldCount_eq o u.pmon.cfg u
    · exact ⟨u.regs, u.pmon.cnt, rfl⟩
  obtain ⟨r, k, e⟩ := e
  unfold State.count
  dsimp only
  split
  · exact ⟨r, ev, k, s.pmon.vcnt, e⟩
  · rename_i x _
    obtain ⟨r', v, e'⟩ := State.foldVcount_eq o x (List.range 4) { u with regs := r, pmon := { u.pmon with cnt := k } }
    exact ⟨r', ev, k, v, (congrArg (fun w => (List.range 4).foldl (State.vcount o x) w) e).trans e'⟩

theorem State.Quiet.count {s : State} (h : s.Quiet) (o : Occ) : (s.count o).Quiet := by
  obtain ⟨r, ev, k, v, e⟩ := s.count_eq o
  rw [e]; exact h.of_eq rfl rfl rfl rfl rfl h.ports

/-! ### Exec -/

/-- Every command ends in State.finish of its own effect. -/
theorem exec_finish (c : Instr) (s : State) : ∃ t, exec c s = .next (s.finish t) := by
  cases c <;> exact ⟨_, rfl⟩

/-- How to show that a command ends with an effect. -/
theorem Ends.of_eq {c : Instr} {s t : State} (e : exec c s = .next (s.finish t)) (p : t.pending = s.pending) : Ends c s t :=
  ⟨e, fun q m => by rw [e, State.finish_quiet q m p]⟩

/-- No command touches the queue. -/
theorem exec_pending (c : Instr) (s t : State) (h : exec c s = .next t) : t.pending = s.pending := by
  obtain ⟨u, e⟩ := exec_finish c s
  rw [e] at h; cases h; rfl

/-- After every command memory is in canonical form. -/
theorem exec_memOk (c : Instr) (s t : State) (h : exec c s = .next t) : t.MemOk := by
  obtain ⟨u, e⟩ := exec_finish c s
  rw [e] at h; cases h; exact s.finish_memOk u

end Sys2Proof.Machine
end

