-- ==== Sys2Proof/Laws/Writes.lean ====
section
/-! SUPPORT. Laws of register writes: which register lies at an address, and what a write that a page takes does. -/

namespace Sys2Proof.Machine

/-- A block instance that the map has. -/
abbrev validPage (g : Page) : Prop := g.inst < pageCount g.blk

/-- The page with a number. -/
def pageNum (p : Nat) : Option Page :=
  if p < 0x14 then (globalPages[p]?).map (fun b => { blk := b })
  else if 0x100 ≤ p && p < 0x200 then some { blk := .port, inst := p - 0x100 }
  else if 0x200 ≤ p && p < 0x280 then some { blk := .core, inst := p - 0x200 }
  else if 0x280 ≤ p && p < 0x300 then some { blk := .filt, inst := p - 0x280 }
  else if 0x300 ≤ p && p < 0x308 then some { blk := .hbm, inst := p - 0x300 }
  else if 0x308 ≤ p && p < 0x310 then some { blk := .cdie, inst := p - 0x308 }
  else if 0x310 ≤ p && p < 0x318 then some { blk := .pdie, inst := p - 0x310 }
  else if p == 0xFF0 then some { blk := .win }
  else if 0x1000 ≤ p && p < 0x2000 then some { blk := .ctx, inst := p - 0x1000 }
  else none

theorem pageOf_num (a p : Nat) (h : a / 0x1000 = p) : pageOf a = pageNum p := by subst h; rfl

/-- The page an address of a page lies in. -/
theorem pageOf_page (g : Page) (h : validPage g) (off : Nat) (ho : off < 0x1000) :
    pageOf (pageBase g.blk g.inst + off) = some g := by
  obtain ⟨b, i⟩ := g
  simp only [validPage] at h
  have e : (pageBase b i + off) / 0x1000 = pageBase b i / 0x1000 := by
    have : pageBase b i % 0x1000 = 0 := by cases b <;> simp only [pageBase] <;> omega
    omega
  cases b <;> simp only [pageCount] at h
  case port =>
    rw [pageOf_num _ (0x100 + i) (by simp only [pageBase]; omega)]
    unfold pageNum
    simp only [Bool.and_eq_true, decide_eq_true_eq, beq_iff_eq]
    repeat rw [if_neg (by omega)]
    rw [if_pos (by omega), Nat.add_sub_cancel_left]
  case core =>
    rw [pageOf_num _ (0x200 + i) (by simp only [pageBase]; omega)]
    unfold pageNum
    simp only [Bool.and_eq_true, decide_eq_true_eq, beq_iff_eq]
    repeat rw [if_neg (by omega)]
    rw [if_pos (by omega), Nat.add_sub_cancel_left]
  case filt =>
    rw [pageOf_num _ (0x280 + i) (by simp only [pageBase]; omega)]
    unfold pageNum
    simp only [Bool.and_eq_true, decide_eq_true_eq, beq_iff_eq]
    repeat rw [if_neg (by omega)]
    rw [if_pos (by omega), Nat.add_sub_cancel_left]
  case hbm =>
    rw [pageOf_num _ (0x300 + i) (by simp only [pageBase]; omega)]
    unfold pageNum
    simp only [Bool.and_eq_true, decide_eq_true_eq, beq_iff_eq]
    repeat rw [if_neg (by omega)]
    rw [if_pos (by omega), Nat.add_sub_cancel_left]
  case cdie =>
    rw [pageOf_num _ (0x308 + i) (by simp only [pageBase]; omega)]
    unfold pageNum
    simp only [Bool.and_eq_true, decide_eq_true_eq, beq_iff_eq]
    repeat rw [if_neg (by omega)]
    rw [if_pos (by omega), Nat.add_sub_cancel_left]
  case pdie =>
    rw [pageOf_num _ (0x310 + i) (by simp only [pageBase]; omega)]
    unfold pageNum
    simp only [Bool.and_eq_true, decide_eq_true_eq, beq_iff_eq]
    repeat rw [if_neg (by omega)]
    rw [if_pos (by omega), Nat.add_sub_cancel_left]
  case ctx =>
    rw [pageOf_num _ (0x1000 + i) (by simp only [pageBase]; omega)]
    unfold pageNum
    simp only [Bool.and_eq_true, decide_eq_true_eq, beq_iff_eq]
    repeat rw [if_neg (by omega)]
    rw [if_pos (by omega), Nat.add_sub_cancel_left]
  all_goals
    obtain rfl : i = 0 := by omega
    rw [pageOf_num _ _ e]
    rfl

/-- The definition of the register at an offset of a page. -/
def regDefAt (g : Page) (off : Nat) : Option RegDef :=
  if g.blk == .filt && g.inst != 0 && 0x180 ≤ off then none
  else (if off < 0x100 && g.blk != .win then hdrRegs else blockRegs g.blk).find? (fun d => d.covers off)

/-- The register at an address of a page. -/
theorem regAt_page (g : Page) (h : validPage g) (off : Nat) (ho : off < 0x1000) :
    regAt (pageBase g.blk g.inst + off) = (regDefAt g off).map (fun d => (g, d)) := by
  have e : (pageBase g.blk g.inst + off) % 0x1000 = off := by
    have : pageBase g.blk g.inst % 0x1000 = 0 := by cases g.blk <;> simp only [pageBase] <;> omega
    omega
  unfold regAt regDefAt
  rw [pageOf_page g h off ho]
  dsimp only
  rw [e]
  cases (g.blk == .filt && g.inst != 0 && decide (0x180 ≤ off)) <;> simp

/-- No page lies in a table window. -/
theorem winAt_page (g : Page) (h : validPage g) (off : Nat) (ho : off < 0x1000) : winAt (pageBase g.blk g.inst + off) = none := by
  obtain ⟨b, i⟩ := g
  simp only [validPage] at h
  have hb : pageBase b i + off < 0x400000 ∨ 0xFF0000 ≤ pageBase b i + off := by
    cases b <;> simp only [pageCount] at h <;> simp only [pageBase] <;> omega
  unfold winAt
  rw [List.find?_eq_none.2, Option.map_none]
  intro w hw
  simp only [windows, List.mem_cons, List.not_mem_nil, or_false] at hw
  rcases hw with rfl | rfl | rfl | rfl | rfl | rfl | rfl | rfl | rfl <;>
    simp only [Bool.and_eq_true, decide_eq_true_eq] <;> omega

/-- What an operator's write to a register that its page takes does: range and whole-register refusals aside, the fields store
what they may, and the write has its effect. -/
theorem State.command_takes (s : State) (path : Path) (g : Page) (d : RegDef) (off v : Nat) (h : s.Takes path g) (hg : validPage g)
    (ho : off < 0x1000) (hd : regDefAt g off = some d) (hw : (d.blk == some .map && d.off == 0x114) = false)
    (hr : s.rangeRefused d v = false) (hi : s.writeIgnored g d (pageBase g.blk g.inst + off) v = false) :
    s.command path (pageBase g.blk g.inst + off) v =
      State.writeEffect s
        (State.storeReg (if s.locksOut g d (pageBase g.blk g.inst + off) v then s.err (errPage g) 0 else s) g d
          (pageBase g.blk g.inst + off) v) { path := path } g d (pageBase g.blk g.inst + off) v := by
  obtain ⟨h1, h2, h3, h4, h5⟩ := h
  have hp : s.mgmtWrite { path := path } (pageBase g.blk g.inst + off) v =
      s.pageWrite { path := path } (pageBase g.blk g.inst + off) v := by
    unfold State.mgmtWrite
    rw [winAt_page g hg off ho]
    cases path with
    | tenant p => exact absurd rfl (h2 p)
    | _ => rfl
  have h6 : s.writeWaits g d = false := by
    unfold State.writeWaits; rw [h5, hw]; rfl
  unfold State.command
  rw [if_pos h1, hp]
  unfold State.pageWrite
  rw [regAt_page g hg off ho, hd]
  simp only [Option.map_some, h3, decide_false, Bool.false_and, Bool.false_eq_true, if_false, beq_eq_false_iff_ne.2 h4, h6]
  unfold State.doWrite
  simp only [hr, hi, Bool.false_eq_true, if_false]

/-- Fields that no lock touches store the same whether the page is locked or not. -/
theorem storeFields_lock (d : RegDef) (l : Bool) (old v : Nat) (h : d.flds.all (fun f => f.ty != .rwl) = true) :
    storeFields d l old v = storeFields d false old v := by
  unfold storeFields
  generalize d.flds = fs at h
  induction fs generalizing old with
  | nil => rfl
  | cons f t ih =>
    simp only [List.all_cons, Bool.and_eq_true] at h
    rw [List.foldl_cons, List.foldl_cons, ih _ h.2]
    congr 1
    cases e : f.ty <;> simp_all

/-- What an operator's write does to a register of a page other than PMON's that no lock touches. -/
theorem State.command_plain (s : State) (path : Path) (g : Page) (d : RegDef) (b : Block) (off v : Nat) (h : s.Takes path g)
    (hg : validPage g) (ho : off < 0x1000) (hd : regDefAt g off = some d) (hb : d.blk = some b) (hp : b ≠ .pmon)
    (hw : (d.blk == some .map && d.off == 0x114) = false) (hl : d.flds.all (fun f => f.ty != .rwl) = true)
    (hr : s.rangeRefused d v = false) (hi : s.writeIgnored g d (pageBase g.blk g.inst + off) v = false) :
    s.command path (pageBase g.blk g.inst + off) v =
      State.writeEffect s
        (s.setReg (pageBase g.blk g.inst + off) (storeFields d false (s.reg (pageBase g.blk g.inst + off)) v))
        { path := path } g d (pageBase g.blk g.inst + off) v := by
  rw [State.command_takes s path g d off v h hg ho hd hw hr hi]
  have hk : s.locksOut g d (pageBase g.blk g.inst + off) v = false := by
    unfold State.locksOut
    rw [Bool.and_eq_false_iff]; right
    rw [List.any_eq_false]
    intro f hf
    have := List.all_eq_true.1 hl f hf
    cases e : f.ty <;> simp_all
  rw [hk, if_neg (by simp)]
  congr 1
  unfold State.storeReg
  rw [hb]
  cases b <;> first | exact absurd rfl hp | simp only [storeFields_lock _ _ _ _ hl]

end Sys2Proof.Machine
end

