-- ==== Sys2Proof/Tests/Slice0.lean ====
section
/-! SUPPORT. Tests: small steps on small states, with what the spec's rules give for them, and for each statement a state and operands
that meet its hypotheses; the WellFormed smoke test, with an ill-formed term for each check. -/

open Sys2Proof Sys2Proof.Machine
set_option maxRecDepth 100000
set_option exponentiation.threshold 4000
set_option Elab.async false


/-- The module after start-up, PROFILE_U, nothing configured. -/
def upS : State := (State.reset.set RST_STAT_STEP 15).set RST_STAT_READY 1

/-- The same, its Pocket without power. -/
def pocketOff : State := { upS with pocket := { upS.pocket with powered := false } }

/-- A page enabled. -/
def Sys2Proof.Machine.State.onPg (s : State) (b : Block) (i : Nat := 0) : State := (s.hset ⟨b, i⟩ PG_CTL_ENABLE 1).hset ⟨b, i⟩ PG_STAT_ENABLED 1

/-- Port p enabled in a role (0 LEAF, 1 TRAY, 2 TRUNK, 3 MGMT), its link down. -/
def Sys2Proof.Machine.State.roleS (s : State) (p role : Nat) : State :=
  (((((s.onPg .port p).onPg .pdie (p % 128 / 16)).set CDIE_LINK_PDIE_UP 1 (p % 128 / 16)).set PORT_CFG_ROLE role p).set PORT_CFG_YD_EN (b2n (role == 0 || role == 2)) p).set PORT_CFG_IDE_REQ 0 p

/-- The same with a CXL link in L0. -/
def Sys2Proof.Machine.State.cxlS (s : State) (p role : Nat) : State := (s.roleS p role).set PORT_LSTAT_UP 1 p

/-- The same with a YD link in L0, its partner introduced under a FEID. -/
def Sys2Proof.Machine.State.ydS (s : State) (p role feid : Nat) : State :=
  ((((s.roleS p role).set PORT_LSTAT_UP 1 p).set PORT_LSTAT_MODE 1 p).set PORT_LSTAT_PARTNER_FEID feid p).modPort p (fun x => { x with
    initRx := true
    partnerDev := BitVec.ofNat 12 feid
    credit := [0, 8, 8, 8] })

/-- Tenant 1 with a READY context 0 and a key; LEAF port 5 (YD, partner 77) bound to it; pool extent 0 in T1. -/
def memS (yd : Bool) : State :=
  let s := if yd then upS.ydS 5 0 77 else upS.cxlS 5 0
  let s := (((s.onPg .home).onPg .atom).onPg .map).set HOME_CTL_SPEC_EN 0
  let s := (s.set DEV_ID_FEID 9).set MAP_EPOCH_CURRENT 1
  let s := (s.set CTX_STAT_STATE ctxReady 3).set CTX_BIND_TENANT 1 3
  { s with
    sec := { s.sec with slots := [(3, { pair := 7, noCmpr := false })] }
    map := { s.map with cur := {
      extents := [(0, 1)]
      slices := [(0, 1 + 1 * 2 ^ 16)]
      binds := [(5, 1 + 3 * 2 ^ 4 + 77 * 2 ^ 16 + 1 * 2 ^ 32 + 1 * 2 ^ 256)]
      routes := [(0, 1 + 1 * 2 ^ 1 + 0x10000000 * 2 ^ 64 + 0x1FFFFFFF * 2 ^ 128)] } }
    tier := { s.tier with t1 := [(0, { stack := 0 })] } }
def P5 : PortId := 5
def hd (tag arg : Nat) : Hdr := { dst := 9, src := 77, tag := BitVec.ofNat 16 tag, arg := BitVec.ofNat 64 arg }
def dd : Line := BitVec.ofNat 512 0x1234567890ABCDEF00112233445566778899
def okc (c : Instr) (s t : State) : Bool := match exec c s with | .next u => decide (u = s.finish t) | _ => false
def aft (c : Instr) (s : State) : State := match exec c s with | .next u => u | _ => s
def regsOk (t s : State) (f : Nat → Nat) : Bool := ((t.regs.keys ++ s.regs.keys).all (fun b => t.reg b == f b))

/-! ### Hypotheses on concrete states -/

/-- `State.Admits` of what can be evaluated. -/
theorem admits_of {s : State} {p : PortId} {c : Instr}
    (h : ingressPort c = some p ∧ s.gate p.val c = .pass ∧
      (fenceSrc c).all (fun f => !s.feidFenced f && !s.fencing p.val f) = true ∧ s.quiescing .port p.val = false ∧
      s.backed p.val = false ∧ s.barred p.val = false ∧ s.flag PMON_SMP_CTL_EN = false) : s.Admits p c :=
  ⟨h.1, h.2.1, fun f e => by simpa [e] using h.2.2.1, h.2.2.2⟩

/-- Whether a path is a tenant's. -/
def ofTenant : Path → Bool
  | .tenant _ => true
  | _ => false

/-- `State.Takes` of what can be evaluated. -/
theorem takes_of {s : State} {path : Path} {g : Page}
    (h : ofTenant path = false ∧ s.mgmtUp = true ∧ s.profile ≠ profileF ∧ s.hrd (errPage g) PG_CTL_LOCK ≠ 1 ∧ s.holdsWrites g = false) :
    s.Takes path g :=
  ⟨h.2.1, fun p e => by simpa [e, ofTenant] using h.1, h.2.2⟩

/-- What makes a state quiet, in a form that can be evaluated. -/
abbrev NothingWaits (s : State) : Prop :=
  (s.closing = [] ∧ s.home.blocked = [] ∧ s.home.txns = [] ∧ s.home.adopt = [] ∧ s.home.defines = []) ∧
  (s.pub.regions = [] ∧ s.tier.prefOps = [] ∧ s.tier.scheds = [] ∧ s.pmon.tagged = []) ∧
  ∀ q ∈ s.ports, q.2.held = [] ∧ q.2.fences = [] ∧ q.2.owed.any (fun n => n != 0) = false

theorem quiet_of {s : State} (h : NothingWaits s) : s.Quiet where
  closing := h.1.1
  blocked := h.1.2.1
  txns := h.1.2.2.1
  adopt := h.1.2.2.2.1
  defines := h.1.2.2.2.2
  regions := h.2.1.1
  prefOps := h.2.1.2.1
  scheds := h.2.1.2.2.1
  tagged := h.2.1.2.2.2
  ports := fun q hq => let i := h.2.2 q hq; { held := i.1, fences := i.2.1, owed := i.2.2 }

/-- `State.ServesT1` of what can be evaluated. -/
theorem serves_of {s : State} {p : PortId} {a : Nat}
    (h : NothingWaits s ∧ (Memory.wf s.pool.cur.bytes = true ∧ Memory.wf s.pool.tray.bytes = true) ∧
      s.homeTakes s.epoch p.val (a / 2 ^ 30) = true ∧ s.dirAt (a / 64) = none ∧ s.fullSet (a / 64) = none ∧
      Tbl.get s.home.repl.peers (a / 4096) [] = [] ∧ Tbl.get s.home.repl.invWait (a / 4096) [] = [] ∧
      (Tbl.get? s.tier.t1 (pageNo a)).isSome = true ∧
      (s.paged (s.map.cur.extent (a / 2 ^ 30)) = true → (s.pageEnt (pageNo a)).tier ≠ .zero) ∧ Tbl.get? s.pool.ue (a / 64) = none ∧
      exCmpr (s.map.cur.extent (a / 2 ^ 30)) = false ∧ s.isSealed (a / 2 ^ 30) = false ∧ s.flag HOME_CTL_SPEC_EN = false) :
    s.ServesT1 p a :=
  ⟨quiet_of h.1, h.2⟩

/-- `State.LeadsTo` as a check. -/
def leadsB (s : State) (p : PortId) (addr a : Nat) : Bool :=
  match s.map.cur.route p.val addr with
  | some e => decide (rtAction e = .pool) && decide (a = addr - rtBase e + rtOffset e)
  | none => false

theorem leads_of {s : State} {p : PortId} {addr a : Nat} (h : leadsB s p addr a = true) : s.LeadsTo p addr a := by
  unfold leadsB at h
  split at h
  next e he => exact ⟨e, he, by simpa using h⟩
  next => simp at h


namespace Sys2Proof.Tests

/-! ### WellFormed: for each check a term it refuses, beside one it takes -/

theorem test_wellFormed_linkUp : wellFormed (.linkUp 5 2 3 true false) = false ∧ wellFormed (.linkUp 5 2 2 true false) = true := by decide
theorem test_wellFormed_credit_class : wellFormed (.credit 5 0 1) = false ∧ wellFormed (.credit 5 3 1) = true := by decide
theorem test_wellFormed_credit_count : wellFormed (.credit 5 1 0) = false ∧ wellFormed (.credit 5 1 1) = true := by decide
theorem test_wellFormed_allRsp : let m : Match := { index := 0, data := 0, prio := 0 }
    let h : StitchHdr := { src := 88, tag := 3, slot := 2, pos := 1, chain := 5 }
    wellFormed (.allRsp 5 h true 3 [m, m, m]) = false ∧ wellFormed (.allRsp 5 h true 2 [m, m]) = true := by decide
theorem test_wellFormed_memRd : wellFormed (.memRd 5 1 65 true) = false ∧ wellFormed (.memRd 5 1 64 true) = true := by decide
theorem test_wellFormed_memInv : wellFormed (.memInv 5 1 32) = false ∧ wellFormed (.memInv 5 1 128) = true := by decide
theorem test_wellFormed_memWr : wellFormed (.memWr 5 1 63 0 0 false false) = false ∧ wellFormed (.memWr 5 1 0 0 0 false false) = true := by decide
theorem test_wellFormed_birsp : wellFormed (.birsp 5 70 true) = false ∧ wellFormed (.birsp 5 64 true) = true := by decide
theorem test_wellFormed_biconflict : wellFormed (.biconflict 5 1 1) = false ∧ wellFormed (.biconflict 5 1 64) = true := by decide
theorem test_wellFormed_cxlIoMemWr_dword : wellFormed (.cxlIoMemWr 5 2 [(0, 15)] false) = false ∧ wellFormed (.cxlIoMemWr 5 4 [(0, 15)] false) = true := by
  decide
theorem test_wellFormed_cxlIoMemWr_empty : wellFormed (.cxlIoMemWr 5 4 [] false) = false := by decide
theorem test_wellFormed_cxlIoMemWr_page : wellFormed (.cxlIoMemWr 5 4092 [(0, 15), (0, 15)] false) = false ∧
    wellFormed (.cxlIoMemWr 5 4088 [(0, 15), (0, 15)] false) = true := by decide
theorem test_wellFormed_cxlIoMemRd_empty : wellFormed (.cxlIoMemRd 5 1 4 0) = false := by decide
theorem test_wellFormed_cxlIoMemRd_page : wellFormed (.cxlIoMemRd 5 1 4095 2) = false ∧ wellFormed (.cxlIoMemRd 5 1 4095 1) = true := by decide
theorem test_wellFormed_hostCpl : wellFormed (.hostCpl 5 1 true (List.replicate 4097 0)) = false ∧
    wellFormed (.hostCpl 5 1 true (List.replicate 4096 0)) = true := by decide +kernel
theorem test_wellFormed_registerWrite : wellFormed (.registerWrite .eth 2 0 15) = false ∧ wellFormed (.registerWrite .eth 4 0 15) = true := by decide
theorem test_wellFormed_loReadLatch : wellFormed (.loReadLatch .eth 1) = false ∧ wellFormed (.loReadLatch .eth 4) = true := by decide
theorem test_wellFormed_tableWindowRead : wellFormed (.tableWindowRead .eth 3) = false ∧ wellFormed (.tableWindowRead .eth 4) = true := by decide
theorem test_wellFormed_tableWindowWrite : wellFormed (.tableWindowWrite .eth 5 0) = false ∧ wellFormed (.tableWindowWrite .eth 4 0) = true := by
  decide
theorem test_wellFormed_snoopTimeout : wellFormed (.snoopTimeout 5 65) = false ∧ wellFormed (.snoopTimeout 5 64) = true := by decide
theorem test_wellFormed_publishListRead : wellFormed (.publishListRead 88 1 (List.replicate 1025 0) false) = false ∧
    wellFormed (.publishListRead 88 1 (List.replicate 1024 0) false) = true := by decide +kernel
theorem test_wellFormed_coreFault : wellFormed (.coreFault 2 0) = false ∧ wellFormed (.coreFault 2 5) = false ∧
    wellFormed (.coreFault 2 1) = true ∧ wellFormed (.coreFault 2 4) = true := by decide
theorem test_wellFormed_collWindowWrite : wellFormed (.collWindowWrite 5 7 32 0 true false) = false ∧
    wellFormed (.collWindowWrite 5 7 64 0 true false) = true := by decide
theorem test_wellFormed_thermStep : wellFormed (.thermStep 25 0) = false ∧ wellFormed (.thermStep 24 0) = true := by decide
theorem test_wellFormed_thermalTrip : wellFormed (.thermalTrip 31) = false ∧ wellFormed (.thermalTrip 0) = true := by decide

namespace Gen

def wE (img : Nat) : State := let s := upS.set WIN_CAM_CORE_CORE 3; { s with mgmt := { s.mgmt with staging := [(23, (9, img))] } }
def gim : Nat := 0xF0F + 0xFF * 2 ^ 160 + 5 * 2 ^ 320 + 2 ^ 328 + 77 * 2 ^ 352
theorem test_gen_tableWindowWrite : (let s := wE gim; let t := aft (.tableWindowWrite .eth 0xA0027C 0) s; decide (winKey { path := .eth } { no := 7, base := 0xA00000, n := 16384, size := 64, blk := .filt } = 23 ∧ t = { s with filt := t.filt, mgmt := t.mgmt } ∧ t.winEntry 7 9 = gim - 0xF00 ∧ t.filt.cam = [(camAt 3 9, gim - 0xF00)] ∧ t.filt.shadow = t.filt.cam)) = true := by decide +kernel
theorem test_gen_tableWindowWrite_2 : (let s := wE gim; let t := aft (.tableWindowWrite .eth 0xA0027C 1) s; decide (t.filt = s.filt ∧ t.pool = s.pool ∧ t.map = s.map ∧ bit (t.pgErr ⟨.filt, 3⟩) 2 = true ∧ t.rd WIN_STAT_CODE = rcFieldRange)) = true := by decide +kernel
theorem test_gen : (camMatches gim 0xA0F && camMatches (2 ^ 328 + 5) 0 && !camMatches gim 0xA0E && !camMatches (gim - 2 ^ 328) 0xA0F) = true := by decide +kernel
theorem test_gen_ydFlitRx : (let s := upS.ydS 6 2 88; let f : BitVec 2048 := BitVec.ofNat 2048 (0xE7E7E7E7 * 2 ^ 2016); let t := aft (.ydFlitRx 6 f true) s; decide (s.SameWork t ∧ t.out = s.out ∧ t.tally .port 7 6 = s.tally .port 7 6 + 1)) = true := by decide +kernel
theorem test_gen_2 : (State.reset.feidFenced 5 = false ∧ State.reset.selfFenced = false ∧ State.reset.flag RST_STAT_READY = false ∧
  State.reset.map = {} ∧ State.reset.home.dir = [] ∧ State.reset.rc = [] ∧ State.reset.procs.procs = [] ∧ State.reset.coll = []) := by decide +kernel
theorem test_gen_3 : ([0, 127, 255].all (fun p => !State.reset.linked p) && [0, 4095].all (fun p => State.reset.ctxState p == 0)) = true := by decide +kernel
theorem test_gen_4 : State.reset.Quiet := quiet_of (by decide)
theorem test_gen_5 : State.reset.MemOk := ⟨by decide, by decide⟩
theorem test_gen_6 : ([Block.dev, .clk, .pwr, .rst, .fw, .pocket, .sec, .cdie, .live, .map, .home, .repl, .pub, .atom, .tier, .pref, .cmpr, .keys, .coll, .qos, .pmon, .port, .core, .filt, .hbm, .pdie, .ctx].all (fun b => [0, pageCount b - 1].all (fun i => (State.reset.hrd ⟨b, i⟩ PG_CTL_ENABLE == 1) == alwaysOn b && (State.reset.hrd ⟨b, i⟩ PG_STAT_ENABLED == 1) == alwaysOn b))) = true := by decide +kernel
theorem witness_MemoryStaysCanonical : State.reset.MemOk ∧ step State.reset = .next State.reset := ⟨⟨by decide, by decide⟩, rfl⟩
theorem witness_StepServesTheQueue : State.reset.pending = [] := rfl
theorem witness_FlitsRoundTrip : (List.replicate 15 (0 : Slot)).length ≤ 15 ∧ 250 < 256 ∧ (if 250 < 252 then 250 % 2 = 0 else 250 < 254) ∧
    (if 255 < 252 then 255 % 2 = 1 else 254 ≤ 255) ∧ 7 < 8 := by decide +kernel
/-- All codings but MXP. -/
def encAll : EncSet := { exp := true, bd := true, sparse := true, mxp := none }
theorem witness_CodingIsLossless : 5 < 2 ^ 2048 ∧ (∀ ty, encAll.mxp = some ty → ty = 5 ∨ ty = 6 ∨ ty = 7) :=
  ⟨by decide +kernel, fun ty h => by simp [encAll] at h⟩
theorem witness_CodedSize : let n : EncSet := { exp := false, bd := false, sparse := false, mxp := none }
    (∀ ty, n.mxp = some ty → ty = 5 ∨ ty = 6 ∨ ty = 7) ∧ (∀ l ∈ aiskoCandidates n 5, 192 < l.length) ∧
    (aiskoCandidates encAll 5).any (fun l => l.length ≤ 192) = true :=
  ⟨fun ty h => by simp at h, by decide +kernel, by decide +kernel⟩
theorem witness_StompedFlitsAreDropped : let s := upS.ydS 6 2 88; let f : BitVec 2048 := BitVec.ofNat 2048 (0xE7E7E7E7 * 2 ^ 2016)
    s.ydUp 6 = true ∧ s.up 6 = true ∧ (bytesOf 256 f.toNat).drop 252 = [0xE7, 0xE7, 0xE7, 0xE7] := by decide +kernel
theorem witness_EntriesMatch : let s := wE gim
    9 < 16384 ∧ s.mgmtUp = true ∧ (∀ p, Path.eth ≠ .tenant p) ∧ s.profile ≠ profileF ∧ s.rd WIN_CAM_CORE_CORE = 3 ∧
    Tbl.get? s.mgmt.staging (winKey { path := .eth } { no := 7, base := 0xA00000, n := 16384, size := 64, blk := .filt }) = some (9, gim) ∧
    gim < 2 ^ 512 ∧ s.hrd ⟨.filt, 3⟩ PG_CTL_LOCK ≠ 1 ∧ s.inTuck (camAt 3 9) = false ∧ bits (insBits gim 511 480 0) 351 329 = 0 ∧
    bits (insBits gim 511 480 0) 511 384 = 0 ∧ bits (insBits gim 511 480 1) 511 384 ≠ 0 := by
  refine ⟨by decide, ?_, by simp, ?_, ?_, ?_, ?_, ?_, ?_, ?_, ?_, ?_⟩ <;> decide +kernel

end Gen

namespace Regs

def rs (t s : State) (l : List Nat) : Bool := (t.regs.keys ++ s.regs.keys).all (fun a => l.contains a || t.reg a == s.reg a)
def pg : List Page := [⟨.pmon,0⟩, ⟨.home,0⟩, ⟨.port,5⟩, ⟨.filt,3⟩, ⟨.map,0⟩, ⟨.ctx,7⟩, ⟨.live,0⟩, ⟨.qos,0⟩, ⟨.core,9⟩, ⟨.coll,0⟩]
def allB {α : Type} (l : List α) (f : α → Bool) : Bool := l.all f
theorem test_regs_pageEnable : (allB pg (fun g => let s := upS; let t := aft (.pageEnable .eth g) s; decide (t = { s with regs := t.regs } ∧ t.checking g = true ∧ t.enabled g.blk g.inst = false ))) = true := by decide +kernel
def chk (g : Page) : State := aft (.pageEnable .eth g) upS
theorem test_regs : ([(⟨.pmon,0⟩:Page), ⟨.map,0⟩, ⟨.live,0⟩, ⟨.qos,0⟩, ⟨.coll,0⟩].map (fun g => ((chk g).enableReason g true))) = [none,none,none,none, some (8,4)] := by decide +kernel
theorem test_regs_enableCheckDone : (allB [(⟨.pmon,0⟩:Page), ⟨.map,0⟩, ⟨.live,0⟩, ⟨.qos,0⟩] (fun g => let s := chk g; let t := aft (.enableCheckDone g true) s; decide (t.enabled g.blk g.inst = true ∧ t.hrd g PG_STAT_BUSY = 0 ∧ t.reg (PG_REASON_CODE.at g) = 0 ∧
      t = { s with regs := t.regs, pmon := t.pmon, ports := t.ports, live := t.live }))) = true := by decide +kernel
theorem test_regs_enableCheckDone_2 : (let g : Page := ⟨.coll, 0⟩; let s := chk g; let t := aft (.enableCheckDone g true) s; decide (t.enabled g.blk g.inst = false ∧ t.hrd g PG_STAT_BUSY = 0 ∧ t.hrd g PG_CTL_ENABLE = 0 ∧
      bit (t.pgErr g) 3 = true ∧ t.hrd g PG_REASON_CODE = 4 ∧ t.hrd g PG_REASON_OFFSET = 8 ∧
      t = { s with regs := t.regs, mgmt := t.mgmt })) = true := by decide +kernel
theorem test_regs_pageDisable : (allB pg (fun g => let s := upS.onPg g.blk g.inst; let t := aft (.pageDisable .eth g) s; decide (s.dependents g = [] ∧ s.idle g = true ∧ t = { s with regs := t.regs, ports := t.ports } ∧ t.hrd g PG_CTL_ENABLE = 0 ∧
      t.enabled g.blk g.inst = false ∧ t.hrd g PG_STAT_QUIESCED = 1))) = true := by decide +kernel
theorem test_regs_pageQuiesce : (allB pg (fun g => let s := upS.onPg g.blk g.inst; let t := aft (.pageQuiesce .eth g) s; let u := aft (.blockQuiesced g) t; let w := aft (.pageQuiesceRelease .eth g) u; decide ( t = { s with regs := t.regs } ∧ t.hrd g PG_CTL_QUIESCE = 1 ∧ t.enabled g.blk g.inst = true ∧ u.hrd g PG_STAT_QUIESCED = 1 ∧ (g.blk = .port ∨ w = { s with regs := w.regs }) ∧ w.hrd g PG_STAT_QUIESCED = 0 ∧ w.hrd g PG_CTL_QUIESCE = 0))) = true := by decide +kernel
theorem test_regs_pageSoftReset : (allB (pg.filter (fun g => g.blk ≠ .port)) (fun g => let s := upS; let t := aft (.pageSoftReset .eth g) s; decide ( t = { s with regs := t.regs, mgmt := t.mgmt } ∧ t.resetting g = true ∧ t.hrd g PG_STAT_BUSY = 1))) = true := by decide +kernel
theorem test_regs_softResetDone : (allB [(⟨.hbm,3⟩:Page), ⟨.home,0⟩, ⟨.qos,0⟩, ⟨.ctx,7⟩] (fun g => let s := ((upS.hset g PG_CTL_SOFT_RESET 1).hset g PG_STAT_BUSY 1).err g 3; let t := aft (.softResetDone g) s; decide ( t = { s with regs := t.regs } ∧ t.resetting g = false ∧ t.hrd g PG_STAT_BUSY = 0 ∧ t.pgErr g = 0))) = true := by decide +kernel
def hc : BitVec 26 := BitVec.ofNat 26 HOME_CTL_SPEC_EN.addr
theorem test_regs_registerWrite : (let s := upS.onPg .home; let t := aft (.registerWrite .eth hc 0xFFFFFFFF 15) s; rs t s [hc.toNat, PG_ERR_ERR.at ⟨.home, 0⟩] && decide (t = { s with regs := t.regs, mgmt := t.mgmt })) = true := by decide +kernel
theorem test_regs_registerWrite_2 : (okc (.registerWrite .eth (BitVec.ofNat 26 PMON_SMP_CTL_EN.addr) 0 15) upS (upS.err ⟨.pmon, 0⟩ 1)) = true := by decide +kernel
theorem test_regs_registerWrite_3 : (okc (.registerWrite .eth 5 0 7) upS (upS.err ⟨.dev, 0⟩ 17) && okc (.registerWrite .eth 0x3FFFFFC 0 15) upS (upS.err ⟨.dev, 0⟩ 16) && okc (.registerWrite (.tenant 5) 0x100C 0 15) upS (upS.countDenied 5 (some 0x100C))) = true := by decide +kernel
theorem test_regs_pageLock : (allB pg (fun g => let s := upS.onPg g.blk g.inst; let t := aft (.pageLock .eth g) s; decide ( t = { s with regs := t.regs } ∧ t.hrd g PG_CTL_LOCK = 1) && rs t s [PG_CTL_LOCK.at g])) = true := by decide +kernel
theorem test_regs_pageLock_2 : (let s := aft (.pageLock .eth ⟨.home, 0⟩) upS; let t := aft (.registerWrite .eth hc 0 15) s; decide ( t = { s with regs := t.regs, mgmt := t.mgmt } ∧ bit (t.pgErr ⟨.home,0⟩) 0 = true) && rs t s [PG_ERR_ERR.at ⟨.home, 0⟩]) = true := by decide +kernel
theorem test_regs_pgErrInj : (allB pg (fun g => let s := upS.onPg g.blk g.inst; let t := aft (.pgErrInj .eth g 0xFFFFFFFF) s; decide ( t = { s with regs := t.regs, mgmt := t.mgmt } ∧ (errBits g.blk g.inst).all (fun k => bit (t.pgErr g) k) = true) && rs t s [PG_ERR_ERR.at g] && decide (bit (t.pgErr g) 31 = false))) = true := by decide +kernel
theorem test_regs_loReadLatch : (let s := { upS with ts := 5 * 2^32 + 9 }; let a : BitVec 26 := BitVec.ofNat 26 CLK_TS_LO_TS.addr; let t := aft (.loReadLatch .eth a) s; decide (t = { s with mgmt := { s.mgmt with latches := [(a.toNat + 4, 5)] }, out := .regRead .eth a.toNat 9 :: s.out }) && decide (aft (.loReadLatch .eth (a+4)) { t with ts := 0 } = { s with ts := 0, out := .regRead .eth (a.toNat+4) 5 :: t.out })) = true := by decide +kernel
theorem test_regs_2 : (winAt 0x800024).map (fun w => (w.1.no, w.2)) = some (1, 1, 1) := by decide +kernel
def wst (e img : Nat) : State := { upS with mgmt := { upS.mgmt with staging := [(17, (e, img))] }, map := {upS.map with pend := { upS.map.pend with slices := [(1, 7 + 9 * 2^32)] } } }
theorem test_regs_tableWindowRead : (let s := wst 1 3; let t := aft (.tableWindowRead .eth 0x800020) s; let u := aft (.tableWindowRead .eth 0x800024) t; decide (t.out = .regRead .eth 0x800020 7 :: s.out ∧ u.out = .regRead .eth 0x800024 9 :: t.out)) = true := by decide +kernel
theorem test_regs_tableWindowWrite : (let s := wst 1 3; let t := aft (.tableWindowWrite .eth 0x800024 5) s; decide (t = { s with mgmt := { s.mgmt with staging := [(17, (1, 3 + 5 * 2 ^ 32))] } })) = true := by decide +kernel
theorem test_regs_tableWindowWrite_2 : (let s := (wst 1 3).set MAP_STAT_PENDING_READY 1; let t := aft (.tableWindowWrite .eth 0x80003C 5) s; decide (t.winEntry 1 1 = 3 + 5 * 2 ^ 224 ∧ t.map.cur = s.map.cur ∧ s.pendHeld = false ∧ t = { s with map := t.map, mgmt := { s.mgmt with staging := [] } })) = true := by decide +kernel
def dg (op : BitVec 8) (addr : BitVec 26) (data : List Word) : Datagram := { srcIp := 0, srcPort := 9, op := op, tag := 4, addr := addr, countM1 := 0, len := if op = 2 then 20 else 16, data := data }
theorem test_regs_3 : (upS.mgrPasses 0 = true) ∧ dgMalformed (dg 1 4 []) = false ∧ dgMalformed (dg 2 4 [3]) = false ∧ dgMalformed (dg 3 4 []) = true:= by decide +kernel
theorem test_regs_regWindowRead : (let s := upS; okc (.regWindowRead (dg 1 4 [])) s (s.answerWindow (dg 1 4 []) 0 [0x100])) = true := by decide +kernel
theorem test_regs_regWindowWrite : (let s := upS; okc (.regWindowWrite (dg 2 0x3FFFFF0 [4])) s ((s.err ⟨.dev,0⟩ 16).answerWindow (dg 2 0x3FFFFF0 [4]) 0 [])) = true := by decide +kernel
theorem test_regs_regWindowWrite_2 : (let s := upS; okc (.regWindowWrite (dg 3 4 [])) s ((s.err ⟨.dev,0⟩ 18).answerWindow (dg 3 4 []) 1 [])) = true := by decide +kernel
theorem test_regs_netLinkChange : (let s := upS.set DEV_IP4_ADDR 77; let t := aft (.netLinkChange true) s; let u := aft .netConfigApply t; decide (t = { s with regs := t.regs } ∧ t.flag DEV_NET_STAT_LINK_UP = true ∧ t.flag DEV_NET_STAT_IP_VALID = true ∧ u.netFrom = (77, s.rd DEV_UDP_REG_PORT))) = true := by decide +kernel
theorem test_regs_pmonFreeze : (let s := upS.onPg .pmon; let t := aft (.pmonFreeze .eth) s; let u := aft (.pmonUnfreeze .eth) t; decide (t = { s with regs := t.regs } ∧ t.flag PMON_CTL_FREEZE = true ∧ u.flag PMON_CTL_FREEZE = false)) = true := by decide +kernel
def pm : State := let s := upS.onPg .pmon; { s.set PMON_OVF_OVF 5 0 7 with pmon := { s.pmon with cnt := [(4, 9), (255, 3)], stagedLo := [(255, 8)] } }
theorem test_regs_clearAll : (let s := pm; let t := aft (.clearAll .eth) s; decide (t = { s with regs := t.regs, pmon := { s.pmon with cnt := [], stagedLo := [] } } ∧ t.rd PMON_OVF_OVF 0 7 = 0)) = true := by decide +kernel
theorem test_regs_counterLoad : (let s := pm; let t := aft (.counterLoad .eth 255 5) s; decide (t = { s with pmon := t.pmon } ∧ t.pmon.cnt = [(4, 9), (255, 8 + 5 * 2 ^ 32)])) = true := by decide +kernel
theorem test_regs_smpEnable : (let s := pm.set PMON_SMP_SEED_SEED 88; let t := aft (.smpEnable .eth) s; decide (t.flag PMON_SMP_CTL_EN = true ∧ t = { s with regs := t.regs, pmon := { s.pmon with lfsr := 88 } })) = true := by decide +kernel
theorem test_regs_hbmInjUe : (let s := upS; let t := aft (.hbmInjUe .eth 3) s; let u := aft (.hbmInjCe .eth 3) t; decide (t = { s with regs := t.regs } ∧ t.flag HBM_INJ_UE 3 = true ∧ t.flag HBM_INJ_CE 3 = false ∧ u.flag HBM_INJ_UE 3 = true ∧ u.flag HBM_INJ_CE 3 = true)) = true := by decide +kernel
theorem witness_PagesOpenAndClose : let s := upS; let g : Page := ⟨.map, 0⟩
    s.Takes .eth g ∧ g.blk ≠ .win ∧ g.inst < pageCount g.blk ∧ s.closing = [] ∧ s.coll = [] ∧ s.procs.procs = [] ∧ s.mgmt.held = [] ∧
      s.mgmt.heldEnt = [] ∧ s.mgmt.msgs = [] ∧ s.enabled g.blk g.inst = false ∧ g.blk ≠ .port ∧ s.resetRefused g = false :=
  ⟨takes_of (by decide +kernel), by decide +kernel⟩
theorem witness_PagesOpenAndClose_check : let s := chk ⟨.map, 0⟩; let g : Page := ⟨.map, 0⟩
    s.checking g = true ∧ s.enableReason g true = none ∧ s.closing = [] ∧ s.coll = [] ∧ s.procs.procs = [] ∧ s.mgmt.held = [] := by
  decide +kernel
theorem witness_PagesOpenAndClose_refused : let s := chk ⟨.coll, 0⟩; let g : Page := ⟨.coll, 0⟩
    s.checking g = true ∧ s.enableReason g true = some (8, 4) ∧ s.closing = [] ∧ s.coll = [] ∧ s.procs.procs = [] := by decide +kernel
theorem witness_PagesOpenAndClose_disable : let g : Page := ⟨.pmon, 0⟩; let s := upS.onPg .pmon
    s.Takes .eth g ∧ alwaysOn g.blk = false ∧ s.enabled g.blk g.inst = true ∧ s.dependents g = [] ∧ s.idle g = true ∧
      s.enabled g.blk g.inst = (s.hrd g PG_CTL_ENABLE == 1) ∧ g.blk ≠ .port :=
  ⟨takes_of (by decide +kernel), by decide +kernel⟩
theorem witness_PagesOpenAndClose_quiesced : let g : Page := ⟨.pmon, 0⟩; let s := aft (.pageQuiesce .eth g) (upS.onPg .pmon)
    s.hrd g PG_CTL_QUIESCE = 1 ∧ ignoresQuiesce g.blk = false ∧ s.idle g = true := by decide +kernel
theorem witness_PagesOpenAndClose_busy : let g : Page := ⟨.home, 0⟩
    let s := { (upS.onPg .home).hset g PG_CTL_QUIESCE 1 with home := { txns := [{ id := 1, line := 2, src := .internal, acc := .readUnc 0 64, epoch := 1 }] } }
    s.hrd g PG_CTL_QUIESCE = 1 ∧ ignoresQuiesce g.blk = false ∧ s.idle g = false := by decide +kernel
theorem witness_PagesOpenAndClose_resetting : let g : Page := ⟨.hbm, 3⟩; let s := upS.hset g PG_CTL_SOFT_RESET 1
    s.resetting g = true := by decide +kernel
theorem witness_RegistersFollowTheirTypes : let s := upS.onPg .home; let g : Page := ⟨.home, 0⟩
    s.Takes .eth g ∧ winAt hc.toNat = none ∧ s.rwlLocked g = true ∧
      ∃ d, regAt hc.toNat = some (g, d) ∧ d.blk = some .home ∧ outOfRange d 3 = false :=
  ⟨takes_of (by decide +kernel), by decide +kernel, by decide +kernel, _, rfl, by decide +kernel⟩
theorem witness_RegistersFollowTheirTypes_range : let a := PMON_SMP_CTL_EN.addr; let g : Page := ⟨.pmon, 0⟩
    upS.Takes .eth g ∧ winAt a = none ∧ ∃ d, regAt a = some (g, d) ∧ upS.writeWaits g d = false ∧ outOfRange d 0 = true :=
  ⟨takes_of (by decide +kernel), by decide +kernel, _, rfl, by decide +kernel⟩
theorem witness_RegistersFollowTheirTypes_none : winAt 0x3FFFFFC = none ∧ regAt 0x3FFFFFC = none ∧ upS.mgmtUp = true ∧
    upS.tenantReaches 5 0x100C = false := by decide +kernel
theorem witness_RegistersFollowTheirTypes_locked : let s := aft (.pageLock .eth ⟨.home, 0⟩) upS; let g : Page := ⟨.home, 0⟩
    s.mgmtUp = true ∧ s.profile ≠ profileF ∧ winAt hc.toNat = none ∧ s.hrd (errPage g) PG_CTL_LOCK = 1 ∧
      ∃ d, regAt hc.toNat = some (g, d) ∧ d.flds.any (fun f => f.ty == .w1c) = false ∧ d.blk.isNone = false :=
  ⟨by decide +kernel, by decide +kernel, by decide +kernel, by decide +kernel, _, rfl, by decide +kernel⟩
theorem witness_ReadsLatchAndWritesStage_lo : let a := CLK_TS_LO_TS.addr
    upS.mgmtUp = true ∧ winAt a = none ∧ ∃ g d g' d', regAt a = some (g, d) ∧ d.pair = 1 ∧ maskOf d.flds (fun t => t == .rc) = 0 ∧
      regAt (a + 4) = some (g', d') ∧ d'.pair = 2 ∧ maskOf d'.flds (fun t => t == .rc) = 0 ∧ winAt (a + 4) = none :=
  ⟨by decide +kernel, by decide +kernel, _, _, _, _, rfl, by decide +kernel, by decide +kernel, rfl, by decide +kernel⟩
theorem witness_ReadsLatchAndWritesStage_window : let s := (wst 1 3).set MAP_STAT_PENDING_READY 1
    s.mgmtUp = true ∧ s.profile ≠ profileF ∧ s.hrd ⟨.map, 0⟩ PG_CTL_LOCK ≠ 1 ∧ s.pendHeld = false ∧
      ∃ w, winAt 0x800020 = some (w, 1, 0) ∧ winAt 0x80003C = some (w, 1, 7) ∧ w.no = 1 ∧ w.size = 32 ∧
        Tbl.get? s.mgmt.staging (winKey { path := .eth } w) = some (1, 3) :=
  ⟨by decide +kernel, by decide +kernel, by decide +kernel, by decide +kernel, _, rfl, by decide +kernel, by decide +kernel,
    by decide +kernel, by decide +kernel⟩
theorem witness_ReadsLatchAndWritesStage_message : let g := dg 1 4 []; let h := dg 2 0x3FFFFF0 [4]; let b := dg 3 4 []
    g.sumOk = true ∧ upS.mgrPasses g.srcIp = true ∧ dgMalformed g = false ∧ g.countM1 = 0 ∧ winAt 4 = none ∧ dgMalformed h = false ∧
      dgMalformed b = true ∧ (upS.mgmtWrite { path := .eth } 0x3FFFFF0 4).1.waitCount = upS.waitCount ∧
      ∃ p d, regAt 4 = some (p, d) ∧ d.pair = 0 ∧ maskOf d.flds (fun t => t == .rc) = 0 := by
  refine ⟨?_, ?_, ?_, ?_, ?_, ?_, ?_, ?_, _, _, rfl, ?_⟩ <;> decide +kernel
theorem witness_CountersAreSet : let s := pm
    s.Takes .eth ⟨.pmon, 0⟩ ∧ bit (s.reg PMON_CTL_FREEZE.addr) 2 = false ∧ Tbl.get? s.pmon.stagedLo 255 = some 8 ∧
      s.flag PMON_SMP_CTL_EN = false ∧ 4 ≤ s.rd PMON_SMP_CTL_N ∧ s.rd PMON_SMP_CTL_N ≤ 20 :=
  ⟨takes_of (by decide +kernel), by decide +kernel⟩
theorem witness_CountersAreSet_hbm : upS.Takes .eth ⟨.hbm, 3⟩ := takes_of (by decide +kernel)

end Regs

namespace Mem

def onlyM (s t : State) : Bool := decide (t.map = s.map ∧ t.sec = s.sec ∧ t.procs = s.procs ∧ t.filt = s.filt ∧ t.coll = s.coll ∧
    t.live = s.live ∧ t.pub = s.pub ∧ t.power = s.power ∧ t.pocket = s.pocket ∧ t.fw = s.fw ∧ t.mgmt = s.mgmt ∧ t.qos = s.qos ∧
    t.out = s.out ∧ t.closing = s.closing)
def eg (t : State) : List Msg := (t.port 5).egress.map (·.msg)
theorem test_mem_wr : (let s := memS true; let t := aft (.wr P5 (hd 1 0x10000040) dd) s; onlyM s t && decide (eg t = [.yd 0x06 (replyHdr s (hd 1 0x10000040) 0) []]) && decide (Memory.readLine t.pool.cur.bytes 0x40 = dd ∧ t.home.txns = [] ∧ t.isDirty 0x40 = true ∧ t.pool.tray = s.pool.tray ∧ t.rc = s.rc ∧ t.pool.cur.bytes.length = 17)) = true := by decide +kernel
theorem test_mem_wrMask : (let s := memS true; let t := aft (.wrMask P5 (hd 1 0x10000040) 6 dd) s; onlyM s t && decide (eg t = [.yd 0x06 (replyHdr s (hd 1 0x10000040) 0) []]) && decide (t.pool.cur.bytes.length = 2 ∧ Memory.read t.pool.cur.bytes 0x41 = byteOf dd.toNat 1)) = true := by decide +kernel
theorem test_mem_memWr : (let s := memS false; let t := aft (.memWr P5 4 0x10000040 dd 6 false false) s; onlyM s t && decide (eg t = [.memCmp 4 grNone]) && decide (t.pool.cur.bytes.length = 2 ∧ Memory.read t.pool.cur.bytes 0x41 = byteOf dd.toNat 1)) = true := by decide +kernel
theorem test_mem_rd : (let s := memS true; let t := aft (.rd P5 (hd 1 0x10000040)) s; decide (t.home.txns.map (fun u => (u.line, u.id)) = [(1, s.home.nextId)] ∧ t.pool = s.pool ∧ t.ports = s.ports)) = true := by decide +kernel
theorem test_mem_memInv : (let s := memS false; let t := aft (.memInv P5 1 0x10000040) s; decide (t.home.txns.map (fun u => (u.line, u.src, u.acc, u.phase)) = [(1, .cxlMem 5 1, .readOwn true, .data)] ∧ t.pool = s.pool ∧ t.ports = s.ports)) = true := by decide +kernel
theorem test_mem_cxlIoMemRd : (let s := memS false; let t := aft (.cxlIoMemRd P5 1 0x10000044 60) s; decide (t.home.txns.map (fun u => (u.line, u.src, u.acc, u.phase)) = [(1, .cxlIo 5 1, .readUnc 4 60, .data)] ∧ t.pool = s.pool ∧ t.ports = s.ports)) = true := by decide +kernel
theorem test_mem_rd_2 : (let s0 := memS true; let s := aft (.rd P5 (hd 1 0x10000040)) (aft (.wr P5 (hd 1 0x10000040) dd) s0); let t := aft (.memReadDone (s0.home.nextId+1)) s; decide (t.home.txns = [] ∧ t.pool = s.pool ∧ t.home.dir = s.home.dir ∧ eg t = [.yd 0x06 (replyHdr s (hd 1 0x10000040) 0) [], .yd 0x05 (replyHdr s (hd 1 0x10000040) 0) (lineSlots dd)])) = true := by decide +kernel
theorem test_mem_memRd : (let s0 := memS false; let s := aft (.memRd P5 1 0x10000040 true) s0; let t := aft (.memReadDone (s0.home.nextId)) s; decide (t.home.txns = [] ∧ t.pool = s.pool ∧ t.dirAt 1 = some { st := .m, owner := 5, seq := s.home.dirSeq } ∧ eg t = [.memData 1 0 false, .memCmp 1 grOwn])) = true := by decide +kernel
def asl : List Slot := [BitVec.ofNat 128 (5 + 0 * 2 ^ 16 + 0 * 2^20), 7]
def atS : State := { memS true with live := { (memS true).live with incarns := [(77, 5)] } }
theorem test_mem_atom : (let s := atS; let t := aft (.atom P5 (hd 1 0x10000044) asl) s; atomFormatOk (hd 1 0x10000044) asl && onlyM s t && decide (eg t = [.yd 0x09 (replyHdr s (hd 1 0x10000044) 0) [0]]) && decide (t.pool.cur.bytes = [(0x44, 7)] ∧ t.rc.length = 1 ∧ t.isDirty 0x40 = true)) = true := by decide +kernel
theorem test_mem_atom_2 : (let s := aft (.atom P5 (hd 1 0x10000044) asl) atS; let t := aft (.atom P5 (hd 1 0x10000044) asl) s; decide (eg t = [.yd 0x09 (replyHdr s (hd 1 0x10000044) 0) [0],.yd 0x09 (replyHdr s (hd 1 0x10000044) 256) [0]]) && decide (t.pool = s.pool ∧ t.rc = s.rc ∧ t.home = s.home)) = true := by decide +kernel
theorem witness_WritesReachMemory : let s := memS true; let h := hd 1 0x10000040
    s.ServesT1 P5 0x40 ∧ s.Admits P5 (.wr P5 h dd) ∧ s.Admits P5 (.wrMask P5 h 6 dd) ∧ h.dst = s.ownFeid ∧ h.poison = false ∧
      s.LeadsTo P5 h.arg.toNat 0x40 ∧ (s.readPool s.map.cur 0x40).data = Memory.readLine s.pool.cur.bytes 0x40 :=
  ⟨serves_of (by decide +kernel), admits_of (by decide +kernel), admits_of (by decide +kernel), by decide +kernel, by decide +kernel,
    leads_of (by decide +kernel), by decide +kernel⟩
theorem witness_WritesReachMemory_cxl : let s := memS false
    s.ServesT1 P5 0x40 ∧ s.Admits P5 (.memWr P5 4 0x10000040 dd 6 false false) ∧ s.LeadsTo P5 0x10000040 0x40 :=
  ⟨serves_of (by decide +kernel), admits_of (by decide +kernel), leads_of (by decide +kernel)⟩
theorem witness_ReadsAreOrdered : let s := memS true; let h := hd 1 0x10000040
    s.ServesT1 P5 0x40 ∧ s.Admits P5 (.rd P5 h) ∧ h.dst = s.ownFeid ∧ s.summaryLine h = none ∧ s.LeadsTo P5 h.arg.toNat 0x40 :=
  ⟨serves_of (by decide +kernel), admits_of (by decide +kernel), by decide +kernel, by decide +kernel, leads_of (by decide +kernel)⟩
theorem witness_ReadsAreOrdered_cxl : let s := memS false
    s.ServesT1 P5 0x44 ∧ s.Admits P5 (.memRd P5 1 0x10000044 true) ∧ s.Admits P5 (.memInv P5 1 0x10000044) ∧
      s.Admits P5 (.cxlIoMemRd P5 1 0x10000044 60) ∧ s.role 5 ≠ .mgmt ∧ s.LeadsTo P5 0x10000044 0x44 :=
  ⟨serves_of (by decide +kernel), admits_of (by decide +kernel), admits_of (by decide +kernel), admits_of (by decide +kernel),
    by decide +kernel, leads_of (by decide +kernel)⟩
theorem witness_ReadsAnswer : let s := aft (.memRd P5 1 0x10000040 true) (memS false)
    ∃ u, s.home.txns = [u] ∧ u.phase = .data ∧ u.epoch = s.epoch ∧ u.src = .cxlMem 5 1 ∧ u.acc = .readOwn false ∧
      Tbl.get? s.pool.ue u.line = none ∧ s.dirAt u.line = none ∧ (s.readPool s.map.cur (64 * u.line)).overrun = false ∧
      (s.readPool s.map.cur (64 * u.line)).underrun = false :=
  ⟨_, rfl, by decide +kernel⟩
theorem witness_AtomicsRunOnce : let s := atS; let h := hd 1 0x10000044
    s.Admits P5 (.atom P5 h asl) ∧ h.dst = s.ownFeid ∧ s.LeadsTo P5 h.arg.toNat 0x44 ∧ atomFormatOk h asl = true ∧
      s.enabled .atom = true ∧ s.quiescing .atom = false ∧ atomAckTag asl = none ∧
      Tbl.get? s.live.incarns h.src.toNat = some (atomIncarn asl) ∧ s.ServesT1 P5 0x44 ∧
      (s.readPool s.map.cur 0x40).data = Memory.readLine s.pool.cur.bytes 0x40 ∧ (s.readPool s.map.cur 0x40).poison = false ∧
      s.rcFind h.src (atomIncarn asl) h.tag = none ∧ s.rcFull h.src = false := by
  refine ⟨admits_of (by decide +kernel), ?_, leads_of (by decide +kernel), ?_, ?_, ?_, ?_, ?_, serves_of (by decide +kernel), ?_,
    ?_, ?_, ?_⟩ <;> decide +kernel
theorem witness_AtomicsRunOnce_duplicate : let s := aft (.atom P5 (hd 1 0x10000044) asl) atS; let h := hd 1 0x10000044
    s.Admits P5 (.atom P5 h asl) ∧ s.enabled .home = true ∧ s.map.cur.portMay 5 (s.map.cur.extent 0) = true ∧
      ∃ e r, s.rcFind h.src (atomIncarn asl) h.tag = some e ∧ e.print_ = atomOp asl + atomSize asl * 16 + h.arg.toNat * 64 ∧
        e.res = some r :=
  ⟨admits_of (by decide +kernel), by decide +kernel, by decide +kernel, _, _, rfl, by decide +kernel, rfl⟩

end Mem

namespace Cxl

def eg (t : State) (p : Nat := 5) : List Msg := (t.port p).egress.map (·.msg)
def mS : State := memS false
def owned (own : Nat) : State := { mS with home := { mS.home with dir := [(1, { st := .m, owner := own, seq := 3 })] } }
def sn : State := let s := owned 5; { s with home := { s.home with snoopsTo := [(5, 1)], txns := [{ id := 4, line := 1, src := .cxlMem 6 2, acc := .readShared, epoch := s.epoch, phase := .snoop, snoops := [5] }] } }
theorem test_cxl_birsp : (sn.gate 5 (.birsp P5 64 true)) = .pass := by decide +kernel
def aftS (c : Instr) (s : State) : State := s.take c
theorem test_cxl_birsp_2 : (let s := sn; let t := s.take (.birsp P5 64 true); decide (t.home.snoopsTo = [] ∧ t.home.txns.map (fun u => (u.snoops, u.phase, u.specBad)) = [([], .data, false)] ∧
      t.dirAt 1 = some { st := .s, sharers := 2 ^ sharerBit 5, owner := 0, seq := 3 } ∧ t.pool = s.pool ∧ t.ports = s.ports)) = true := by decide +kernel
theorem test_cxl_birsp_3 : (let s := sn; let t := s.take (.birsp P5 64 false); decide (t.home.snoopsTo = [] ∧ t.home.txns.map (fun u => (u.snoops, u.phase)) = [([], .data)] ∧
      t.dirAt 1 = none ∧ t.pool = s.pool ∧ t.ports = s.ports)) = true := by decide +kernel
theorem test_cxl_birsp_4 : (okc (.birsp P5 70 false) mS (mS.count { blk := .home, code := 0x08, addr := some (64 * (70 / 64)), master := some (1, bdPbr (mS.map.cur.bind 5)) })) = true := by decide +kernel
theorem test_cxl_memWr : (let s := owned 5; let t := aft (.memWr P5 4 0x10000040 dd fullMask false true) s; decide (t.dirAt 1 = none ∧ t.isDirty 64 = true ∧ t.pool.tray = s.pool.tray ∧ Memory.readLine t.pool.cur.bytes 64 = dd ∧ (t.port 5).egress = [{ q := 1, msg := .memCmp 4 grNone }])) = true := by decide +kernel
theorem test_cxl_biconflict : (let s := mS; let t := aft (.biconflict P5 4 0x40) s; decide (t = { s with ports := t.ports } ∧ (t.port 5).egress = [{ q := 1, msg := .biConflictAck 64 }])) = true := by decide +kernel
theorem test_cxl_cxlIoMemWr : (let s := mS; let t := aft (.cxlIoMemWr P5 0x10000078 [(0xAABBCCDD, 15), (0x11223344, 5)] false) s; decide (t.ports = s.ports ∧ t.home.txns = [] ∧ t.pool.cur.bytes = [⟨0x78, 0xDD⟩, ⟨0x79, 0xCC⟩, ⟨0x7A, 0xBB⟩, ⟨0x7B, 0xAA⟩, ⟨0x7C, 0x44⟩, ⟨0x7E, 0x22⟩])) = true := by decide +kernel
theorem test_cxl_atomicOp : (let s := mS; let t := aft (.atomicOp P5 9 0x10000048 0 1 7 0) s; decide (t.rc = s.rc ∧ t.home.txns = [] ∧ eg t = [.ioCpl 9 0 (bytesOf 8 0) false] ∧ t.pool.cur.bytes = [⟨0x48, 7⟩])) = true := by decide +kernel
theorem test_cxl_cfgRd : (let s := mS; let t := aft (.cfgRd P5 9 4) s; (eg t).length = 1 ∧ decide (t.pool = s.pool) ∧ decide (t.regs = s.regs)) := by decide +kernel
theorem test_cxl_cfgRd_2 : (let s := mS.set RST_STAT_READY 0; let t := aft (.cfgRd P5 9 4) s; decide (eg t = [.ioCpl 9 2 [] false] ∧ t = { s with ports := t.ports })) = true := by decide +kernel
def trS : State := let s := memS true; { s with home := { s.home with txns := [{ id := 4, line := 2^24*0+3, src := .yd 5 (hd 1 2), acc := .readUnc 0 64, epoch := s.epoch, phase := .tray 0 }] }, tier := { s.tier with t1 := [], trayOps := [{ id := 8, txn := 4, line := 3, port := 17, write := false }] }, pool := { s.pool with tray := { s.pool.tray with bytes := [⟨193, 9⟩] }, cur := { s.pool.cur with bytes := [⟨193, 9⟩] } } }
theorem test_cxl_trayCpl : (let s := trS; let t := aft (.trayCpl 8 .ok) s; decide ( t.home.txns = [] ∧ t.tier.trayOps = [] ∧ t.pool = s.pool ∧ eg t = [(.yd 0x05 (replyHdr s (hd 1 2) 0) (lineSlots (BitVec.ofNat 512 (9*256))))])) = true := by decide +kernel
theorem test_cxl_trayTimeout : (let s := trS; let t := aft (.trayTimeout 8) s; match s.placeOf s.map.cur 192 with | .one _ _ => decide ( t.home.txns = [] ∧ t.tier.trayOps = [] ∧ t.pool = s.pool ∧ eg t = [(.yd 0x05 (replyHdr s (hd 1 2) stPoisoned.toNat true) (lineSlots 0))]) | _ => false) = true := by decide +kernel
theorem test_cxl_trayCpl_2 : (let s := trS; let t := aft (.trayCpl 8 .poison) s; match s.placeOf s.map.cur 192 with | .one _ _ => decide ( t.home.txns = [] ∧ t.tier.trayOps = [] ∧ t.pool = s.pool ∧ eg t = [(.yd 0x05 (replyHdr s (hd 1 2) stPoisoned.toNat true) (lineSlots 0))]) | _ => false) = true := by decide +kernel
theorem test_cxl_hostCpl : (let s := (mS.ydS 6 2 88); let s := { s with map := { s.map with proxied := [(5, 3, .yd 6 (hd 1 2), .readUnc 0 64)] } }; let t := aft (.hostCpl P5 3 true [1,2]) s; decide (t.map.proxied = [] ∧ t.pool = s.pool ∧ t.home = s.home ∧ eg t 6 = [(.yd 0x05 (replyHdr s (hd 1 2) 0) (lineSlots (lineOf [1,2])))])) = true := by decide +kernel
theorem test_cxl_cplTimeout : (okc (.cplTimeout 5) mS (mS.modPort 5 (fun x => { x with cto := x.cto.filter (fun t => decide (mS.live.interval < t + 500)) ++ [mS.live.interval] }))) = true := by decide +kernel
theorem test_cxl_collWindowWrite : (okc (.collWindowWrite 5 7 0 dd true false) mS (mS.modPort 5 (fun x => { x with collHdr := Tbl.put x.collHdr 7 (bits dd.toNat 63 0, bits dd.toNat 79 64, 0) }))) = true := by decide +kernel

/-- Port 6, a CXL leaf of port 5's tenant with PBR ID 0x123. -/
def pbS : State := let s := mS.cxlS 6 0; { s with map := { s.map with cur := { s.map.cur with binds := s.map.cur.binds ++ [(6, 1 + 0x123 * 2 ^ 4 + 88 * 2 ^ 16 + 1 * 2 ^ 32)] } } }
theorem test_cxl_memRd : (let s := pbS; let t := aft (.memRd P5 3 0x1044 true (some 0x123)) s; decide ((eg t 6).length = 1 ∧ ((eg t 6).all (fun m => match m with | .ioMemRd _ a n => a == lineAddr 0x1044 && n == 64 | _ => false)) = true ∧ t.home.txns = []) &&
    decide (let u := aft (.memRd P5 3 0x1044 true (some 0x124)) s; u.home = s.home ∧ eg u = [.memData 3 0 true, .memCmp 3 grNone])) = true := by decide +kernel
theorem test_cxl_hostCpl_2 : (let s := pbS; let t := aft (.hostCpl P5 3 true [1, 2] (some 0x123)) s; decide (t = { s with ports := t.ports } ∧ eg t 6 = [.ioCpl 3 0 [1, 2] false])) = true := by decide +kernel
theorem witness_HoldersAnswer : let s := sn
    s.enabled .home = true ∧ s.Admits P5 (.birsp P5 70 true) ∧ s.home.snoopsTo = [(5, 1)] ∧
      (∃ u, s.home.txns = [u] ∧ u.line = 1 ∧ u.phase = .snoop ∧ u.snoops = [5] ∧ u.acc = .readShared ∧ u.fwd = none ∧ u.spec = false ∧
        u.specDone = false ∧ u.epoch = s.epoch) ∧
      (∃ e, s.dirAt 1 = some e ∧ e.st = .m ∧ e.owner = 5) ∧ (Tbl.get? s.tier.t1 (pageNo 64)).isSome = true :=
  ⟨by decide +kernel, admits_of (by decide +kernel), by decide +kernel, ⟨_, rfl, by decide +kernel⟩, ⟨_, rfl, by decide +kernel⟩,
    by decide +kernel⟩
theorem witness_HoldersAnswer_late : mS.Admits P5 (.birsp P5 70 false) ∧ mS.home.snoopsTo.contains (5, 1) = false :=
  ⟨admits_of (by decide +kernel), by decide +kernel⟩
theorem witness_HoldersAnswer_writeback : let s := owned 5
    s.Admits P5 (.memWr P5 4 0x10000040 dd fullMask false true) ∧ s.LeadsTo P5 0x10000040 64 ∧ s.role 5 = .leaf ∧ s.home.adopt = [] ∧ s.backEpoch 1 = s.epoch ∧
      Tbl.get s.home.repl.peers (1 / 64) [] = [] ∧ Tbl.get s.home.repl.invWait (1 / 64) [] = [] ∧ s.home.snoopsTo = [] ∧ s.home.txns = [] ∧
      (∃ e, s.dirAt 1 = some e ∧ e.st = .m ∧ e.owner = 5) ∧ (Tbl.get? s.tier.t1 (pageNo 64)).isSome = true ∧
      (s.paged (s.map.cur.extent 0) = true → (s.pageEnt (pageNo 64)).tier ≠ .zero) ∧ exCmpr (s.map.cur.extent 0) = false ∧
      s.keyless (s.map.cur.tenantOf (s.map.cur.extent 0)) = false := by
  refine ⟨admits_of (by decide +kernel), leads_of (by decide +kernel), ?_, ?_, ?_, ?_, ?_, ?_, ?_, ⟨_, rfl, ?_⟩, ?_⟩ <;> decide +kernel
theorem witness_HoldersAnswer_conflict : mS.Admits P5 (.biconflict P5 4 0x40) := admits_of (by decide +kernel)
theorem witness_CxlIoRequests_write : let s := mS; let dws : List (Word × BitVec 4) := [(0xAABBCCDD, 15), (0x11223344, 5)]
    s.ServesT1 P5 0x40 ∧ s.Admits P5 (.cxlIoMemWr P5 0x10000078 dws false) ∧ s.role 5 ≠ .mgmt ∧ dws ≠ [] ∧ 0x10000078 % 64 + 4 * dws.length ≤ 64 ∧
      (∃ e, s.map.cur.route 5 0x10000078 = some e ∧ rtAction e = .pool ∧ 0x40 = 0x10000078 / 64 * 64 - rtBase e + rtOffset e) ∧
      (s.readPool s.map.cur 0x40).data = Memory.readLine s.pool.cur.bytes 0x40 :=
  ⟨serves_of (by decide +kernel), admits_of (by decide +kernel), by decide +kernel, by decide +kernel, by decide +kernel,
    ⟨_, rfl, by decide +kernel⟩, by decide +kernel⟩
theorem witness_CxlIoRequests_atomic : let s := mS
    s.Admits P5 (.atomicOp P5 9 0x10000048 0 1 7 0) ∧ s.ServesT1 P5 0x48 ∧ s.LeadsTo P5 0x10000048 0x48 ∧
      cxlAtomicOk 0 1 0x10000048 = true ∧ s.enabled .atom = true ∧ s.quiescing .atom = false ∧
      (s.readPool s.map.cur 0x40).data = Memory.readLine s.pool.cur.bytes 0x40 ∧ (s.readPool s.map.cur 0x40).poison = false :=
  ⟨admits_of (by decide +kernel), serves_of (by decide +kernel), leads_of (by decide +kernel), by decide +kernel⟩
theorem witness_CxlIoRequests_config : mS.Admits P5 (.cfgRd P5 9 4) ∧ mS.flag RST_STAT_READY = true ∧
    (mS.set RST_STAT_READY 0).Admits P5 (.cfgRd P5 9 4) :=
  ⟨admits_of (by decide +kernel), by decide +kernel, admits_of (by decide +kernel)⟩
theorem witness_CxlIoRequests_pbr : let s := pbS
    s.Admits P5 (.memRd P5 3 0x1040 true (some 0x123)) ∧ s.pbrPort 0x123 = some 6 ∧ s.mayPass 5 6 = true ∧ s.ydUp 6 = false ∧
    s.Admits P5 (.memRd P5 3 0x1040 true (some 0x124)) ∧ s.pbrPort 0x124 = none ∧ s.Admits P5 (.hostCpl P5 3 true [1, 2] (some 0x123)) :=
  ⟨admits_of (by decide +kernel), by decide +kernel, by decide +kernel, by decide +kernel, admits_of (by decide +kernel), by decide +kernel,
    admits_of (by decide +kernel)⟩
theorem witness_CompletionsComeBack_tray : let s := trS
    (∃ o, s.tier.trayOps = [o] ∧ o.write = false ∧ o.area = false ∧ o.txn = 4) ∧
      (∃ u, s.home.txns = [u] ∧ u.id = 4 ∧ u.phase = .tray 0 ∧ u.src = .yd 5 (hd 1 2) ∧ u.acc = .readUnc 0 64 ∧ u.epoch = s.epoch ∧
        u.line = 3 ∧ Tbl.get? s.pool.ue u.line = none) ∧
      (Tbl.get? s.tier.t1 (pageNo 192)).isSome = false ∧ (s.readPool s.map.cur 192).overrun = false ∧
      (s.readPool s.map.cur 192).underrun = false ∧ ∃ port addr, s.placeOf s.map.cur 192 = .one port addr :=
  ⟨⟨_, rfl, by decide +kernel⟩, ⟨_, rfl, by decide +kernel⟩, by decide +kernel, by decide +kernel, by decide +kernel, _, _, rfl⟩
def prS : State := let s := mS.ydS 6 2 88; { s with map := { s.map with proxied := [(5, 3, .yd 6 (hd 1 2), .readUnc 0 64)] } }
theorem witness_CompletionsComeBack_host : prS.Admits P5 (.hostCpl P5 3 true [1, 2]) ∧
    prS.map.proxied = [(5, 3, .yd 6 (hd 1 2), .readUnc 0 64)] := ⟨admits_of (by decide +kernel), by decide +kernel⟩
theorem witness_CompletionsComeBack_window : mS.enabled .live = false ∧ mS.Admits P5 (.collWindowWrite P5 7 0 dd true false) ∧
    mS.quiescing .coll = false := ⟨by decide +kernel, admits_of (by decide +kernel), by decide +kernel⟩

end Cxl

namespace Msgs

def eg (t : State) (p : Nat := 5) : List Msg := (t.port p).egress.map (·.msg)
def two : State := let s := memS true; let t := (s.ydS 6 2 88); { t with map := { t.map with cur := { t.map.cur with binds := t.map.cur.binds ++ [(6, 1 + 4 * 2 ^ 4 + 88 * 2 ^ 16 + 1 * 2 ^ 32)] } } }
def h88 : Hdr := { dst := 88, src := 77, tag := 3, arg := 0 }
theorem test_msgs_rsp : two.portOfFeid 88 = some 6 ∧ two.gate 5 (.rsp P5 h88) = .pass := by decide +kernel
def passB (c : Instr) (m : Msg) : Bool := let s := two; let t := aft c s; decide (eg t 6 = [m] ∧ t.port 5 = s.port 5 ∧ t.pool = s.pool ∧ t.home = s.home ∧ t.rc = s.rc ∧ t.regs = s.regs)
theorem test_msgs_rspData : (passB (.rspData P5 h88 dd) (.yd 5 h88 (lineSlots dd)) && passB (.rsp P5 h88) (.yd 6 h88 []) && passB (.atomRsp P5 h88 [3]) (.yd 9 h88 [3]) && passB (.atomAck P5 h88) (.yd 0xA h88 []) && passB (.pubRsp P5 h88 [4]) (.yd 0xD h88 [4]) && passB (.collRes P5 h88 [4]) (.yd 0x19 h88 [4])) = true := by decide +kernel
def prox (a : Access) : State := { two with map := { two.map with proxied := [(256+77, 3, .cxlMem 6 9, a)] } }
def h9 (arg : Nat) : Hdr := { dst := 9, src := 77, tag := 3, arg := BitVec.ofNat 64 arg }
theorem test_msgs_rspData_2 : (let t := aft (.rspData P5 (h9 0) dd) (prox .readShared); decide (eg t 6 = [.memData 9 dd false, .memCmp 9 grShared] ∧ t.map.proxied = [] ∧ t.pool = two.pool)) = true := by decide +kernel
theorem test_msgs_rsp_2 : (let t := aft (.rsp P5 (h9 0)) (prox (.write dd 1 false)); decide (eg t 6 = [.memCmp 9 grNone] ∧ t.map.proxied = [] ∧ t.pool = two.pool)) = true := by decide +kernel
theorem test_msgs_atomRsp : (let s := two; let t := aft (.atomRsp P5 (h9 0) [3]) s; decide (eg t = [.yd 0x0A (s.ownHdr 77 3 (s.rd LIVE_INCARN_INCARN + 3 * (2 ^ 16 + 2 ^ 32 + 2 ^ 48))) []] ∧ t = { s with ports := t.ports })) = true := by decide +kernel
theorem test_msgs_pubRsp : (let s := two; let t := aft (.pubRsp P5 (h9 3) [3]) s; decide (eg t = [.yd 0x0A (s.ownHdr 77 3 (s.rd LIVE_INCARN_INCARN + 3 * (2 ^ 16 + 2 ^ 32 + 2 ^ 48))) []] ∧ t = { s with ports := t.ports })) = true := by decide +kernel
theorem test_msgs_pubRsp_2 : (let s := two.mapRepl (fun r => {r with asked := [(77*2^36+3, 65539, 3)]}); okc (.pubRsp P5 (h9 0x1110) [3]) s (s.mapRepl (fun r => {r with asked := []}))) = true := by decide +kernel
theorem test_msgs_atomAck : (let s := {two with live := { two.live with incarns := [(77, 4)] }, rc := [{src:=77,incarn:=4,tag:=1,print_:=0},{src:=77,incarn:=4,tag:=2,print_:=0},{src:=77,incarn:=4,tag:=3,print_:=0},{src:=77,incarn:=5,tag:=1,print_:=0}]}; let t := aft (.atomAck P5 (h9 (4 + 1*2^16+2*2^32+9*2^48))) s; decide (t.rc.length = 2 ∧ t = {s with rc := t.rc})) = true := by decide +kernel
def h68 (arg : Nat) : Hdr := { dst := 9, src := 88, tag := 3, arg := BitVec.ofNat 64 arg }
def P6 : PortId := 6
def rg (vs : List (Nat × List Nat)) (pins : List Pin) : State := let s := (two.onPg .pub).onPg .repl; let s := s.set DEV_ID_DEVICE_ID 2; { s with pub := { s.pub with regions := [(7, { tenant := 1, cur := 4, retain := 3, versions := vs })], pins := pins }, live := { s.live with incarns := [(88, 6)] } }
def rid : Nat := 2 * 2^20 + 7
def ah (k : Nat) : Hdr := h68 (k + rid * 2^16 + 6 * 2^48)
def sl1 (ver count addr : Nat) : Slot := BitVec.ofNat 128 (ver + 1 * 2^32 + count * 2^48 + addr * 2^64)
def ans (s : State) (h : Hdr) (st : Byte) (ver count : Nat) : Msg := .yd 0x0D (replyHdr s h (pubRspArg (pubKind h) st (pubRegion h) false false)) [BitVec.ofNat 128 (ver + count * 2 ^ 32)]
theorem test_msgs_publish : (let s := rg [(4,[])] []; let t := aft (.publish P6 (ah 1) [sl1 3 0 0]) s; decide (s.region (pubRegion (ah 1)) = some { tenant := 1, cur := 4, retain := 3, versions := [(4,[])] } ∧ pubTenant [sl1 3 0 0] = 1 ∧ eg t 6 = [ans s (ah 1) stConflict 4 0] ∧ t.pub = s.pub)) = true := by decide +kernel
theorem test_msgs_publish_2 : (let s := rg [(4,[])] [{feid := 88, incarn := 6, region := rid, ver := 4, count := 1}]; let t := aft (.publish P6 (ah 1) [sl1 4 1 0, 0]) s; decide ((pubInline [sl1 4 1 0, 0]).all (s.listable 1 7) = true ∧ eg t 6 = [ans s (ah 1) stOk 5 1] ∧ (Tbl.get? t.pub.regions 7).map (fun r => (r.cur, r.versions)) = some (5, [(5,[0]),(4,[])]))) = true := by decide +kernel
theorem test_msgs_openReq : (let s := rg [(4,[0])] []; let t := aft (.openReq P6 (ah 2) [sl1 0 0 0]) s; decide (eg t 6 = [ans s (ah 2) stOk 4 1] ∧ t.pub.regions = s.pub.regions ∧ t.pub.pins = [{feid := 88, incarn := 6, region := rid, ver := 4, count := 1}])) = true := by decide +kernel
theorem test_msgs_close : (let s := rg [(4,[0])] [{feid := 88, incarn := 6, region := rid, ver := 4, count := 1}]; let t := aft (.close P6 (ah 3) [sl1 4 0 0]) s; decide (eg t 6 = [ans s (ah 3) stOk 4 0] ∧ t.pub.regions = s.pub.regions ∧ t.pub.pins = [])) = true := by decide +kernel
def ack (s : State) (h : Hdr) (k : Nat) (st : Byte) (r : Nat) : Queued := { q := 1, msg := .yd 0x0D (replyHdr s h (pubRspArg k st r false false)) [0] }
theorem test_msgs_replReq : (let s := ((rg [] []).set REPL_CTL_PEER_GRANT_EN 1).mapRepl (fun r => {r with cands := [5]}); let h := h68 (0x10 + 5*256); let t := aft (.replReq P6 h [0]) s; decide ((t.port 6).egress = [ack s h 0x10 stOk 0] ∧ t = { s with ports := t.ports, home := t.home } ∧ t.home.repl = { s.home.repl with peers := Tbl.put s.home.repl.peers (pubPage h) [h.src.toNat] })) = true := by decide +kernel
theorem test_msgs_replReq_2 : (let s := (rg [] []).set REPL_CTL_PEER_GRANT_EN 0; let h := h68 (0x10 + 5*256); let t := aft (.replReq P6 h [0]) s; decide ((t.port 6).egress = [ack s h 0x10 stDenied 0] ∧ t = { s with ports := t.ports})) = true := by decide +kernel
theorem test_msgs_replInv : (let s := (rg [] []); let h := h68 (0x11 + 5*256); let t := aft (.replInv P6 h [0]) s; decide ((t.port 6).egress = [ack s h 0x11 stOk 0] ∧ t = { s with ports := t.ports, home := t.home })) = true := by decide +kernel
theorem test_msgs_rgnInv : (let s := { (rg [] []) with pub := { (rg [] []).pub with replicas := [(replicaKey rid 3, {ver := 3, exts := [], home := 88})] } }; let h := h68 (0x12 + rid * 2^16 + 6 * 2^48); let t := aft (.rgnInv P6 h [0]) s; decide ((t.port 6).egress = [ack s h 0x12 stOk rid] ∧ t.pub.replicas = [(replicaKey rid 3, {ver := 3, exts := [], home := 88, alive := false})] ∧ t.replicaFor h [0] = none)) = true := by decide +kernel
def trS : State := let s := two; let s := ((s.onPg .ctx 3).onPg .core 0).onPg .home; { s with map := { s.map with cur := { s.map.cur with
      slices := [(0, 1 + 1 * 2 ^ 16 + 1 * 2^64)]
      binds := [(5, 1 + 3 * 2 ^ 4 + 77 * 2 ^ 16 + 1 * 2 ^ 32 + 3 * 2^48 + 1 * 2^64 + 1 * 2 ^ 256)]
      routes := s.map.cur.routes ++ [(1, 1 + 3 * 2 ^ 1 + 0x20000000 * 2 ^ 64 + 0x2FFFFFFF * 2 ^ 128)] } } }
def trg : Nat := 8 * 0 + 5 * 2^32 + 1 * 2^160 
theorem test_msgs_trigger : (let s := trS; let h : Hdr := h9 (0x20000000 + 4096 * 4); let t := aft (.trigger .yd P5 h dd true) s; decide ((s.trigVerdict 5 4 dd.toNat false true).event = 9 ∧ t.procs = s.procs ∧ t.tally .port 9 5 = 1 ∧ eg t = [.yd 0x06 (replyHdr s h stDenied.toNat) []])) = true := by decide +kernel
def trw : Nat := 0x1000 + 2 * 2 ^ 48 + 5 * 2 ^ 96 + 0x2000 * 2 ^ 128
theorem test_msgs_trigger_2 : (let s := trS; let h : Hdr := h9 (0x20000000 + 4096 * 3); let t := aft (.trigger .yd P5 h (BitVec.ofNat 512 trw) true) s; decide (t.procsOf 3 = [{ id := s.procs.nextId, trig := trw, epoch := s.epoch }] ∧ t.rd CTX_QSEQ_LAST_SEQ 3 = 5 ∧ t.pool = s.pool ∧ t.home = s.home ∧ eg t = [.yd 0x06 (replyHdr s h stOk.toNat) []])) = true := by decide +kernel
def bgS (op : Option CollOp) : State := let s := (two.onPg .coll); { s with coll := [(9, { tenant := 1, kind := false, first := 0, size := 2, parent := 0xFF, bcast := 0, ents := [{ port := 5, rank := 0, count := 1, resAddr := 0 }, { port := 6, rank := 1, count := 1, resAddr := 0 }], next := 3, op := op })] }
def bh : Hdr := h9 (9 + 4 * 2^12)
theorem test_msgs_coll : (let s := bgS none; let t := aft (.coll P5 bh [1]) s; decide (t = { s with coll := t.coll } ∧ ((t.group 9).bind (fun g => g.op)).map (fun o => (o.cop, o.chunks.length, o.sent)) = some (4, 1, []))) = true := by decide +kernel
theorem test_msgs_coll_2 : (let s := bgS (some { cop := copBarrier, rop := 0, ty := 0, outTy := 0, dM1 := 0, exact := false, nchunk := 1, seq := 3, chunks := [(1, 0, 7, false)] }); let t := aft (.coll P5 bh [1]) s; decide ((t.group 9).map (fun g => (g.op, g.next)) = some (none, 4) ∧ (eg t 5).length = 1 ∧ (eg t 6).length = 1 ∧ t.tally .coll 1 = 1 ∧ (t.port 5).egress.map (·.q) = [2])) = true := by decide +kernel
theorem test_msgs_ydFence : (let s := two; okc (.ydFence P5 77) s s) = true := by decide +kernel
def bgP (op : CollOp) : State := let s := bgS (some op); { s with coll := s.coll.map (fun g => (g.1, { g.2 with parent := 5 })) }
def op1 : CollOp := { cop := copBarrier, rop := 0, ty := 0, outTy := 0, dM1 := 0, exact := false, nchunk := 1, seq := 3, chunks := [(1, 0, 7, false)] }
def ah9 : Hdr := h9 (9 + stAborted.toNat * 2 ^ 12)
theorem test_msgs_collRes : (let s := bgP op1; let t := aft (.collRes P5 ah9 [0]) s; decide ((t.group 9).map (fun g => (g.op, g.next)) = some (none, 4) ∧ t.pool = s.pool)) = true := by decide +kernel
def busy : State := { two with home := { two.home with txns := [{ id := 3, line := 1, src := .yd 6 (hd 1 2), acc := .readShared, epoch := two.epoch, phase := .data }, { id := 4, line := 1, src := .yd 5 (hd 1 2), acc := .readShared, epoch := two.epoch }] } }
theorem test_msgs_ydFence_2 : (let s := busy; let t := aft (.ydFence P5 77) s; decide (s.fenceClear 5 77 = false ∧ t = { s with ports := t.ports } ∧ t.fencing 5 77 = true)) = true := by decide +kernel
theorem witness_ResponsesComeBack_ResponsesPass : h88.dst ≠ two.ownFeid ∧ two.portOfFeid h88.dst = some 6 ∧ two.pub.fwd = [] ∧ two.mayPass 5 6 = true ∧
    two.Admits P5 (.rspData P5 h88 dd) ∧ two.Admits P5 (.rsp P5 h88) ∧ two.Admits P5 (.atomRsp P5 h88 [3]) ∧ two.Admits P5 (.atomAck P5 h88) ∧
    two.Admits P5 (.pubRsp P5 h88 [4]) ∧ two.Admits P5 (.collRes P5 h88 [4]) :=
  ⟨by decide +kernel, by decide +kernel, by decide +kernel, by decide +kernel, admits_of (by decide +kernel), admits_of (by decide +kernel),
    admits_of (by decide +kernel), admits_of (by decide +kernel), admits_of (by decide +kernel), admits_of (by decide +kernel)⟩
/-- Port 6 of another tenant. -/
def twoX : State := { two with map := { two.map with cur := { two.map.cur with binds := (memS true).map.cur.binds ++ [(6, 1 + 4 * 2 ^ 4 + 88 * 2 ^ 16 + 2 * 2 ^ 32)] } } }
theorem witness_ResponsesComeBack_ResponsesPass_denied : h88.dst ≠ twoX.ownFeid ∧ twoX.portOfFeid h88.dst = some 6 ∧ twoX.mayPass 5 6 = false ∧
    twoX.Admits P5 (.rsp P5 h88) := ⟨by decide +kernel, by decide +kernel, by decide +kernel, admits_of (by decide +kernel)⟩
theorem witness_ResponsesComeBack_AnswersComeBack : let s := prox .readShared; let h := h9 0
    h.dst = s.ownFeid ∧ s.Admits P5 (.rspData P5 h dd) ∧ s.map.proxied = [(256 + h.src.toNat, h.tag, .cxlMem 6 9, .readShared)] ∧
      h.poison = false ∧ BitVec.ofNat 8 h.arg.toNat = stOk ∧ (prox (.write dd 1 false)).Admits P5 (.rsp P5 h) :=
  ⟨by decide +kernel, admits_of (by decide +kernel), by decide +kernel, by decide +kernel, by decide +kernel, admits_of (by decide +kernel)⟩
theorem witness_ResponsesComeBack_AnswersComeBack_own : let s := two
    s.Admits P5 (.atomRsp P5 (h9 0) [3]) ∧ s.map.proxied = [] ∧ s.portOfFeid 77 = some 5 ∧ s.Admits P5 (.pubRsp P5 (h9 3) [3]) ∧
      pubKind (h9 3) = 0x03 ∧ (let s := { two with live := { two.live with incarns := [(77, 4)] } }; let h := h9 4
        s.Admits P5 (.atomAck P5 h) ∧ Tbl.get? s.live.incarns h.src.toNat = some (BitVec.ofNat 16 (bits h.arg.toNat 15 0))) :=
  ⟨admits_of (by decide +kernel), by decide +kernel, by decide +kernel, admits_of (by decide +kernel), by decide +kernel,
    admits_of (by decide +kernel), by decide +kernel⟩
theorem witness_ResponsesComeBack_AnswersComeBack_refused : let s := two.mapRepl (fun r => { r with asked := [(77 * 2 ^ 36 + 3, 65539, 3)] }); let h := h9 0x1110
    s.Admits P5 (.pubRsp P5 h [3]) ∧ pubKind h = 0x10 ∧ bits h.arg.toNat 15 8 ≠ 0 ∧ (77 * 2 ^ 36 + 3) / 2 ^ 36 = h.src.toNat ∧
      s.home.repl.asked = [(77 * 2 ^ 36 + 3, 65539, h.tag)] :=
  ⟨admits_of (by decide +kernel), by decide +kernel, by decide +kernel, by decide +kernel, by decide +kernel⟩
/-- What RegionsVersion asks of region 7 of `rg`. -/
def regionOk (s : State) (k : Nat) (sl : List Slot) (r : Region) : Bool :=
  let h := ah k
  decide (s.role 6 = .trunk ∧ h.dst = s.ownFeid ∧ s.enabled .pub = true ∧ s.quiescing .pub = false ∧ s.enabled .home = true) &&
  decide (s.region (pubRegion h) = some r ∧ r.closing = false ∧ r.running = none ∧ r.tenant = pubTenant sl ∧ pubKind h = k) &&
  decide (pubShapeOk (pubKind h) sl = true ∧ Tbl.get? s.live.incarns h.src.toNat = some (pubIncarn h)) &&
  decide (s.rcFind h.src (pubIncarn h) h.tag = none ∧ s.rcFull h.src = false ∧ s.writesWait h.src = false)
theorem witness_RegionsVersion_conflict : let s := rg [(4, [])] []
    regionOk s 1 [sl1 3 0 0] { tenant := 1, cur := 4, retain := 3, versions := [(4, [])] } = true ∧ pubVer [sl1 3 0 0] ≠ 4 ∧
      s.Admits P6 (.publish P6 (ah 1) [sl1 3 0 0]) := ⟨by decide +kernel, by decide +kernel, admits_of (by decide +kernel)⟩
theorem witness_RegionsVersion_publish : let s := rg [(4, [])] [{ feid := 88, incarn := 6, region := rid, ver := 4, count := 1 }]
    let sl := [sl1 4 1 0, 0]
    regionOk s 1 sl { tenant := 1, cur := 4, retain := 3, versions := [(4, [])] } = true ∧ pubVer sl = 4 ∧ pubCount sl ≤ 12 ∧
      (pubInline sl).all (s.listable 1 7) = true ∧ s.home.dir = [] ∧ s.home.txns = [] ∧ s.pinned (s.regionId 7) 4 = true ∧
      s.Admits P6 (.publish P6 (ah 1) sl) := by
  refine ⟨?_, ?_, ?_, ?_, ?_, ?_, ?_, admits_of (by decide +kernel)⟩ <;> decide +kernel
theorem witness_RegionsVersion_open : let s := rg [(4, [0])] []; let sl := [sl1 0 0 0]
    regionOk s 2 sl { tenant := 1, cur := 4, retain := 3, versions := [(4, [0])] } = true ∧ pubVer sl = 0 ∧ pubAddr sl = 0 ∧ s.pub.pins = [] ∧
      s.Admits P6 (.openReq P6 (ah 2) sl) :=
  ⟨by decide +kernel, by decide +kernel, by decide +kernel, by decide +kernel, admits_of (by decide +kernel)⟩
theorem witness_RegionsVersion_close : let s := rg [(4, [0])] [{ feid := 88, incarn := 6, region := rid, ver := 4, count := 1 }]
    let sl := [sl1 4 0 0]
    regionOk s 3 sl { tenant := 1, cur := 4, retain := 3, versions := [(4, [0])] } = true ∧ pubVer sl = 4 ∧
      s.pub.pins = [{ feid := 88, incarn := pubIncarn (ah 3), region := pubRegion (ah 3), ver := 4, count := 1 }] ∧
      s.Admits P6 (.close P6 (ah 3) sl) := ⟨by decide +kernel, by decide +kernel, by decide +kernel, admits_of (by decide +kernel)⟩
theorem witness_ReplicasAreAsked_grant : let s := ((rg [] []).set REPL_CTL_PEER_GRANT_EN 1).mapRepl (fun r => { r with cands := [5] })
    let h := h68 (0x10 + 5 * 256)
    s.role 6 = .trunk ∧ h.dst = s.ownFeid ∧ s.quiescing .pub = false ∧ s.enabled .home = true ∧ pubKind h = 0x10 ∧
      s.flag REPL_CTL_PEER_GRANT_EN = true ∧ s.enabled .repl = true ∧ s.home.repl.cands.contains (pubPage h) = true ∧
      Tbl.get s.home.repl.peers (pubPage h) [] = [] ∧ pubShapeOk 0x10 [0] = true ∧ s.Admits P6 (.replReq P6 h [0]) := by
  refine ⟨?_, ?_, ?_, ?_, ?_, ?_, ?_, ?_, ?_, ?_, admits_of (by decide +kernel)⟩ <;> decide +kernel
theorem witness_ReplicasAreAsked_invalidate : let s := { rg [] [] with pub := { (rg [] []).pub with replicas := [(replicaKey rid 3, { ver := 3, exts := [], home := 88 })] } }
    pubKind (h68 (0x11 + 5 * 256)) = 0x11 ∧ pubShapeOk 0x11 [0] = true ∧ s.Admits P6 (.replInv P6 (h68 (0x11 + 5 * 256)) [0]) ∧
      (let h := h68 (0x12 + rid * 2 ^ 16 + 6 * 2 ^ 48)
       pubKind h = 0x12 ∧ pubRegion h = rid ∧ Tbl.get? s.live.incarns 88 = some (pubIncarn h) ∧ pubShapeOk 0x12 [0] = true ∧
        s.Admits P6 (.rgnInv P6 h [0])) :=
  ⟨by decide +kernel, by decide +kernel, admits_of (by decide +kernel), by decide +kernel, by decide +kernel, by decide +kernel, by decide +kernel, admits_of (by decide +kernel)⟩
theorem witness_TriggersQueue : let s := trS; let h := h9 (0x20000000 + 4096 * 3); let d : Line := BitVec.ofNat 512 trw
    s.Admits P5 (.trigger .yd P5 h d true) ∧ h.dst = s.ownFeid ∧
      (∃ e, s.map.cur.route 5 h.arg.toNat = some e ∧ rtAction e = .trig ∧ (h.arg.toNat - rtBase e) / 4096 = 3) ∧
      (s.enabled .ctx 3 && s.quiescing .ctx 3) = false ∧ (s.trigVerdict 5 3 d.toNat h.poison true).event = 1 ∧
      s.coreless (s.rd CTX_BIND_SLICE 3) = false :=
  ⟨admits_of (by decide +kernel), by decide +kernel, ⟨_, rfl, by decide +kernel⟩, by decide +kernel⟩
/-- What GroupsAndFences asks of group 9 of `bgS`. -/
def groupOk (s : State) (h : Hdr) (g : Group) : Bool :=
  decide (h.dst = s.ownFeid ∧ h.poison = false ∧ s.enabled .coll = true ∧ s.quiescing .coll = false ∧ s.group (bits h.arg.toNat 11 0) = some g) &&
  decide (g.fenced = false ∧ g.kind = false ∧ h.tag.toNat = g.next ∧ bdValid (s.map.cur.bind 5) = true) &&
  decide (bdTenant (s.map.cur.bind 5) = g.tenant ∧ s.ydUp 5 = true ∧ s.ydUp 6 = true)
def grp (op : Option CollOp) (parent : Nat) : Group := { tenant := 1, kind := false, first := 0, size := 2, parent := parent, bcast := 0, ents := [{ port := 5, rank := 0, count := 1, resAddr := 0 }, { port := 6, rank := 1, count := 1, resAddr := 0 }], next := 3, op := op }
theorem witness_GroupsAndFences_barrier : groupOk (bgS none) bh (grp none 0xFF) = true ∧ groupOk (bgS (some op1)) bh (grp (some op1) 0xFF) = true ∧
    bits bh.arg.toNat 63 12 = copBarrier ∧ (bgS none).openOps < 128 ∧ (bgS none).Admits P5 (.coll P5 bh [1]) ∧
    (bgS (some op1)).Admits P5 (.coll P5 bh [1]) :=
  ⟨by decide +kernel, by decide +kernel, by decide +kernel, by decide +kernel, admits_of (by decide +kernel), admits_of (by decide +kernel)⟩
theorem witness_GroupsAndFences_parent : groupOk (bgP op1) ah9 (grp (some op1) 5) = true ∧ BitVec.ofNat 8 (bits ah9.arg.toNat 19 12) = stAborted ∧
    (bgP op1).Admits P5 (.collRes P5 ah9 [0]) := ⟨by decide +kernel, by decide +kernel, admits_of (by decide +kernel)⟩
theorem witness_GroupsAndFences_empty : let s := two
    s.Admits P5 (.ydFence P5 77) ∧ (s.home.txns = [] ∧ s.home.blocked = [] ∧ s.map.held = [] ∧ s.map.ho = [] ∧ (s.port 5).held = [] ∧
      s.pub.regions = [] ∧ s.pub.listWait = [] ∧ (∀ e ∈ s.rc, e.dups = []) ∧ (∀ q ∈ s.ports, q.2.egress = [] ∧ q.2.replay = [])) :=
  ⟨admits_of (by decide +kernel), by decide +kernel⟩
theorem witness_GroupsAndFences_fence : two.fenceClear 5 77 = true ∧ two.Admits P5 (.ydFence P5 77) ∧ busy.fenceClear 5 77 = false ∧
    busy.Admits P5 (.ydFence P5 77) := ⟨by decide +kernel, admits_of (by decide +kernel), by decide +kernel, admits_of (by decide +kernel)⟩

end Msgs

namespace Desc

def c2 : CoreId := 2
def x3 : CtxId := 3
/-- cores 2 and 3 serve slice 0 -/
def coS : State :=
  let s := ((((memS true).onPg .core 2).onPg .core 3).onPg .ctx 3).set CORE_STAT_PSTATE 0 2
  { s with map := { s.map with cur := { s.map.cur with slices := [(0, 1 + 1 * 2 ^ 16 + 12 * 2 ^ 64)] } } }
def trg : Nat := 0x1000 + 2 * 2 ^ 48 + 5 * 2 ^ 96 + 0x2000 * 2 ^ 128
def pr0 : Proc := { id := 7, trig := trg, epoch := 1 }
def withP (p : Proc) : State := { coS with procs := { coS.procs with procs := [(3, [p])] } }
def runP (p : Proc) : State :=
  let s := ((coS.set CORE_STAT_RUNNING 1 2).set CORE_STAT_CTX 3 2)
  { s with procs := { s.procs with procs := [(3, [{ p with phase := .running 2 }])], running := [(2, (3, 7))] } }
def memB (s : State) (a : Nat) (l : List Byte) : State :=
  { s with pool := { s.pool with cur := { s.pool.cur with bytes := Memory.writeBytes s.pool.cur.bytes a l } } }
def pOf (t : State) : Option Proc := t.proc 3 7
def onlyP (s t : State) : Bool := decide (t.pool = s.pool ∧ t.ports = s.ports ∧ t.home.dir = s.home.dir ∧ t.home.txns = s.home.txns ∧ t.map = s.map ∧ t.sec = s.sec ∧ t.pub = s.pub ∧ t.coll = s.coll) && decide (t.live = s.live ∧ t.power = s.power ∧ t.fw = s.fw ∧ t.out = s.out)
def endedB (s t : State) (st : Byte) (idx : Nat) : Bool := onlyP s t && decide (t.procOn 2 = none ∧ t.flag CORE_STAT_RUNNING 2 = false) &&
  (pOf t).any (fun q => decide (q.phase = .ending ∧ q.status = st ∧ q.idx = idx ∧ q.staged = [] ∧ q.hasLog = false))
def goesB (t : State) (p : Proc) (r : List Word) : Bool := decide (t.procOn 2 = none ∧ t.flag CORE_STAT_RUNNING 2 = false) &&
  (pOf t).any (fun q => decide (q.phase = .ready ∧ q.idx = p.idx + 1 ∧ q.fetched = false ∧ q.staged = [] ∧ q.hasLog = false ∧ q.trig = p.trig ∧ q.res = r))
def ready (c : Instr) (ph : ProcPhase) : Bool :=
  let p := { pr0 with phase := ph }; let s := withP p; let t := aft c s
  decide (s.coreChosen 0 = some 2) && decide (t = { s with regs := t.regs, procs := t.procs }) && decide (t.procOn 2 = some (3, { p with phase := .running 2 })) &&
  decide (t.flag CORE_STAT_RUNNING 2 = true ∧ t.rd CORE_STAT_CTX 2 = 3 ∧ t.rd CORE_STAT_PSTATE 2 = 0)
theorem test_desc_coreDispatch : (ready (.coreDispatch c2) .ready && ready (.restoreDone c2) .saved && ready (.replayStart c2) .replay) = true := by decide +kernel
def deep (c : Instr) (ph : ProcPhase) : Bool :=
  let s := ((withP { pr0 with phase := ph }).set CORE_STAT_PSTATE 3 2).set CORE_STAT_PSTATE 4 3; decide (s.coreChosen 0 = some 2) && okc c s s
theorem test_desc_coreDispatch_2 : (deep (.coreDispatch c2) .ready && deep (.restoreDone c2) .saved && deep (.replayStart c2) .replay) = true := by decide +kernel
theorem test_desc_coreDispatch_3 : (let s := (withP pr0).set CTX_QCTL_PAUSE 1 3; okc (.coreDispatch c2) s s) = true := by decide +kernel
theorem test_desc_ctxPause : (let s := (coS.set CTX_QCTL_PRIO_MAX 2 3); let t := aft (.ctxPause .bar0 x3 true) s; let u := aft (.ctxPause .bar0 x3 false) t; decide (t = { s with regs := t.regs } ∧ t.rd CTX_QCTL_PAUSE 3 = 1 ∧ t.rd CTX_QCTL_PRIO_MAX 3 = 2 ∧ u.rd CTX_QCTL_PAUSE 3 = 0 ∧ u.rd CTX_QCTL_PRIO_MAX 3 = 2)) = true := by decide +kernel
/-- Context 4 also waits on slice 0; core 3 is off. -/
def twoS : State := let s := (((runP pr0).onPg .ctx 4).set CTX_STAT_STATE ctxReady 4)
  { (s.hset ⟨.core, 3⟩ PG_STAT_ENABLED 0) with procs := { s.procs with procs := s.procs.procs ++ [(4, [{ pr0 with id := 8 }])] } }
theorem test_desc_preemptCheck : (let s := twoS; okc (.preemptCheck c2) s { s with procs := { s.procs with saving := [2] } }) = true := by decide +kernel
theorem test_desc_preemptCheck_2 : (let s := twoS.onPg .core 3; okc (.preemptCheck c2) s s && okc (.preemptCheck c2) (runP pr0) (runP pr0)) = true := by decide +kernel
theorem test_desc_preemptCheck_3 : (let s := (runP pr0).set CTX_STAT_STATE ctxRetiring 3; endedB s (aft (.preemptCheck c2) s) stContextGone 0) = true := by decide +kernel
theorem test_desc_preemptSaveDone : (let s := runP pr0; let s := { s with procs := { s.procs with saving := [2] } }; let t := aft (.preemptSaveDone c2) s; onlyP s t && decide (t.proc 3 7 = some { pr0 with phase := .saved } ∧ t.procOn 2 = none ∧ t.flag CORE_STAT_RUNNING 2 = false ∧ t.procs.saving = [])) = true := by decide +kernel
def fencedB (s t : State) (k : Nat) : Bool := decide (t.flag CORE_STAT_FENCED 2 = true ∧ t.rd CORE_FAULT_CAUSE 2 = k ∧
      t.flag CORE_FAULT_VALID 2 = true ∧ t.rd CORE_STAT_PSTATE 2 = 3 ∧ t.flag CORE_STAT_RUNNING 2 = false ∧
      t.enabled .filt 2 = false) && decide (bit (t.pgErr ⟨.core, 2⟩) 16 = true ∧
      t.tally .core 0x04 2 = s.tally .core 0x04 2 + 1 ∧ t.pool = s.pool ∧ t.ports = s.ports ∧ t.map = s.map)
theorem test_desc_coreFault : (let s := coS; fencedB s (aft (.coreFault c2 1) s) 1 && fencedB s (aft (.coreFault c2 4) s) 4 && fencedB s (aft (.coreWatchdog c2) s) 4 && decide ((aft (.coreFault c2 2) s).procs.procs = [])) = true := by decide +kernel
theorem test_desc_coreFault_2 : (let s := runP { pr0 with staged := stagedAt 5 [1] }; let t := aft (.coreFault c2 1) s; fencedB s t 1 && decide (t.procOn 2 = none) && (pOf t).any (fun q => decide (q.phase = .replay ∧ q.replays = 1 ∧ q.fetched = false ∧ q.staged = [] ∧ q.idx = 0 ∧ q.trig = trg))) = true := by decide +kernel
theorem test_desc_coreWatchdog : (let s := runP { pr0 with ran := true, hasLog := true, log := [⟨8, 0, 1, [], [], false, false, false, [], 0⟩] }; let t := aft (.coreWatchdog c2) s; fencedB s t 4 && (pOf t).any (fun q => decide (q.phase = .replay ∧ q.log.length = 1 ∧ q.hasLog ∧ q.ran ∧ q.idx = 0))) = true := by decide +kernel
theorem test_desc_coreWatchdog_2 : (let s := runP { pr0 with replays := 3 }; let t := aft (.coreWatchdog c2) s; fencedB s t 4 && (pOf t).any (fun q => decide (q.phase = .ending ∧ q.status = stCoreLost))) = true := by decide +kernel
theorem test_desc_coreInjArm : (let s := coS; let t := aft (.coreInjArm .bar0 c2 2) s; let u := aft (.coreInjArm .bar0 c2 0) s; decide (t = { s with regs := t.regs } ∧ t.flag CORE_INJ_ARMED 2 = true ∧ t.rd CORE_INJ_CAUSE 2 = 2 ∧ bit (u.pgErr ⟨.core, 2⟩) 1 = true ∧ u.flag CORE_INJ_ARMED 2 = false)) = true := by decide +kernel
theorem test_desc_coreInjArm_2 : (let s := coS.set CORE_STAT_FENCED 1 2; let u := aft (.coreInjArm .bar0 c2 1) s; decide (bit (u.pgErr ⟨.core, 2⟩) 1 = true ∧ u.flag CORE_INJ_ARMED 2 = false)) = true := by decide +kernel
theorem test_desc_pstateDwell : (let s := coS; decide (s.rd CORE_PWR_DWELL_C1 2 ≠ 0) && okc (.pstateDwell c2) s (s.set CORE_STAT_PSTATE 1 2) && (let u := s.set CORE_STAT_PSTATE 3 2; okc (.pstateDwell c2) u (u.set CORE_STAT_PSTATE 4 2)) && (let u := (s.onPg .filt 2).set CORE_STAT_PSTATE 3 2; okc (.pstateDwell c2) u u) && (let u := s.set CORE_PWR_DWELL_C1 0 2; okc (.pstateDwell c2) u u) && (let u := s.set CORE_STAT_PSTATE 3 2; okc (.pstateExitDone c2) u (u.set CORE_STAT_PSTATE 0 2))) = true := by decide +kernel
theorem test_desc_descFetchDone : (let s := ((runP pr0).set CORE_INJ_ARMED 1 2).set CORE_INJ_CAUSE 2 2; let t := aft (.descFetchDone c2) s; decide (t.flag CORE_STAT_FENCED 2 = true ∧ t.flag CORE_FAULT_VALID 2 = true ∧ t.rd CORE_FAULT_CAUSE 2 = 2 ∧ t.flag CORE_INJ_ARMED 2 = false ∧ t.pool = s.pool)) = true := by decide +kernel
def ft (d : Nat) : State := memB (runP pr0) 0x1000 (bytesOf 64 d)
theorem test_desc_descFetchDone_2 : (let d := 0x1F + 5 * 2 ^ 32; let s := ft d; let t := aft (.descFetchDone c2) s; onlyP s t && (pOf t).any (fun q => decide (q.fetched ∧ q.desc = d ∧ q.ran = false ∧ q.phase = .running 2 ∧ q.idx = 0 ∧ q.staged = []))) = true := by decide +kernel
theorem test_desc_descFetchDone_3 : (let s := ft 0x1E; endedB s (aft (.descFetchDone c2) s) stBadDescriptor 0) = true := by decide +kernel
def fd (d : Nat) : Proc := { pr0 with fetched := true, desc := d }
def ranB (s t : State) (l : List Nat) : Bool := onlyP s t && (pOf t).any (fun q => decide (q.ran ∧ q.dres = wordsOf l ∧ q.staged = [] ∧ q.hasLog = false ∧ q.phase = .running 2 ∧ q.idx = 0))
theorem test_desc_nop : (let s := runP (fd (0x1F + 5 * 2 ^ 32 + 9 * 2 ^ 128)); ranB s (aft (.nop c2) s) [5, 0, 0, 9]) = true := by decide +kernel
theorem test_desc_step : (let s := runP (fd 0x13); ranB s (aft (.step c2) s) []) = true := by decide +kernel
theorem test_desc_fence : (let s := runP (fd 0x10); ranB s (aft (.fence c2) s) []) = true := by decide +kernel
theorem test_desc_fence_2 : (let s := runP { fd 0x10 with rdPorts := [(6, 1)] }; let t := aft (.fence c2) s; s.writesPending 3 { fd 0x10 with rdPorts := [(6, 1)], phase := .running 2 } && onlyP s t && decide (pOf t = pOf s)) = true := by decide +kernel
def wd (m v : Nat) (l : Nat := 0) : Nat := 0x12 + 0x3000 * 2 ^ 32 + v * 2 ^ 96 + m * 2 ^ 160 + l * 2 ^ 162
def wS (p : Proc) : State := memB (runP p) 0x3000 (bytesOf 8 0x500000004)
theorem test_desc_wait : (let s := wS (fd (wd 0 0x500000004)); ranB s (aft (.wait c2) s) [4, 5] && (let s := wS (fd (wd 1 0x500000004)); ranB s (aft (.wait c2) s) [4, 5]) && (let s := wS (fd (wd 2 3)); ranB s (aft (.wait c2) s) [4, 5])) = true := by decide +kernel
theorem test_desc_wait_2 : ([wd 0 0x500000005, wd 1 3, wd 2 0x500000004].all (fun d => let s := wS (fd d); let t := aft (.wait c2) s; onlyP s t && decide (t.procOn 2 = none ∧ t.flag CORE_STAT_RUNNING 2 = false) && (pOf t).any (fun q => decide (q.phase = .parked ∧ q.ran = false)))) = true := by decide +kernel
def sg (m v : Nat) : Nat := 0x11 + 0x3000 * 2 ^ 32 + v * 2 ^ 96 + m * 2 ^ 160
theorem test_desc_signal : ([(0, 0), (1, 6), (2, 2)].all (fun m => let s := runP (fd (sg m.1 77)); let t := aft (.signal c2) s; onlyP s t && (pOf t).any (fun q => q.ran && q.hasLog && decide (q.log.map (fun l => (l.addr, l.op, l.ty, ofBytes l.bytes, l.done)) = [(0x3000, m.2, 1, 77, false)])))) = true := by decide +kernel
def rn (d : Nat) : Proc := { fd d with ran := true }
theorem test_desc_descCommit : (let s := runP (rn 0x1F); let t := aft (.descCommit c2) s; onlyP s t && goesB t pr0 pr0.res && decide (t.tally .core 1 2 = s.tally .core 1 2 + 1)) = true := by decide +kernel
theorem test_desc_descCommit_2 : (let s := runP { rn 0x1F with idx := 1, poisoned := true }; endedB s (aft (.descCommit c2) s) stPoisoned 1 && (let s := runP { rn 0x1F with idx := 1 }; endedB s (aft (.descCommit c2) s) stOk 1)) = true := by decide +kernel
theorem test_desc_descCommit_3 : (let p := { rn 0x03 with staged := stagedAt 0x301E [1, 2, 3] }; let s := runP p; let t := aft (.descCommit c2) s; decide (t.pool.cur.bytes = [(0x301E, 1), (0x301F, 2), (0x3020, 3)] ∧ t.pool.tray = s.pool.tray ∧ t.home.txns = [] ∧ t.dirAt (0x3000 / 64) = none ∧ t.ports = s.ports) && goesB t p p.res) = true := by decide +kernel
def lg (done : Bool) (old : Nat) : LogEntry := ⟨0x3000, 0, 1, bytesOf 16 77, [], false, false, done, if done then bytesOf 16 old else [], 0⟩
theorem test_desc_descCommit_4 : (let s := wS { rn (sg 0 77) with hasLog := true, log := [lg false 0] }; let t := aft (.descCommit c2) s; decide (t.pool.cur.bytes = Memory.writeBytes s.pool.cur.bytes 0x3000 (bytesOf 8 (0x500000004 + 77)) ∧ t.home.txns = []) && (pOf t).any (fun q => q.issued && decide (q.log.map (fun m => (m.done, m.status, ofBytes m.old)) = [(true, stOk, 0x500000004)]))) = true := by decide +kernel
theorem test_desc_descCommit_5 : (let p := { rn (sg 0 77 + 2 ^ 16) with hasLog := true, issued := true, log := [lg true 0x500000004] }; let s := wS p; let t := aft (.descCommit c2) s; onlyP s t && goesB t p (if dRes p.desc then wordsOf [4, 5] else p.res)) = true := by decide +kernel
def pk (d : Nat) : State := memB (withP { fd d with phase := .parked }) 0x3000 (bytesOf 8 0x500000004)
theorem test_desc_waitRecheck : (let s := pk (wd 0 5); let t := aft (.waitRecheck x3 7) s; onlyP s t && decide (pOf t = some (fd (wd 0 5))) && (let s := pk (wd 1 5); okc (.waitRecheck x3 7) s s)) = true := by decide +kernel
theorem test_desc_waitLimit : (let s := pk (wd 1 5 9); let t := aft (.waitLimit x3 7) s; onlyP s t && (pOf t).any (fun q => decide (q.phase = .ending ∧ q.status = stTimeout)) && (let s := pk (wd 1 5); okc (.waitLimit x3 7) s s)) = true := by decide +kernel
def en (st : Byte) (tr : Nat) (ph : ProcPhase := .ending) : State := withP { pr0 with trig := tr, phase := ph, status := st, flags := 3, idx := 1, res := [1, 2, 3, 4] }
def recd (st : Byte) (tr : Nat) : Nat := recordOf 3 st.toNat 3 1 (trSeq tr) [1, 2, 3, 4]
theorem test_desc_completionRecord : (let s := en stPoisoned trg; let t := aft (.completionRecord x3 7) s; decide (recd stPoisoned trg < 2 ^ 256 ∧ t.pool.cur.bytes = Memory.writeBytes s.pool.cur.bytes 0x2000 (bytesOf 32 (recd stPoisoned trg)) ∧ t.home.txns = [] ∧ t.ports = s.ports ∧ t.tally .ctx 4 3 = s.tally .ctx 4 3 + 1 ∧ pOf t = none)) = true := by decide +kernel
def trc : Nat := trg + 2 ^ 66 + 0x4000 * 2 ^ 192 + 9 * 2 ^ 256
theorem test_desc_completionRecord_2 : (let s := en 0 trc; let t := aft (.completionRecord x3 7) s; decide ((pOf t).map (·.phase) = some .recorded ∧ t.tally .ctx 4 3 = s.tally .ctx 4 3 + 1)) = true := by decide +kernel
theorem test_desc_completionRecord_3 : (let tr := trg + 2 ^ 190; let s := en 0 tr; let t := aft (.completionRecord x3 7) s; decide (s.recordMay 3 (trCpl tr) = false ∧ t.pool = s.pool ∧ t.ports = s.ports ∧ pOf t = none ∧ t.tally .ctx 5 3 = s.tally .ctx 5 3 + 1)) = true := by decide +kernel
theorem test_desc_counterIncrement : (let s := memB (en 0 trc .recorded) 0x4000 (bytesOf 8 0xFFFFFFFF); let t := aft (.counterIncrement x3 7) s; decide (t.pool.cur.bytes = Memory.writeBytes s.pool.cur.bytes 0x4000 (bytesOf 8 (0xFFFFFFFF + 9)) ∧ t.home.txns = [] ∧ pOf t = none ∧ t.ports = s.ports)) = true := by decide +kernel
def cpd (n : Nat) : Nat := 0x03 + 0x3000 * 2 ^ 32 + 0x5000 * 2 ^ 96 + n * 2 ^ 160
theorem test_desc_copy : (let s := wS (fd (cpd 8)); let t := aft (.copy c2) s; onlyP s t && (pOf t).any (fun q => q.ran && decide (q.staged = stagedAt 0x5000 (bytesOf 8 0x500000004) ∧ q.hasLog = false ∧ q.dres = wordsOf []))) = true := by decide +kernel
theorem test_desc_copy_2 : (let s := wS (fd (cpd 8)); let s := s.mapPower (fun w => { w with peak := true }); okc (.copy c2) s s) = true := by decide +kernel
theorem test_desc_copy_3 : (let s := wS (fd (cpd 8 + 2 ^ 90)); endedB s (aft (.copy c2) s) stDenied 0) = true := by decide +kernel
def words (l : List Nat) : List Byte := l.flatMap (bytesOf 4)
def gtd : Nat := 0x01 + 0x3000 * 2 ^ 32 + 0x3100 * 2 ^ 96 + 0x5000 * 2 ^ 160 + 8 * 2 ^ 288 + 3 * 2 ^ 336 + 4 * 2 ^ 360 + 0xB * 2 ^ 377
def gtS : State := memB (memB (runP (fd gtd)) 0x3000 (words [1, 0xFFFFFFFF, 0])) 0x3100 (words [11, 12, 13])
def scd : Nat := 0x02 + 0x3000 * 2 ^ 32 + 0x3100 * 2 ^ 96 + 0x5000 * 2 ^ 160 + 8 * 2 ^ 224 + 3 * 2 ^ 272 + 4 * 2 ^ 296 + 0xB * 2 ^ 313
def scS' : State := memB (memB (runP (fd scd)) 0x3000 (words [1, 0xFFFFFFFF, 0])) 0x3100 (words [11, 12, 13])
def tkd (small : Nat := 0): Nat := 0x06 + 0x3000 * 2 ^ 32 + 0x5000 * 2 ^ 160 + 5 * 2 ^ 224 + 3 * 2 ^ 248 + small * 2 ^ 261 + 100 * 2 ^ 296
def tkS (d : Nat) : State := memB (runP (fd d)) 0x3000 (words [0x3F800000, 0x7FC00000, 0xBF800000, 0x40000000, 0x3F800000])
def rdd (op : Nat): Nat := 0x09 + 0x3000 * 2 ^ 32 + 0x5000 * 2 ^ 96 + 64 * 2 ^ 160 + 1 * 2 ^ 208 + 2 * 2 ^ 216 + 0xA * 2 ^ 240 + 0xA * 2 ^ 244 + op * 2 ^ 248
def rdS' (op : Nat) : State := memB (memB (runP (fd (rdd op))) 0x3000 (words [5, 0xFFFFFFFE])) 0x3040 (words [7, 1])
def runB (c : Instr) (s : State) (l : List StagedByte) (r : List Nat) : Bool := let t := aft c s; onlyP s t && (pOf t).any (fun q => q.ran && decide (q.staged = l ∧ q.hasLog = false ∧ q.dres = wordsOf r))
theorem test_desc : (descBad (gtS.envOf 3 (fd gtd) 2) gtd || descBad (gtS.envOf 3 (fd scd) 2) scd || descBad (gtS.envOf 3 (fd tkd) 2) tkd || descBad (gtS.envOf 3 (fd (rdd 0)) 2) (rdd 0)) = false := by decide +kernel
theorem test_desc_gather : runB (.gather c2) gtS (stagedAt 0x5000 (words [13, 0, 11])) [1] = true := by decide +kernel
theorem test_desc_scatter : runB (.scatter c2) scS' (stagedAt 0x5008 (words [11]) ++ stagedAt 0x5000 (words [13])) [] = true := by decide +kernel
theorem test_desc_topk : runB (.topk c2) (tkS tkd) (stagedAt 0x5000 (words [103, 0x40000000, 100, 0x3F800000, 104, 0x3F800000])) [3, 4, 103, 0x40000000] = true := by decide +kernel
theorem test_desc_reduceLocal : runB (.reduceLocal c2) (rdS' 0) (stagedAt 0x5000 (words [12, 0xFFFFFFFF])) [] = true := by decide +kernel
/-- SCORE DOT of (1.0, 2.0) with one key; MERGE of one partial; ATTN_PARTIAL of one token; COMPRESS and EXPAND of a block; a batch of one. -/
def okRun (d : Nat) (s : State) (a : List Nat) : Bool := let p := { fd d with phase := .running 2 }; let e := s.envOf 3 p 2
  !(descBad e d) && (match ((runDesc e d).go s).1 with | .ok r => decide (r.outs.map (·.1) = a) && !r.park && r.outs.all (fun o => e.mayWrite o.1 o.2.length) && r.log.all (fun l => e.mayWrite l.addr 1) | _ => false)
def one (d a : Nat) (l : List Nat) : State := memB (runP (fd d)) a (words l)
def sco : Nat := 0x05 + 0x3000 * 2 ^ 32 + 0x3008 * 2 ^ 96 + 0x5000 * 2 ^ 224 + 8 * 2 ^ 288 + 1 * 2 ^ 336 + 2 * 2 ^ 360
def mrg : Nat := 0x08 + 0x3000 * 2 ^ 32 + 0x5000 * 2 ^ 96 + 1 * 2 ^ 214 + 1 * 2 ^ 227
def bat : Nat := 0x0E + 0x3000 * 2 ^ 32 + 1 * 2 ^ 160
def cmp : Nat := 0x0C + 0x3000 * 2 ^ 32 + 0x5000 * 2 ^ 96 + 0x6000 * 2 ^ 160 + 1 * 2 ^ 224
def exx : Nat := 0x0D + 0x5000 * 2 ^ 32 + 0x3000 * 2 ^ 96 + 0x6000 * 2 ^ 160 + 1 * 2 ^ 224
def moe : Nat := 0x0B + 0x3000 * 2 ^ 32 + 0x3010 * 2 ^ 96 + 0x5000 * 2 ^ 160 + 1 * 2 ^ 288 + 1 * 2 ^ 307
def mod' : Nat := 0x0A + 0x3000 * 2 ^ 32 + 0x3010 * 2 ^ 96 + 0x3020 * 2 ^ 160 + 0x5000 * 2 ^ 224 + 0x5100 * 2 ^ 288 + 1 * 2 ^ 384 + 4 * 2 ^ 411
def att : Nat := 0x07 + 0x3000 * 2 ^ 32 + 0x3010 * 2 ^ 96 + 0x5000 * 2 ^ 160 + 0x3F800000 * 2 ^ 224 + 1 * 2 ^ 256 + 1 * 2 ^ 272 + 1 * 2 ^ 285 + 1 * 2 ^ 298 + 1 * 2 ^ 315 + 4 * 2 ^ 320
def flt : Nat := 0x04 + 0x3000 * 2 ^ 32 + 0x5000 * 2 ^ 96 + 1 * 2 ^ 160 + 1 * 2 ^ 184 + 1 * 2 ^ 197 + 0xFF * 2 ^ 204
theorem test_desc_2 : (okRun sco (one sco 0x3000 [0x3F800000, 0x40000000, 0x3F800000, 0x3F800000]) [0x5000] && okRun mrg (one mrg 0x3000 [0x3F800000, 0x40000000, 0x3F800000]) [0x5000] && okRun bat (one bat 0x3000 [0x4000, 0, 0x10, 0, 5]) []) = true := by decide +kernel
theorem test_desc_3 : (okRun exx (one exx 0x6000 [0]) [0x3000] && okRun moe (one moe 0x3000 [0, 0x3F800000, 0, 0, 0x4000, 0, 1]) [0x5000]) = true := by decide +kernel
theorem test_desc_4 : (okRun mod' (one mod' 0x3000 [0, 0, 0, 0, 0x4000, 0, 1]) [0x5000, 0x5100] && okRun att (one att 0x3000 [0x3F800000, 0, 0, 0, 0x4000, 0, 0x4100]) [0x5000] && okRun flt ((one flt 0x3000 [7]).onPg .filt 2) [0x5000]) = true := by decide +kernel
/-- What the last run left, against what `EnginesComplete` says. -/
def ranC (c : Instr) (s : State) (l : List StagedByte) (g : List LogEntry) (r : List Nat) : Bool :=
  let t := aft c s; onlyP s t && (pOf t).any (fun q => q.ran && decide (q.staged = l ∧ q.log = g ∧ q.hasLog = !g.isEmpty ∧ q.dres = wordsOf r))
def pc (d : Nat) : Proc := { fd d with phase := .running 2 }
/-- An entry of core 2 that matches 7 with DATA 9, and one that matches anything, of a lower class. -/
def fltS : State := let s := (memB (runP (fd (flt + 2 ^ 160))) 0x3000 (words [0x0807])).onPg .filt 2
  let t := [(camAt 2 3, 2 ^ 328 + 9 * 2 ^ 352 + 0xFF * 2 ^ 160 + 7 + 5 * 2 ^ 320), (camAt 2 1, 2 ^ 328 + 8 * 2 ^ 352)]
  { s with filt := { s.filt with cam := t.reverse, shadow := t.reverse } }
theorem test_desc_filter : ranC (.filter c2) fltS (stagedAt 0x5000 (words [camAt 2 3, 9, camAt 2 1, 8])) [] [2, 0, 0] = true := by decide +kernel
theorem test_desc_5 : [0, 1].map (foundAt fltS 2 (pc (flt + 2 ^ 160))) = [camAt 2 3 + 9 * 2 ^ 32, camAt 2 1 + 8 * 2 ^ 32] := by decide +kernel
def scoS : State := one sco 0x3000 [0x3F800000, 0x40000000, 0x3F800000, 0x3F800000]
theorem test_desc_score : ranC (.score c2) scoS (stagedAt 0x5000 (words [0x40400000])) [] [] = true ∧ scoreAt scoS (pc sco) 0 0 = 0x40400000 := by decide +kernel
def sc2 : Nat := 0x05 + 0x3000 * 2 ^ 32 + 0x3010 * 2 ^ 96 + 0x3040 * 2 ^ 160 + 0x5000 * 2 ^ 224 + 8 * 2 ^ 288 + 3 * 2 ^ 336 + 2 * 2 ^ 360 + 1 * 2 ^ 373 + 2 * 2 ^ 385
def sc2S : State := memB (one sc2 0x3000 [0x3F800000, 0x40000000, 0x3F800000, 0x3F800000, 0, 0, 0x3F800000, 0xBF800000]) 0x3040 (words [1, 0xFFFFFFFF, 0])
theorem test_desc_score_2 : (descBad (sc2S.envOf 3 (pc sc2) 2) sc2 == false && ranC (.score c2) sc2S (stagedAt 0x5000 ([0, 1].flatMap (fun i => [0, 1, 2].flatMap (fun j => bytesOf 4 (scoreAt sc2S (pc sc2) i j))))) [] [] &&
  decide ((scoreAt sc2S (pc sc2) 0 0, scoreAt sc2S (pc sc2) 0 1, scoreAt sc2S (pc sc2) 0 2) = (0x41100000, 0x7FC00000, 0x40A00000))) = true := by decide +kernel
/-- Three tokens, two experts, one choice each; expert 1 has room for one row. -/
def mo2 : Nat := 0x0A + 0x3000 * 2 ^ 32 + 0x3080 * 2 ^ 96 + 0x30C0 * 2 ^ 160 + 0x5000 * 2 ^ 224 + 0x5100 * 2 ^ 288 + 0x3F800000 * 2 ^ 352 + 3 * 2 ^ 384 + 1 * 2 ^ 400 + 4 * 2 ^ 411
def mo2S : State := memB (memB (one mo2 0x3000 [0, 0x3F800000, 0, 0x40000000, 0x3F800000, 0]) 0x3080 (words [11, 12, 13])) 0x30C0 (words [0x4100, 0, 5, 0, 0x4000, 0, 1, 0])
theorem test_desc_moeDispatch : (decide ((moeChoices mo2S (pc mo2)).map (fun q => (q.1, q.2.1)) = [(0, 1), (1, 1), (2, 0)] ∧
  ((pOf (aft (.moeDispatch c2) mo2S)).map (fun q => (q.dres.head?, q.staged.take 8))) = some (some 1, stagedAt 0x4000 (words [11]) ++ stagedAt 0x4100 (words [13])))) = true := by decide +kernel
/-- Two tokens, two records each: 2 × row 0 of expert 0 plus a dropped one; 1 × row 1 of expert 0 plus 0.5 × row 0. -/
def cb2 : Nat := 0x0B + 0x3000 * 2 ^ 32 + 0x3040 * 2 ^ 96 + 0x5000 * 2 ^ 160 + 2 * 2 ^ 288 + 1 * 2 ^ 304 + 1 * 2 ^ 307
def cb2S : State := memB (memB (one cb2 0x3000 [0, 0x40000000, 0xFFFFFF00, 0x40000000, 0x100, 0x3F800000, 0, 0x3F000000]) 0x3040 (words [0x4000])) 0x4000 (words [0x40400000, 0x3F800000])
theorem test_desc_moeCombine : (ranC (.moeCombine c2) cb2S (stagedAt 0x5000 (words [0x40C00000, 0x40200000])) [] [] && decide ([0, 1].flatMap (combinedRow cb2S (pc cb2)) = words [0x40C00000, 0x40200000])) = true := by decide +kernel
def xpB (s : State) (d : Nat) : Bool :=
  let p := pc d
  let n := bits d 247 224
  ranC (.expand c2) s (stagedAt (bits d 159 96) ((List.range n).flatMap (expandedBlock s p))) [] [((List.range n).map (fun i => min 4 (mapEntry s p i))).sum]
/-- Two blocks, the first zero, the second RAW, packed. -/
def ex2d : Nat := 0x0D + 0x3000 * 2 ^ 32 + 0x5000 * 2 ^ 96 + 0x6000 * 2 ^ 160 + 2 * 2 ^ 224 + 1 * 2 ^ 248
def ex2S : State := memB (memB (runP (fd ex2d)) 0x3000 (words [5, 6])) 0x6000 [0x40]
theorem test_desc_6 : (xpB ex2S ex2d && decide ((expandedBlock ex2S (pc ex2d) 1).take 12 = words [5, 6, 0])) = true := by decide +kernel
def ba2 : Nat := 0x0E + 0x3000 * 2 ^ 32 + 2 * 2 ^ 160
def ba2S : State := one ba2 0x3000 [0x4000, 0, 0x10, 0, 5, 0, 0, 0, 0, 0, 0, 0, 0x4008, 0, 0x17, 0, 6, 0, 0, 0, 9, 0, 0, 0]
theorem test_desc_atomicBatch : (ranC (.atomicBatch c2) ba2S [] ([0, 1].map (batchOp ba2S (pc ba2))) [] && decide (((batchOp ba2S (pc ba2) 1).addr, (batchOp ba2S (pc ba2) 1).op, (batchOp ba2S (pc ba2) 1).ty, ofBytes (batchOp ba2S (pc ba2) 1).bytes, ofBytes (batchOp ba2S (pc ba2) 1).swap) = (0x4008, 7, 1, 6, 9))) = true := by decide +kernel
/-- `Delivers` as a check. -/
def deliversB (s : State) (x : CtxId) (p : Proc) (a n : Nat) : Bool :=
  let b := s.bank p.epoch
  decide (0 < n ∧ a + n ≤ 2 ^ 48 ∧ s.home.txns = []) && (List.range ((a + n + 63) / 64 - a / 64)).all (fun k =>
    let l := a / 64 + k
    b.ctxMay (s.ctxTenant x.val) (b.extent (l / 2 ^ 24)) && decide (s.extentCase p.epoch (l / 2 ^ 24) = .go) && decide (s.dirAt l = none) &&
      (Tbl.get? s.tier.t1 (l / 1024)).isSome && decide (Tbl.get? s.pool.ue l = none) && !(s.readPool b (64 * l)).poison && !(s.readPool b (64 * l)).overrun && !(s.readPool b (64 * l)).underrun)
theorem delivers_of {s : State} {x : CtxId} {p : Proc} {a n : Nat} (h : deliversB s x p a n = true) : Delivers s x p a n := by
  simp only [deliversB, Bool.and_eq_true, decide_eq_true_eq, List.all_eq_true, List.mem_range, Bool.not_eq_true'] at h
  refine ⟨h.1.1, h.1.2.1, h.1.2.2, fun l h1 h2 => ?_⟩
  have := h.2 (l - a / 64) (by omega)
  rw [show a / 64 + (l - a / 64) = l by omega] at this
  simpa [and_assoc] using this
/-- Procedure p as it runs on core 2. -/
def on2 (p : Proc) : Proc := { p with phase := .running 2 }
def runsB (s : State) (p : Proc) : Bool :=
  decide (s.procOn c2.val = some (x3.val, on2 p)) && !s.flag CORE_INJ_ARMED c2.val && !s.procs.saving.contains c2.val
theorem runs_of {s : State} {p : Proc} (h : runsB s p = true) : Running s c2 x3 (on2 p) := by
  simp only [runsB, Bool.and_eq_true, decide_eq_true_eq, Bool.not_eq_true'] at h
  exact ⟨h.1.1, rfl, h.1.2, h.2⟩

theorem witness_CoresTakeWork_offered : Offered (withP pr0) c2 x3 pr0 ∧ (withP pr0).rd CORE_STAT_PSTATE c2.val ≤ 2 ∧
    (let p := { pr0 with phase := .saved }; Offered (withP p) c2 x3 p) ∧ (let p := { pr0 with phase := .replay }; Offered (withP p) c2 x3 p) := by
  unfold Offered
  decide +kernel
theorem witness_CoresTakeWork_asleep : let s := ((withP pr0).set CORE_STAT_PSTATE 3 2).set CORE_STAT_PSTATE 4 3
    Offered s c2 x3 pr0 ∧ 2 < s.rd CORE_STAT_PSTATE c2.val := by
  unfold Offered
  decide +kernel
theorem witness_CoresTakeWork_paused : let s := (withP pr0).set CTX_QCTL_PAUSE 1 3
    s.procs.procs = [(x3.val, [pr0])] ∧ pr0.phase = .ready ∧ s.rd CTX_QCTL_PAUSE x3.val ≠ 0 ∧ coS.Takes .bar0 ⟨.ctx, x3.val⟩ :=
  ⟨by decide +kernel, by decide +kernel, by decide +kernel, takes_of (by decide +kernel)⟩
theorem witness_CoresTakeWork_preempt : let s := twoS; let p := on2 pr0
    s.procOn c2.val = some (x3.val, p) ∧ s.ctxState x3.val ≠ ctxRetiring ∧ s.sliceOfCore c2.val = some 0 ∧ p.hasLog = false ∧ p.issued = false ∧
    ((s.ctxsOf 0).filter (· != x3.val)).any (fun y =>
      (s.startable y ++ (s.procsOf y).filter (fun q => q.phase == .replay)).any (fun q => trPrio p.trig ≤ trPrio q.trig)) = true ∧
    (∀ d ∈ s.coresOf 0, s.coreFree d = false) ∧
    ((s.procsOf x3.val).filter (fun q => q.phase == .saved)).foldl (fun n q => n + q.saveBytes) 0 + p.saveBytes ≤ 2 ^ 23 ∧
    (∃ d ∈ (s.onPg .core 3).coresOf 0, (s.onPg .core 3).coreFree d = true) := by decide +kernel
theorem witness_CoresTakeWork_retiring : let s := (runP pr0).set CTX_STAT_STATE ctxRetiring 3
    let v : State := { runP pr0 with procs := { (runP pr0).procs with saving := [2] } }
    Running s c2 x3 (on2 pr0) ∧ s.ctxState x3.val = ctxRetiring ∧ pr0.hasLog = false ∧ pr0.issued = false ∧ pr0.hostUsed = [] ∧
    v.procOn c2.val = some (x3.val, on2 pr0) ∧ v.procs.saving = [c2.val] :=
  ⟨runs_of (by decide +kernel), by decide +kernel⟩
theorem witness_CoresTakeWork_fails : let p := { pr0 with replays := 3 }; let l := { pr0 with ran := true, hasLog := true, log := [⟨8, 0, 1, [], [], false, false, false, [], 0⟩] }
    coS.flag CORE_STAT_FENCED c2.val = false ∧ coS.enabled .core c2.val = true ∧ coS.procOn c2.val = none ∧ coS.procs.procs = [] ∧
    (runP pr0).flag CORE_STAT_FENCED c2.val = false ∧ (runP pr0).enabled .core c2.val = true ∧
    Running (runP pr0) c2 x3 (on2 pr0) ∧ (runP pr0).procs.procs = [(x3.val, [on2 pr0])] ∧ (runP pr0).ctxState x3.val = ctxReady ∧
    (∃ d ∈ (runP pr0).coresOf ((runP pr0).rd CTX_BIND_SLICE x3.val), d ≠ c2.val ∧ (runP pr0).coreUsable d = true) ∧
    Running (runP l) c2 x3 (on2 l) ∧ (runP l).procs.procs = [(x3.val, [on2 l])] ∧ Running (runP p) c2 x3 (on2 p) ∧
    (runP p).procs.procs = [(x3.val, [on2 p])] := by
  refine ⟨?_, ?_, ?_, ?_, ?_, ?_, runs_of (by decide +kernel), ?_, ?_, ?_, runs_of (by decide +kernel), ?_, runs_of (by decide +kernel), ?_⟩ <;> decide +kernel
theorem witness_CoresTakeWork_armed : let s := ((runP pr0).set CORE_INJ_ARMED 1 2).set CORE_INJ_CAUSE 2 2
    coS.Takes .bar0 ⟨.core, c2.val⟩ ∧ (2 : BitVec 2) ≠ 0 ∧ s.procOn c2.val = some (x3.val, on2 pr0) ∧ pr0.fetched = false ∧
    s.procs.saving.contains c2.val = false ∧ s.flag CORE_INJ_ARMED c2.val = true ∧ s.rd CORE_INJ_CAUSE c2.val ≠ 0 ∧
    s.flag CORE_STAT_FENCED c2.val = false ∧ s.enabled .core c2.val = true :=
  ⟨takes_of (by decide +kernel), by decide +kernel⟩
theorem witness_CoresTakeWork_idle : let e := (coS.onPg .filt 2).set CORE_STAT_PSTATE 3 2; let w := coS.set CORE_STAT_PSTATE 3 2
    coS.coreIdle c2.val = true ∧ coS.flag CORE_STAT_FENCED c2.val = false ∧ coS.rd CORE_STAT_PSTATE c2.val < 4 ∧
    coS.rd CORE_PWR_DWELL_C1 c2.val ≠ 0 ∧ e.rd CORE_STAT_PSTATE c2.val = 3 ∧ e.enabled .filt c2.val = true ∧
    w.coreIdle c2.val = true ∧ w.enabled .filt c2.val = false ∧ w.rd CORE_PWR_DWELL_C4 c2.val ≠ 0 ∧ (runP pr0).coreIdle c2.val = false ∧
    w.coreUsable c2.val = true ∧ w.rd CORE_STAT_PSTATE c2.val ≠ 0 := by decide +kernel

theorem witness_ProceduresComplete_fetch : let a := ft (0x1F + 5 * 2 ^ 32); let b := ft 0x1E; let p := on2 pr0
    Running a c2 x3 p ∧ p.fetched = false ∧ p.hostUsed = [] ∧ Delivers a x3 p p.descAddr 64 ∧
    (descBad { a.envOf x3.val p c2.val with mark := false } (0x1F + 5 * 2 ^ 32) || decide (2 ^ 22 < declared (0x1F + 5 * 2 ^ 32))) = false ∧
    ofBytes (procBytes a p p.descAddr 64) = 0x1F + 5 * 2 ^ 32 ∧ Running b c2 x3 p ∧ Delivers b x3 p p.descAddr 64 ∧
    descBad { b.envOf x3.val p c2.val with mark := false } 0x1E = true ∧ ofBytes (procBytes b p p.descAddr 64) = 0x1E :=
  ⟨runs_of (by decide +kernel), by decide +kernel, by decide +kernel, delivers_of (by decide +kernel), by decide +kernel, by decide +kernel,
    runs_of (by decide +kernel), delivers_of (by decide +kernel), by decide +kernel⟩
theorem witness_ProceduresComplete_run : let f := { fd 0x10 with rdPorts := [(6, 1)] }
    (∀ d ∈ [0x1F, 0x13, 0x10, sg 0 77], Running (runP (fd d)) c2 x3 (on2 (fd d))) ∧ (fd 0).fetched = true ∧ (fd 0).ran = false ∧
    dOpc 0x1F = 0x1F ∧ dOpc 0x13 = 0x13 ∧ dOpc 0x10 = 0x10 ∧ (runP (fd 0x10)).writesPending x3.val (on2 (fd 0x10)) = false ∧
    (fd 0x10).hostPorts = [] ∧ Running (runP f) c2 x3 (on2 f) ∧ (runP f).writesPending x3.val (on2 f) = true ∧ f.hostPorts = [] ∧
    dOpc (sg 0 77) = 0x11 ∧ bits (sg 0 77) 95 32 < 2 ^ 48 ∧ bits (sg 0 77) 161 160 ≠ 3 ∧ MayPut (runP (fd (sg 0 77))) x3 (on2 (fd (sg 0 77))) 0x3000 8 := by
  refine ⟨fun d h => runs_of (by revert d; decide +kernel), ?_, ?_, ?_, ?_, ?_, ?_, ?_, runs_of (by decide +kernel), ?_, ?_, ?_,
    ?_, ?_, by unfold MayPut; decide +kernel⟩ <;> decide +kernel
theorem witness_ProceduresComplete_wait : let d := wd 0 0x500000004; let e := wd 1 3
    Running (wS (fd d)) c2 x3 (on2 (fd d)) ∧ dOpc d = 0x12 ∧ bits d 161 160 ≠ 3 ∧ Delivers (wS (fd d)) x3 (on2 (fd d)) (bits d 95 32) 8 ∧
    Running (wS (fd e)) c2 x3 (on2 (fd e)) ∧ dOpc e = 0x12 ∧ bits e 161 160 ≠ 3 ∧ Delivers (wS (fd e)) x3 (on2 (fd e)) (bits e 95 32) 8 ∧
    ofBytes (procBytes (wS (fd d)) (on2 (fd d)) (bits d 95 32) 8) = 0x500000004 :=
  ⟨runs_of (by decide +kernel), by decide +kernel, by decide +kernel, delivers_of (by decide +kernel),
    runs_of (by decide +kernel), by decide +kernel, by decide +kernel, delivers_of (by decide +kernel), by decide +kernel⟩
theorem witness_ProceduresComplete_commit : let p := on2 (rn 0x1F); let s := runP (rn 0x1F); let q := { rn 0x1F with idx := 1 }
    Running s c2 x3 p ∧ p.ran = true ∧ p.hasLog = false ∧ p.replays ≤ 3 ∧ p.wrWait = 0 ∧ p.wrBad = 0 ∧ p.status = stOk ∧ p.hostUsed = [] ∧ s.peerPending p = false ∧
    dOpc p.desc ≠ 0x13 ∧ s.ctxState x3.val = ctxReady ∧ p.staged = [] ∧ p.idx + 1 < trLen p.trig ∧ Running (runP q) c2 x3 (on2 q) ∧
    q.idx + 1 = trLen q.trig := by
  refine ⟨runs_of (by decide +kernel), ?_, ?_, ?_, ?_, ?_, ?_, ?_, ?_, ?_, ?_, ?_, ?_, runs_of (by decide +kernel), ?_⟩ <;> decide +kernel
theorem witness_ProceduresComplete_store : let r := { rn 0x03 with staged := stagedAt 0x303D [1, 2, 3] }; let p := on2 r; let s := runP r
    Running s c2 x3 p ∧ s.peerPending p = false ∧ dOpc p.desc ≠ 0x13 ∧ p.staged = stagedAt 0x303D [1, 2, 3] ∧
    0x303D % 64 + [1, 2, 3].length ≤ 64 ∧ TakesWrite s p.epoch 0x303D ∧ p.idx + 1 < trLen p.trig :=
  ⟨runs_of (by decide +kernel), by decide +kernel, by decide +kernel, by decide +kernel, by decide +kernel, by unfold TakesWrite; decide +kernel,
    by decide +kernel⟩
theorem witness_ProceduresComplete_log : let r := { rn (sg 0 77) with hasLog := true, log := [lg false 0] }
    let i := { rn (sg 0 77) with hasLog := true, issued := true, log := [lg true 0x500000004] }; let l := lg false 0
    Running (wS r) c2 x3 (on2 r) ∧ dOpc r.desc = 0x11 ∧ l.done = false ∧ l.op = 0 ∧ l.ty = 1 ∧ l.mark = false ∧ l.addr % 8 = 0 ∧ l.addr < 2 ^ 48 ∧
    r.logDone = false ∧ i.logDone = false ∧ ofBytes l.bytes = 77 ∧ l.bytes.length = 16 ∧ TakesWrite (wS r) (on2 r).epoch l.addr ∧ Running (wS i) c2 x3 (on2 i) ∧
    (lg true 0x500000004).done = true ∧ (lg true 0x500000004).status = stOk ∧ i.poisoned = false ∧ i.idx + 1 < trLen i.trig ∧
    (wS i).ctxState x3.val = ctxReady := by
  refine ⟨runs_of (by decide +kernel), ?_, ?_, ?_, ?_, ?_, ?_, ?_, ?_, ?_, ?_, ?_, by unfold TakesWrite; decide +kernel, runs_of
    (by decide +kernel), ?_⟩ <;> decide +kernel
theorem witness_ProceduresComplete_parked : let p := { fd (wd 0 5) with phase := .parked }; let q := { fd (wd 1 5 9) with phase := .parked }
    (pk (wd 0 5)).proc x3.val p.id = some p ∧ p.phase = .parked ∧ waitHolds p.desc 0x500000004 = true ∧ waitHolds q.desc 0x500000004 = false ∧
    Delivers (pk (wd 0 5)) x3 p (bits p.desc 95 32) 8 ∧ ofBytes (procBytes (pk (wd 0 5)) p (bits p.desc 95 32) 8) = 0x500000004 ∧
    (pk (wd 1 5 9)).proc x3.val q.id = some q ∧ Delivers (pk (wd 1 5 9)) x3 q (bits q.desc 95 32) 8 ∧ q.fetched = true ∧ q.ran = false ∧
    dOpc q.desc = 0x12 ∧ q.hostUsed = [] ∧ bits q.desc 185 162 ≠ 0 ∧ bits p.desc 185 162 = 0 ∧ dOpc p.desc = 0x12 :=
  ⟨by decide +kernel, by decide +kernel, by decide +kernel, by decide +kernel, delivers_of (by decide +kernel), by decide +kernel, by decide +kernel,
    delivers_of (by decide +kernel), by decide +kernel⟩
theorem witness_ProceduresComplete_remote : let p := { rn 0x03 with remote := [{ addr := 64, tag := 1 }] }
    Running (runP p) c2 x3 (on2 p) ∧ p.hostUsed = [] ∧ p.remote.any (fun r => r.res.isNone) = true ∧ Running (runP (rn 3)) c2 x3 (on2 (rn 3)) ∧
    (rn 3).remote = [] ∧ (rn 3).rdPorts = [] ∧ (rn 3).ran = true ∧ (rn 3).staged = [] :=
  ⟨runs_of (by decide +kernel), by decide +kernel, by decide +kernel, runs_of (by decide +kernel), by decide +kernel⟩
/-- The procedure of `en`. -/
def enP (st : Byte) (tr : Nat) (ph : ProcPhase := .ending) : Proc := { pr0 with trig := tr, phase := ph, status := st, flags := 3, idx := 1, res := [1, 2, 3, 4] }
theorem witness_ProceduresComplete_record : let s := en stPoisoned trg; let p := enP stPoisoned trg; let tr := trg + 2 ^ 190; let u := en 0 tr; let c := en 0 trc
    s.proc x3.val p.id = some p ∧ p.phase = .ending ∧ s.writesPending x3.val p = false ∧ trCpl p.trig < 2 ^ 48 ∧ trCpl p.trig % 32 = 0 ∧
    s.recordMay x3.val (trCpl p.trig) = true ∧ TakesWrite s s.epoch (trCpl p.trig) ∧
    recordOf x3.val p.status.toNat p.flags p.idx (trSeq p.trig) (p.res.map (fun (w : Word) => w.toNat)) < 2 ^ 256 ∧ trCntEn p.trig = false ∧
    u.proc x3.val 7 = some (enP 0 tr) ∧ u.writesPending x3.val (enP 0 tr) = false ∧ u.recordMay x3.val (trCpl tr) = false ∧
    c.proc x3.val 7 = some (enP 0 trc) ∧ trCntEn trc = true ∧ trCntMode trc = false ∧ c.recordMay x3.val (trCpl trc) = true ∧
    TakesWrite c c.epoch (trCpl trc) := by
  unfold TakesWrite
  and_intros <;> decide +kernel
theorem witness_ProceduresComplete_counter : let p := enP 0 trc .recorded; let s := memB (en 0 trc .recorded) 0x4000 (bytesOf 8 0xFFFFFFFF)
    s.proc x3.val p.id = some p ∧ p.phase = .recorded ∧ s.recordPending x3.val p.id = false ∧ trCntEn p.trig = true ∧ trCntMode p.trig = false ∧
    trCntAddr p.trig < 2 ^ 48 ∧ trCntAddr p.trig % 8 = 0 ∧ s.recordMay x3.val (trCntAddr p.trig) = true ∧ TakesWrite s s.epoch (trCntAddr p.trig) := by
  unfold TakesWrite
  and_intros <;> decide +kernel

/-- A run of a descriptor that succeeds, its outputs within what it may write: what `EnginesRun` asks of it. -/
theorem ran_of {d : Nat} {s : State} {l : List Nat} (h : okRun d s l = true) :
    let e := s.envOf 3 { fd d with phase := .running 2 } 2
    ∃ r a, (runDesc e d).go s = (.ok r, a) ∧ r.park = false ∧ (∀ o ∈ r.outs, e.mayWrite o.1 o.2.length = true) ∧
      (∀ q ∈ r.log, e.mayWrite q.addr 1 = true) := by
  simp only [okRun, Bool.and_eq_true] at h
  split at h
  · rename_i r hr
    refine ⟨r, _, Prod.ext hr rfl, ?_⟩
    have h := h.2
    simp only [Bool.and_eq_true, Bool.not_eq_true', List.all_eq_true] at h
    exact ⟨h.1.1.2, h.1.2, h.2⟩
  · simp at h
theorem witness_EnginesRun : ∀ q ∈ [(cpd 8, wS (fd (cpd 8)), [0x5000]), (gtd, gtS, [0x5000]), (scd, scS', [0x5008, 0x5000]), (tkd, tkS tkd, [0x5000]),
    (rdd 0, rdS' 0, [0x5000]), (sco, one sco 0x3000 [0x3F800000, 0x40000000, 0x3F800000, 0x3F800000], [0x5000]),
    (mrg, one mrg 0x3000 [0x3F800000, 0x40000000, 0x3F800000], [0x5000]), (bat, one bat 0x3000 [0x4000, 0, 0x10, 0, 5], []),
    (exx, one exx 0x6000 [0], [0x3000]), (moe, one moe 0x3000 [0, 0x3F800000, 0, 0, 0x4000, 0, 1], [0x5000]),
    (mod', one mod' 0x3000 [0, 0, 0, 0, 0x4000, 0, 1], [0x5000, 0x5100]),
    (att, one att 0x3000 [0x3F800000, 0, 0, 0, 0x4000, 0, 0x4100], [0x5000]), (flt, (one flt 0x3000 [7]).onPg .filt 2, [0x5000]),
    (cmp, runP (fd cmp), [0x5000, 0x6000])],
    q.2.1.enginesIssue = true ∧ q.2.1.pool.ue = [] ∧ runsB q.2.1 (fd q.1) = true ∧ okRun q.1 q.2.1 q.2.2 = true := by decide +kernel
theorem witness_EnginesRun_fails : let d := cpd 8 + 2 ^ 90; let s := wS (fd d); let u := s.mapPower (fun w => { w with peak := true })
    s.enginesIssue = true ∧ s.pool.ue = [] ∧ Running s c2 x3 (on2 (fd d)) ∧ dOpc d = 0x03 ∧ (fd d).fetched = true ∧ (fd d).ran = false ∧ (fd d).hostUsed = [] ∧
    (∃ st a, (runDesc (s.envOf x3.val (on2 (fd d)) c2.val) d).go s = (.error (.fail st), a)) ∧ u.enginesIssue = false := by
  refine ⟨by decide +kernel, by decide +kernel, runs_of (by decide +kernel), by decide +kernel, rfl, rfl, rfl, ⟨stDenied, _, Prod.ext ?_ rfl⟩, by decide +kernel⟩
  have h : (match ((runDesc ((wS (fd (cpd 8 + 2 ^ 90))).envOf x3.val (on2 (fd (cpd 8 + 2 ^ 90))) c2.val) (cpd 8 + 2 ^ 90)).go
      (wS (fd (cpd 8 + 2 ^ 90)))).1 with | .error (.fail st) => st == stDenied | _ => false) = true := by decide +kernel
  split at h
  · rename_i st hs
    rw [hs, eq_of_beq h]
  · simp at h
theorem witness_EngineValues : let p := fd (cpd 8); let s := wS p
    s.enginesIssue = true ∧ Running s c2 x3 (on2 p) ∧ p.fetched = true ∧ p.ran = false ∧ dOpc p.desc = 0x03 ∧
    Delivers s x3 (on2 p) (bits p.desc 95 32) (bits p.desc 182 160) ∧ MayPut s x3 (on2 p) (bits p.desc 159 96) (bits p.desc 182 160) :=
  ⟨by decide +kernel, runs_of (by decide +kernel), by decide +kernel, by decide +kernel, by decide +kernel, delivers_of (by decide +kernel),
    by unfold MayPut; decide +kernel⟩
theorem witness_EngineValues_gather : let d := gtd; let p := on2 (fd d); let s := gtS
    s.enginesIssue = true ∧ Running s c2 x3 p ∧ dOpc d = 0x01 ∧ bits d 390 389 = 0 ∧ bits d 384 381 = bits d 388 385 ∧
    rowBytes (bits d 388 385) (rowElems (bits d 384 381) (bits d 376 360)) = bits d 376 360 ∧ bits d 359 336 = 3 ∧ bits d 380 377 = 0xB ∧
    bits d 335 288 = 8 ∧ bits d 376 360 = 4 ∧ Delivers s x3 p (bits d 95 32) 12 ∧ MayPut s x3 p (bits d 223 160) 12 ∧
    ofBytes (procBytes s p 0x3000 4) = 1 ∧ ofBytes (procBytes s p 0x3004 4) = 2 ^ 32 - 1 ∧ ofBytes (procBytes s p 0x3008 4) = 0 ∧
    Delivers s x3 p 0x3108 4 ∧ Delivers s x3 p 0x3100 4 ∧ bits d 159 96 = 0x3100 := by
  refine ⟨?_, runs_of (by decide +kernel), ?_, ?_, ?_, ?_, ?_, ?_, ?_, ?_, delivers_of (by decide +kernel), by unfold MayPut; decide +kernel, ?_, ?_, ?_, delivers_of (by decide +kernel), delivers_of (by decide +kernel), ?_⟩ <;> decide +kernel
theorem witness_EngineValues_scatter : let d := scd; let p := on2 (fd d); let s := scS'
    Running s c2 x3 p ∧ dOpc d = 0x02 ∧ bits d 322 321 = 0 ∧ bits d 295 272 = 3 ∧ bits d 312 296 = 4 ∧ Delivers s x3 p (bits d 95 32) 12 ∧
    Delivers s x3 p (bits d 159 96) 12 ∧ MayPut s x3 p 0x5008 4 ∧ MayPut s x3 p 0x5000 4 ∧ bits d 223 160 = 0x5000 :=
  ⟨runs_of (by decide +kernel), by decide +kernel, by decide +kernel, by decide +kernel, by decide +kernel, delivers_of (by decide +kernel),
    delivers_of (by decide +kernel), by unfold MayPut; decide +kernel, by unfold MayPut; decide +kernel, by decide +kernel⟩
theorem witness_EngineValues_topk : let d := tkd; let p := on2 (fd d); let s := tkS tkd
    Running s c2 x3 p ∧ dOpc d = 0x06 ∧ bits d 260 259 = 0 ∧ bit d 262 = false ∧ bits d 247 224 = 5 ∧ bits d 258 248 = 3 ∧
    Delivers s x3 p (bits d 95 32) 20 ∧ MayPut s x3 p (bits d 223 160) 24 := by
  refine ⟨runs_of (by decide +kernel), ?_, ?_, ?_, ?_, ?_, delivers_of (by decide +kernel), by unfold MayPut; decide +kernel⟩ <;>
    decide +kernel
theorem witness_EngineValues_reduce : let d := rdd 0; let p := on2 (fd d); let s := rdS' 0
    Running s c2 x3 p ∧ dOpc d = 0x09 ∧ bits d 243 240 = 0xA ∧ bits d 247 244 = 0xA ∧ bits d 239 216 = 2 ∧ bits d 215 208 = 1 ∧
    Delivers s x3 p (bits d 95 32 + bits d 207 160 * 0) 8 ∧ Delivers s x3 p (bits d 95 32 + bits d 207 160 * 1) 8 ∧ MayPut s x3 p (bits d 159 96) 8 := by
  refine ⟨runs_of (by decide +kernel), ?_, ?_, ?_, ?_, ?_, delivers_of (by decide +kernel), delivers_of (by decide +kernel), by unfold MayPut; decide +kernel⟩ <;> decide +kernel
theorem witness_EnginesComplete_filter : let s := fltS; let d := flt + 2 ^ 160; let p := on2 (fd d)
    s.enginesIssue = true ∧ Running s c2 x3 p ∧ dOpc d = 0x04 ∧ bits d 203 202 = 0 ∧ bit d 212 = false ∧ bits d 211 204 = 0xFF ∧
    bit (slCores ((s.bank p.epoch).slice (s.rd CTX_BIND_SLICE x3.val))) c2.val = true ∧ s.unitsUp [c2.val] = true ∧
    (∀ e ∈ s.filt.cam, Tbl.get s.filt.shadow e.1 0 = e.2) ∧ Delivers s x3 p (bits d 95 32) (bits d 190 184 * bits d 183 160) ∧
    MayPut s x3 p (bits d 159 96) (8 * bits d 183 160) := by
  refine ⟨?_, runs_of (by decide +kernel), ?_, ?_, ?_, ?_, ?_, ?_, ?_, delivers_of (by decide +kernel), by unfold MayPut; decide +kernel⟩ <;> decide +kernel
theorem witness_EnginesComplete_score : let s := sc2S; let d := sc2; let p := on2 (fd d)
    Running s c2 x3 p ∧ dOpc d = 0x05 ∧ Delivers s x3 p (bits d 95 32) (rowBytes (bits d 380 377) (bits d 372 360) * 2) ∧ bits d 376 373 + 1 = 2 ∧
    bits d 223 160 ≠ 0 ∧ bits d 359 336 = 3 ∧ Delivers s x3 p (bits d 223 160) (4 * 3) ∧
    ofBytes (procBytes s p (bits d 223 160) 4) = 1 ∧ ofBytes (procBytes s p (bits d 223 160 + 4) 4) = 2 ^ 32 - 1 ∧
    ofBytes (procBytes s p (bits d 223 160 + 8) 4) = 0 ∧
    Delivers s x3 p (bits d 159 96 + 1 * bits d 335 288) (rowBytes (bits d 384 381) (bits d 372 360)) ∧
    Delivers s x3 p (bits d 159 96 + 0 * bits d 335 288) (rowBytes (bits d 384 381) (bits d 372 360)) ∧ MayPut s x3 p (bits d 287 224) (4 * 2 * 3) :=
  ⟨runs_of (by decide +kernel), by decide +kernel, delivers_of (by decide +kernel), by decide +kernel, by decide +kernel, by decide +kernel,
    delivers_of (by decide +kernel), by decide +kernel, by decide +kernel, by decide +kernel, delivers_of (by decide +kernel),
    delivers_of (by decide +kernel), by unfold MayPut; decide +kernel⟩
def atS : State := one att 0x3000 [0x3F800000, 0, 0, 0, 0x4000, 0, 0x4100]
theorem witness_EnginesComplete_attn : let s := atS; let d := att; let p := on2 (fd d)
    Running s c2 x3 p ∧ dOpc d = 0x07 ∧ bits d 310 307 + 1 = 1 ∧ bits d 271 256 = 1 ∧ bits d 297 285 = 1 ∧
    Delivers s x3 p (bits d 95 32) (rowBytes (bits d 314 311) (bits d 306 298) * 1) ∧ Delivers s x3 p (bits d 159 96) (16 * 1) ∧
    ofBytes (procBytes s p (bits d 159 96) 8) = 0x4000 ∧ ofBytes (procBytes s p (bits d 159 96 + 8) 8) = 0x4100 ∧
    addrBad 0x4000 (typeAlign (bits d 318 315)) = false ∧ addrBad 0x4100 (typeAlign (bits d 318 315)) = false ∧
    Delivers s x3 p 0x4000 (rowBytes (bits d 318 315) (bits d 306 298)) ∧ Delivers s x3 p 0x4100 (rowBytes (bits d 318 315) (bits d 306 298)) ∧
    MayPut s x3 p (bits d 223 160) (1 * (4 * bits d 306 298 + 8)) :=
  ⟨runs_of (by decide +kernel), by decide +kernel, by decide +kernel, by decide +kernel, by decide +kernel, delivers_of (by decide +kernel),
    delivers_of (by decide +kernel), by decide +kernel, by decide +kernel, by decide +kernel, by decide +kernel, delivers_of (by decide +kernel),
    delivers_of (by decide +kernel), by unfold MayPut; decide +kernel⟩
theorem witness_EnginesComplete_merge : let s := one mrg 0x3000 [0x3F800000, 0x40000000, 0x3F800000]; let d := mrg; let p := on2 (fd d)
    Running s c2 x3 p ∧ dOpc d = 0x08 ∧ bits d 231 228 ≤ 2 ∧ bits d 226 223 + 1 = 1 ∧ bits d 213 208 + 1 = 1 ∧
    Delivers s x3 p (bits d 95 32) (4 * bits d 222 214 + 8) ∧ bit d 227 = true ∧
    MayPut s x3 p (bits d 159 96) (1 * rowBytes (bits d 231 228) (bits d 222 214)) :=
  ⟨runs_of (by decide +kernel), by decide +kernel, by decide +kernel, by decide +kernel, by decide +kernel, delivers_of (by decide +kernel),
    by decide +kernel, by unfold MayPut; decide +kernel⟩
theorem witness_EnginesComplete_dispatch : let s := mo2S; let d := mo2; let p := on2 (fd d)
    Running s c2 x3 p ∧ dOpc d = 0x0A ∧ bits d 407 400 + 1 = 2 ∧ bits d 399 384 = 3 ∧ Delivers s x3 p (bits d 95 32) (4 * 2 * 3) ∧
    Delivers s x3 p (bits d 159 96) (bits d 427 411 * 3) ∧ Delivers s x3 p (bits d 223 160) (16 * 2) ∧
    (moeChoices s p).map (fun q => q.2.1) = [1, 1, 0] ∧ [0, 1, 2].map (moeSlot s p) = [0, 1, 0] ∧ [0, 1].map (moeRoom s p) = [5, 1] ∧
    [0, 1].map (moeBuffer s p) = [0x4100, 0x4000] ∧ MayPut s x3 p 0x4000 4 ∧ MayPut s x3 p 0x4100 4 ∧ MayPut s x3 p (bits d 287 224) (8 * 3) ∧
    MayPut s x3 p (bits d 351 288) (4 * 2) :=
  ⟨runs_of (by decide +kernel), by decide +kernel, by decide +kernel, by decide +kernel, delivers_of (by decide +kernel),
    delivers_of (by decide +kernel), delivers_of (by decide +kernel), by decide +kernel, by decide +kernel, by decide +kernel, by decide +kernel,
    by unfold MayPut; decide +kernel, by unfold MayPut; decide +kernel, by unfold MayPut; decide +kernel, by unfold MayPut; decide +kernel⟩
theorem witness_EnginesComplete_combine : let s := cb2S; let d := cb2; let p := on2 (fd d)
    Running s c2 x3 p ∧ dOpc d = 0x0B ∧ bits d 331 328 ≤ 2 ∧ bits d 306 304 + 1 = 2 ∧ bits d 303 288 = 2 ∧ bits d 287 224 = 0 ∧
    Delivers s x3 p (bits d 95 32) (8 * (2 * 2)) ∧
    [0, 1, 2, 3].map (fun j => bits (ofBytes (procBytes s p (bits d 95 32 + 8 * j) 8)) 31 0) = [0, 0xFFFFFF00, 0x100, 0] ∧
    Delivers s x3 p (bits d 159 96) 16 ∧ ofBytes (procBytes s p (bits d 159 96) 8) = 0x4000 ∧ addrBad 0x4000 (typeAlign (bits d 327 324)) = false ∧
    Delivers s x3 p 0x4000 (rowBytes (bits d 327 324) (bits d 323 307)) ∧ Delivers s x3 p 0x4004 (rowBytes (bits d 327 324) (bits d 323 307)) ∧
    MayPut s x3 p (bits d 223 160) (rowBytes (bits d 331 328) (bits d 323 307) * 2) := by
  refine ⟨runs_of (by decide +kernel), ?_, ?_, ?_, ?_, ?_, delivers_of (by decide +kernel), ?_, delivers_of (by decide +kernel),
    ?_, ?_, delivers_of (by decide +kernel), delivers_of (by decide +kernel), by unfold MayPut; decide +kernel⟩ <;> decide +kernel
/-- COMPRESS of two zero blocks. -/
def czd : Nat := 0x0C + 0x3000 * 2 ^ 32 + 0x5000 * 2 ^ 96 + 0x6000 * 2 ^ 160 + 2 * 2 ^ 224
theorem witness_EnginesComplete_compress : let s := runP (fd czd); let d := czd; let p := on2 (fd d)
    Running s c2 x3 p ∧ dOpc d = 0x0C ∧ bits d 247 224 = 2 ∧ Delivers s x3 p (bits d 95 32) (256 * 2) ∧ s.noCmpr (s.ctxTenant x3.val) = false ∧
    bits d 95 32 / 64 / 2 ^ 24 = (bits d 95 32 + 511) / 64 / 2 ^ 24 ∧ exCloaked ((s.bank p.epoch).extent (bits d 95 32 / 64 / 2 ^ 24)) = false ∧
    bit d 249 = false ∧ [0, 1].map (codedBlock s p) = [(0, []), (0, [])] ∧ MayPut s x3 p (bits d 159 96 + 256 * 0) 1 ∧
    MayPut s x3 p (bits d 159 96 + 256 * 1) 1 ∧ MayPut s x3 p (bits d 223 160) (2 / 2) := by
  refine ⟨runs_of (by decide +kernel), ?_, ?_, delivers_of (by decide +kernel), ?_, ?_, ?_, ?_, ?_, by unfold MayPut; decide +kernel, by unfold MayPut; decide +kernel, by unfold MayPut; decide +kernel⟩ <;> decide +kernel
theorem witness_EnginesComplete_expand : let s := ex2S; let d := ex2d; let p := on2 (fd d)
    Running s c2 x3 p ∧ dOpc d = 0x0D ∧ s.flag CMPR_CTL_STRICT = false ∧ bits d 247 224 = 2 ∧ Delivers s x3 p (bits d 223 160) ((2 + 1) / 2) ∧
    [0, 1].map (mapEntry s p) = [0, 4] ∧ bits d 95 32 < 2 ^ 48 ∧ Delivers s x3 p (bits d 95 32) 256 ∧ MayPut s x3 p (bits d 159 96) (256 * 2) :=
  ⟨runs_of (by decide +kernel), by decide +kernel, by decide +kernel, by decide +kernel, delivers_of (by decide +kernel), by decide +kernel,
    by decide +kernel, delivers_of (by decide +kernel), by unfold MayPut; decide +kernel⟩
theorem witness_EnginesComplete_batch : let s := ba2S; let d := ba2; let p := on2 (fd d)
    Running s c2 x3 p ∧ dOpc d = 0x0E ∧ bits d 166 160 = 2 ∧ Delivers s x3 p (bits d 95 32) (48 * 2) ∧
    [0, 1].map (fun i => ((batchOp s p i).addr, atomicListed (batchOp s p i).op (batchOp s p i).ty,
      (batchOp s p i).addr % (atomicBits (batchOp s p i).ty / 8))) = [(0x4000, true, 0), (0x4008, true, 0)] ∧
    MayPut s x3 p 0x4000 1 ∧ MayPut s x3 p 0x4008 1 ∧ bits d 159 96 = 0 :=
  ⟨runs_of (by decide +kernel), by decide +kernel, by decide +kernel, delivers_of (by decide +kernel), by decide +kernel,
    by unfold MayPut; decide +kernel, by unfold MayPut; decide +kernel, by decide +kernel⟩

end Desc

namespace Tier

/-- Extent 0 paged under policy 0: T1, T3 and T4 allowed, area 0 on tray port 30. -/
def pgS : State :=
  let s := (memS true)
  let s := (((((s.set TIER_POL_A_PAGED 1 0 0).set TIER_POL_A_T1_EN 1 0 0).set TIER_POL_A_T3_EN 1 0 0).set TIER_POL_A_T4_EN 1 0 0).set TIER_CTL_PACK_EN 1).set TIER_CTL_PROMOTE_EN 1
  let s := (((s.set CMPR_SMAP_A_PORT 30).onPg .tier).cxlS 30 1).set TIER_AREA_W0_PORT 30 0 0
  let s := ((s.set TIER_AREA_W1_SIZE_GIB 4 0 0).set TIER_T4_CFG_SIZE_GIB 4).set TIER_POL_B_PROMOTE_READS 2 0 0
  { s with map := { s.map with cur := { s.map.cur with extents := [(0, 5)] } }, pool := { s.pool with cur := { s.pool.cur with smap := (List.range 256).map (fun i => (768 + i, 0)) } }, tier := { s.tier with t1 := [], ents := [(3, { tier := .t2, frame := 16, len := 16 })] } }
theorem test_tier_tierWindowEnd : (let s := { pgS with tier := { pgS.tier with winReads := [(3, 2)] } }; let t := aft .tierWindowEnd s; s.promotable 3 && okc .tierWindowEnd s { s with tier := t.tier } && decide (t.tier.moves = [(3, .promote, 1)] ∧ t.tier.winReads = [])) = true := by decide +kernel
def pmS : State := { pgS with tier := { pgS.tier with moves := [(3, .promote, 1)] } }
theorem test_tier_tierMoveDone : (let s := pmS; let t := aft (.tierMoveDone 3) s; decide (t.pool = s.pool ∧ t.ports = s.ports ∧ t.tier.moves = [] ∧ t.tier.t1 = [(3, { stack := s.stackOf (s.extentAt 1 (65536 * 3)) 3 })] ∧ t.tally .tier 1 = s.tally .tier 1 + 1)) = true := by decide +kernel
theorem test_tier_coldTimer : (pgS.packable 3 && decide (pgS.packFrames (pgS.extentAt 1 (65536 * 3)) 3 = 1) && okc (.coldTimer 3) pgS { pgS with tier := { pgS.tier with moves := [(3, .pack, 1)] } }) = true := by decide +kernel
theorem test_tier_packDone : (let s := { pgS with tier := { pgS.tier with moves := [(3, .pack, 1)] } }; let t := aft (.packDone 3) s; decide (s.freeRun 1 1 = some 0 ∧ t.pool = s.pool ∧ t.ports = s.ports ∧ t.tier.moves = [] ∧ t.pageEnt 3 = { tier := .t3, frame := 0, len := 1 } ∧ t.tally .tier 3 = s.tally .tier 3 + 1)) = true := by decide +kernel
def t3S : State := { pgS with tier := { pgS.tier with ents := [(3, { tier := .t3, frame := 16, len := 2 })] } }
theorem test_tier_t4Timer : okc (.t4Timer 3) t3S { t3S with tier := { t3S.tier with moves := [(3, .toT4, 1)] } } = true := by decide +kernel
theorem test_tier_t4CopyDone : (let s := { t3S with tier := { t3S.tier with moves := [(3, .toT4, 1)] } }; let t := aft (.t4CopyDone 3) s; decide (t = { s with tier := t.tier } ∧ t.tier.moves = [] ∧ s.freeT4 2 = some 0 ∧ t.pageEnt 3 = { tier := .t4, frame := 0, len := 2 })) = true := by decide +kernel
theorem test_tier_expandDone : (let s := { t3S with tier := { t3S.tier with moves := [(3, .expandT2, 1)] } }; let t := aft (.expandDone 3) s; decide (t.pool = s.pool ∧ t.ports = s.ports ∧ t.tier.moves = [] ∧ s.freeRun 16 16 = some 0 ∧ s.keyless ((s.bank 1).tenantOf (s.extentAt 1 (65536 * 3))) = false ∧ t.pageEnt 3 = { tier := .t2, frame := 0, len := 16 } ∧ t.tally .tier 4 = s.tally .tier 4 + 1)) = true := by decide +kernel
/-- Unit 0 dirty in T1. -/
def dtS : State := let s := memS true
  { s with tier := { s.tier with t1 := [(0, { stack := 0, dirty := 1 })] }, pool := { s.pool with cur := { s.pool.cur with bytes := [(5, 7)] } } }
def dtS2 : State := { dtS with tier := { dtS.tier with wbs := [(0, false)] } }
theorem test_tier_wbTimer : (dtS.isDirty 0 && okc (.wbTimer 0) dtS dtS2) = true := by decide +kernel
theorem test_tier_writebackDone : (let s := ((dtS2.cxlS 30 1)); let s := { s with map := { s.map with cur := { s.map.cur with places := [(0, 30)] } } }; let t := aft (.writebackDone 0) s; decide (s.canReach 0 = true ∧ t.pool.cur = s.pool.cur ∧ t.tier.wbs = [] ∧ t.isDirty 0 = false ∧ t.pool.tray.bytes = [(5, 7)])) = true := by decide +kernel
theorem test_tier_tierRebuild : (let s := upS.onPg .tier; let t := aft (.tierRebuild .bar0 4) s; decide (s.holdsWrites ⟨.tier, 0⟩ = false ∧ t = { s with regs := t.regs, tier := { s.tier with rebuild := some 4 } } ∧ t.rd TIER_REBUILD_STAT_RESULT = rcOk ∧ t.flag TIER_REBUILD_STAT_BUSY = true)) = true := by decide +kernel
theorem test_tier_tierRebuild_2 : (let s := upS.onPg .tier; let s := { s with tier := { s.tier with rebuild := some 5, headBad := [(0, 1), (3, 1)] } }; let t := aft (.tierRebuild .bar0 4) s; let u := aft .rebuildDone s; decide (t = { s with regs := t.regs } ∧ t.rd TIER_REBUILD_STAT_RESULT = rcExhausted ∧ u.tier.rebuild = none ∧ u.headFailed 5 0 1 = false ∧ u.headFailed 7 0 1 = true ∧ u.pool = s.pool ∧ u.flag TIER_REBUILD_STAT_BUSY = false)) = true := by decide +kernel
theorem test_tier_smapInitDone : (let s := memS true; let m := { s.map with smapInit := [7, 9] }; okc (.smapInitDone 7) { s with map := m } { s with map := { m with smapInit := [9] } }) = true := by decide +kernel
theorem test_tier : (let s := dtS; decide (s.home.dir = [] ∧ s.tier.lostStacks = [] ∧ s.tier.t1 = [(0, { stack := 0, dirty := 1 })] ∧ exRedund (s.map.cur.extent (65536 * 0 / 2 ^ 30)) = 0) && (s.loseUnit 0 0).pool.cur.poison.length == 64) = true := by decide +kernel
/-- A registered image at 0x1000: two steps, LOOK 1, ring log2 4. Step lists empty. -/
def scS (c : Sched) : State := let s := ((memS true).onPg .pref).onPg .ctx 3
  { s with tier := { s.tier with scheds := [(schedKey 3 2, c)] } }
def sc0 : Sched := { steps := 2, loop := false, cont := false, rec_ := false, look := 1, recLog2 := 4, recAddr := 0, image := 0x1000 }
/-- The same, not registered, its image in memory. -/
def imS : State := let s := ((memS true).onPg .pref).onPg .ctx 3
  { (s.set CTX_PREF_LO_ADDR 0x1000 3) with pool := { s.pool with cur := { s.pool.cur with bytes := [(0x1000, 2), (0x1002, 0x41), (0x1020, 5), (0x1030, 5)] } } }
def X3 : CtxId := 3
theorem test_tier_prefRegister : (decide (imS.holdsWrites ⟨.ctx, 3⟩ = false) && decide (imS.prefRefusal 3 2 0x1000 = 0) && (let s := imS; let t := aft (.prefRegister .bar0 X3 2) s; decide (t = { s with regs := t.regs, tier := t.tier } ∧ t.tier.t1 = s.tier.t1 ∧ t.rd CTX_PREF_CMD_RESULT 3 = rcOk ∧ t.tier.scheds = [(schedKey 3 2, { sc0 with recLog2 := 4 })]))) = true := by decide +kernel
theorem test_tier_prefRegister_2 : (decide ((imS.set CTX_PREF_LO_ADDR 0x1004 3).prefRefusal 3 2 0x1004 = rcAlign) && (let s := imS.set CTX_PREF_LO_ADDR 0x1004 3; let t := aft (.prefRegister .bar0 X3 2) s; decide (t = { s with regs := t.regs} ∧ t.rd CTX_PREF_CMD_RESULT 3 = rcAlign))) = true := by decide +kernel
theorem test_tier_prefUnregister : (let s := scS sc0; let t := aft (.prefUnregister .bar0 X3 2) s; decide (t.pool = s.pool ∧ t.ports = s.ports ∧ t.tier.scheds = [])) = true := by decide +kernel
theorem test_tier_stepAdvance : (let s := imS; let t := aft (.stepAdvance .bar0 X3 2) s; let u := aft (.stepSet .bar0 X3 2 7) s; decide (t.tier = s.tier ∧ t.pool = s.pool ∧ t.tally .pref 2 = s.tally .pref 2 + 1 ∧ u.tier = s.tier ∧ u.pool = s.pool ∧ u.tally .pref 2 = s.tally .pref 2 + 1)) = true := by decide +kernel
theorem test_tier_stepAdvance_2 : (let s := { imS with tier := (scS sc0).tier }; let t := aft (.stepAdvance .bar0 X3 2) s; let u := aft (.stepSet .bar0 X3 2 1) s; decide (t.pool = s.pool ∧ (t.tier.scheds.map (fun c => (c.1, c.2.clock))) = [(schedKey 3 2, some 0)] ∧ u.pool = s.pool ∧ (u.tier.scheds.map (fun c => (c.1, c.2.clock))) = [(schedKey 3 2, some 1)])) = true := by decide +kernel
theorem test_tier_stepAdvance_3 : (let s := { imS with tier := (scS { sc0 with clock := some 1 }).tier }; let t := aft (.stepAdvance .bar0 X3 2) s; decide (t.pool = s.pool ∧ (t.tier.scheds.map (fun c => (c.1, c.2.clock, c.2.staging))) = [(schedKey 3 2, none, [])])) = true := by decide +kernel
theorem test_tier_prefDeadline : (let c := { sc0 with clock := some 1, staging := [(1, 3)] }; let s := { imS with tier := (scS c).tier }; let t := aft (.prefDeadline X3 2) s; decide (t.pool = s.pool ∧ t.tally .pref 1 = s.tally .pref 1 + 1 ∧ t.tier.scheds = [(schedKey 3 2, { c with deadlinePast := true, late := c.late + 1, fallback := true, staging := [] })])) = true := by decide +kernel
theorem test_tier_prefStageDone : (let c := { sc0 with clock := some 1, staging := [(1, 3)] }; let s := imS.cxlS 30 1; let s := { s with tier := { (scS c).tier with t1 := [] }, map := { s.map with cur := { s.map.cur with places := [(0, 30)] } } }; let t := aft (.prefStageDone X3 2 3) s; decide (s.tierOf (s.extentAt s.epoch (65536 * 3)) (65536 * 3) = .t2 ∧ t.pool = s.pool ∧ t.tier.scheds = [(schedKey 3 2, { c with staging := [] })] ∧ t.tier.t1.map (fun q => (q.1, q.2.pins, q.2.dirty)) = [(3, [(3, 2, 1)], 0)])) = true := by decide +kernel
theorem test_tier_2 : (let s := upS.set REPL_CAP_GIB 24; decide ((State.onEnable s s ⟨.tier, 0⟩).rd TIER_NEAR_GIB = 500)) = true := by decide +kernel
theorem witness_PagesMoveBetweenTiers_window : let s := { pgS with tier := { pgS.tier with winReads := [(3, 2)] } }
    s.flag TIER_CTL_PROMOTE_EN = true ∧ s.enabled .tier = true ∧ (3, 2) ∈ s.tier.winReads ∧ s.promotable 3 = true ∧
      s.pol TIER_POL_B_PROMOTE_READS (s.extentAt s.epoch (65536 * 3)) ≤ 2 ∧ ((memS true).set TIER_CTL_PROMOTE_EN 0).flag TIER_CTL_PROMOTE_EN = false := by
  decide +kernel
/-- A line of page 3 is on its way from its owner. -/
def puS : State := { pmS with home := { pmS.home with txns := [{ id := 0, line := 3072, src := .engine 2, acc := .pull, epoch := 1 }] } }
theorem witness_PagesMoveBetweenTiers_pulled : Tbl.get? puS.tier.moves 3 = some (.promote, 1) ∧ puS.pagePulled 3 = true := by decide +kernel
theorem witness_PagesMoveBetweenTiers_promote : NoReplicas pmS ∧ pmS.home.dir = [] ∧ pmS.home.txns = [] ∧
    Tbl.get? pmS.tier.moves 3 = some (.promote, 1) ∧ pmS.nearRoom = true ∧ pmS.pageReads 1 3 = true :=
  ⟨⟨by decide +kernel, by decide +kernel, by decide +kernel⟩, by decide +kernel⟩
theorem witness_PagesMoveBetweenTiers_pack : let s := { pgS with tier := { pgS.tier with moves := [(3, .pack, 1)] } }
    NoReplicas s ∧ Tbl.get? s.tier.moves 3 = some (.pack, 1) ∧ s.pageReads 1 3 = true ∧ s.freeRun (s.packFrames (s.extentAt s.epoch (65536 * 3)) 3) 1 = some 0 ∧
      (memS true).packable 3 = false :=
  ⟨⟨by decide +kernel, by decide +kernel, by decide +kernel⟩, by decide +kernel⟩
theorem witness_PagesMoveBetweenTiers_t4 : let s := t3S; let x := s.extentAt s.epoch (65536 * 3)
    exValid x = true ∧ s.paged x = true ∧ s.pol TIER_POL_A_T4_EN x = 1 ∧ s.rd TIER_T4_CFG_SIZE_GIB ≠ 0 ∧ (s.pageEnt 3).tier = .t3 ∧
      Tbl.get? s.tier.moves 3 = none ∧ s.freeT4 (s.pageEnt 3).len = some 0 ∧ s.tier.t4Reads = [] ∧ s.freeRun 16 16 = some 0 ∧
      s.keyless ((s.bank 1).tenantOf (s.extentAt 1 (65536 * 3))) = false := by decide +kernel
theorem witness_PagesMoveBetweenTiers_writeback : let s := dtS2.cxlS 30 1
    dtS.isDirty 0 = true ∧ dtS.tier.wbs = [] ∧ exRedund (dtS.map.cur.extent 0) ≠ 2 ∧ s.tier.wbs = [(0, false)] ∧ s.tier.wbAgain = [] ∧
      s.isDirty 0 = true ∧ Memory.wf s.pool.cur.bytes = true ∧ Memory.wf s.pool.tray.bytes = true ∧
      State.canReach { s with map := { s.map with cur := { s.map.cur with places := [(0, 30)] } } } 0 = true := by decide +kernel
theorem witness_PagesMoveBetweenTiers_stripe : let s := { dtS with map := { dtS.map with cur := { dtS.map.cur with extents := [(0, 1 + 2 * 2 ^ 4)] } } }
    s.home.dir = [] ∧ s.home.txns = [] ∧ s.isDirty 0 = true ∧ s.tier.wbs = [] ∧ exRedund (s.map.cur.extent 0) = 2 := by decide +kernel
theorem witness_SchedulesStagePages_register : imS.Takes .bar0 ⟨.ctx, 3⟩ ∧
    imS.prefRefusal 3 2 (imS.rd CTX_PREF_LO_ADDR 3 + 2 ^ 32 * imS.rd CTX_PREF_HI_ADDR 3) = rcOk ∧
    (imS.set CTX_PREF_LO_ADDR 0x1004 3).Takes .bar0 ⟨.ctx, 3⟩ ∧ (imS.set CTX_PREF_LO_ADDR 0x1004 3).prefRefusal 3 2 0x1004 ≠ rcOk ∧
    Tbl.get? imS.tier.scheds (schedKey 3 2) = none ∧ imS.home.dir = [] ∧ imS.home.txns = [] ∧ imS.tier.prefOps = [] :=
  ⟨takes_of (by decide +kernel), by decide +kernel, takes_of (by decide +kernel), by decide +kernel, by decide +kernel⟩
/-- The image's first line owned by port 5. -/
def owS : State := { imS with home := { imS.home with dir := [(0x40, { st := .m, owner := 5, sharers := 0 })] } }
theorem witness_SchedulesStagePages_owned : owS.Takes .bar0 ⟨.ctx, 3⟩ ∧ owS.home.txns = [] ∧ owS.tier.prefOps = [] ∧
    owS.ownedRun (owS.rd CTX_PREF_LO_ADDR 3 + 2 ^ 32 * owS.rd CTX_PREF_HI_ADDR 3, 32) = true := ⟨takes_of (by decide +kernel), by decide +kernel⟩
theorem witness_SchedulesStagePages_clock : (scS sc0).Takes .bar0 ⟨.ctx, 3⟩ ∧ Tbl.get? (scS sc0).tier.scheds (schedKey 3 2) = some sc0 ∧
    sc0.clock = none ∧ 0 < sc0.steps ∧ 1 < sc0.steps ∧ sc0.rec_ = false ∧ sc0.loop = false ∧ { sc0 with clock := some 1 }.steps ≤ 1 + 1 :=
  ⟨takes_of (by decide +kernel), by decide +kernel⟩
theorem witness_SchedulesStagePages_stage : let c := { sc0 with clock := some 1, staging := [(1, 3)] }
    let s := { imS.cxlS 30 1 with tier := { (scS c).tier with t1 := [] }, map := { imS.map with cur := { imS.map.cur with places := [(0, 30)] } } }
    s.tier.scheds = [(schedKey 3 2, c)] ∧ c.deadlinePast = false ∧ c.waitIssue = [] ∧ c.cont = false ∧ NoReplicas s ∧
      Tbl.get? s.tier.t1 3 = none ∧ s.nearRoom = true ∧ s.tierOf (s.extentAt s.epoch (65536 * 3)) (65536 * 3) = .t2 ∧
      s.home.dir = [] ∧ s.home.txns = [] ∧ s.tier.prefOps = [] ∧ s.pageReads s.epoch 3 = true :=
  ⟨by decide +kernel, by decide +kernel, by decide +kernel, by decide +kernel, ⟨by decide +kernel, by decide +kernel, by decide +kernel⟩,
    by decide +kernel⟩
theorem witness_StacksAndDieLinksFail_RebuildsAndLostStacks : (upS.onPg .tier).Takes .bar0 ⟨.tier, 0⟩ ∧ (upS.onPg .tier).tier.rebuild = none :=
  ⟨takes_of (by decide +kernel), by decide +kernel⟩
theorem witness_StacksAndDieLinksFail_RebuildsAndLostStacks_running : let s := upS.onPg .tier; let t := { s with tier := { s.tier with rebuild := some 5 } }
    t.Takes .bar0 ⟨.tier, 0⟩ ∧ t.tier.rebuild = some 5 := ⟨takes_of (by decide +kernel), by decide +kernel⟩
theorem witness_StacksAndDieLinksFail_RebuildsAndLostStacks_fail : let s := dtS
    (0 : DieId).val ∉ s.tier.lostStacks ∧ s.home.dir = [] ∧ s.tier.t1 = [(0, { stack := 0, dirty := 1 })] ∧
      exRedund (s.map.cur.extent (65536 * 0 / 2 ^ 30)) = 0 ∧ s.tier.t1.all (fun q => q.2.stack != 4) = true := by decide +kernel

end Tier

namespace Map

def egq (t : State) (p : Nat := 5) : List Queued := (t.port p).egress
def eg (t : State) (p : Nat := 5) : List Msg := (t.port p).egress.map (·.msg)
def P6 : PortId := 6
def mp : State := ((memS true).onPg .map).set MAP_STAT_PENDING_READY 1
theorem test_map_mapCommit : (let s := mp; let t := aft (.mapCommit .eth) s; decide (t = { s with regs := t.regs } ∧ t.flag MAP_COMMIT_COMMIT = true)) = true := by decide +kernel
theorem test_map_mapXfer : (let s := mp; let t := aft (.mapXfer .eth 3 9) s; decide (t.flag MAP_COMMIT_COMMIT = true ∧ t.map.cur = s.map.cur ∧ exOwner (t.map.pend.extent 3) = 9 ∧ t.pool = s.pool)) = true := by decide +kernel
theorem test_map_commitCheckDone : (let s := (mp.set MAP_COMMIT_COMMIT 1); let s := { s with map := { s.map with pend := { s.map.cur with extents := [], routes := [], binds := [(5, 2)] } } }; let t := aft .commitCheckDone s; decide (s.commitRefusal = some (1, some (2, 5)) ∧ t = { s with regs := t.regs } ∧ t.flag MAP_COMMIT_COMMIT = false ∧ t.rd MAP_STAT_RESULT = 1)) = true := by decide +kernel
def cm2 : State := let s := (mp.set MAP_COMMIT_COMMIT 1); { s with map := { s.map with pend := { s.map.cur with extents := [], routes := [] } } }
theorem test_map_commitCheckDone_2 : (let s := cm2; let t := aft .commitCheckDone s; decide (s.commitRefusal = none ∧ t.flag MAP_COMMIT_COMMIT = false ∧ t.rd MAP_STAT_RESULT = 0 ∧ t.map.cur = s.map.pend ∧
      t.map.draining = some s.map.cur ∧ t.epoch = (s.epoch + 1) % 2 ^ 16 ∧ t.rd MAP_EPOCH_DRAINING = s.epoch ∧ t.draining = true ∧
      t.flag MAP_STAT_PENDING_READY = false ∧ t.tally .map 0x01 = s.tally .map 0x01 + 1)) = true := by decide +kernel
theorem test_map_commitCheckDone_3 : (let s := aft .commitCheckDone cm2; let t := aft .pendingReloadDone s; decide (t = { s with regs := t.regs } ∧ t.flag MAP_STAT_PENDING_READY = true)) = true := by decide +kernel
def dr : State := let s := aft .commitCheckDone cm2; { s with map := { s.map with held := [held 2 (.rd P5 (hd 1 0))] } }
theorem test_map_commitCheckDone_4 : (let s := dr; let t := s.epochRetire; decide (s.inflight = 0 ∧ t = { s with regs := t.regs, map := t.map, home := t.home, pool := t.pool } ∧ t.pool = s.pool ∧ t.draining = false ∧ t.map.draining = none ∧
      t.map.held = [] ∧ t.home.blocked = s.map.held ++ s.home.blocked ∧ t.map.cur = s.map.cur)) = true := by decide +kernel
def drx : State := let s := aft .commitCheckDone cm2; { s with home := { s.home with txns := [{ id := 4, line := 3, src := .yd 5 (hd 1 2), acc := .readUnc 0 64, epoch := 1 }] } }
theorem test_map_drainExpiry : (let s := drx; let t := aft .drainExpiry s; decide (s.draining = true ∧ s.rd MAP_EPOCH_DRAINING = 1 ∧ s.inflight = 1 ∧ t.home.txns = [] ∧ t.draining = false ∧ t.isTainted 0 = true ∧ t.pool = s.pool ∧
      t.flag MAP_STAT_DRAIN_EXPIRED = true ∧ bit (t.pgErr ⟨.map, 0⟩) 16 = true ∧ eg t = [(.yd 0x05 (replyHdr s (hd 1 2) stPoisoned.toNat true) (lineSlots 0))] ∧ s.epochRetire = s)) = true := by decide +kernel
theorem test_map_dcdRelease : (let s := mp; let s := { s with map := { s.map with dcdWait := [(5, 7)] } }; let t := aft (.dcdRelease P5 7) s; decide (t = { s with ports := t.ports, map := { s.map with dcdWait := [] } } ∧
      egq t = [{ q := 3, msg := .dcd false 7 true }])) = true := by decide +kernel
def ho (st : HoState) (last : Option (BitVec 8 × HandMsg)) (q : List Held := []) : State :=
  let s := ((upS.ydS 6 2 88).set DEV_ID_FEID 9).modPort 6 (fun x => { x with partnerDev := 4 })
  { s with map := { s.map with cur := { s.map.cur with binds := [(6, 1 + 4 * 2 ^ 4 + 88 * 2 ^ 16 + 1 * 2 ^ 32)] }, ho := [(3, { st := st, peer := 4, feid := 88, xfer := 7, last := last, queue := q })] }, home := { s.home with dir := [(3*2^24+1, {st := .m, owner := 3})] } }
def hm : HandMsg := { src := 88, xfer := 7, sumAddr := 4096, sumLen := 0 }
theorem test_map_rd : (let s := ho .giving none [held 1 (.rd 6 (hd 1 2))]; let t := aft (.giveReady 3) s; decide (s.giveReadyFor 3 = true ∧ s.portOfFeid 88 = some 6 ∧ (t.map.ho.map (fun h => (h.1, h.2.st, h.2.last.isSome)) = [(3, .giving, true)]) ∧ t.home = s.home ∧ t.pool = s.pool ∧ (s.summaryOf 3).length = 1 ∧ (egq t 6).map (fun e => (e.q, match e.msg with | .handoff k f m => (k, f, m.xfer, m.sumLen) | _ => default)) = [(1, hoGive, 88, 7, 16)])) = true := by decide +kernel
theorem test_map_summaryStored : (let s := ho .awaiting (some (hoGive, hm)) []; let t := aft (.summaryStored 3) s; decide (t.map.ho.map (fun h => (h.1, h.2.st)) = [(3, .taking)] ∧ t.home = s.home ∧ egq t 6 = [{ q := 1, msg := .handoff hoTake 88 { src := 9, xfer := 7 } }])) = true := by decide +kernel
theorem test_map_rd_2 : (let s := ho .taking (some (hoTake, hm)) [held 1 (.rd 6 (hd 1 2))]; let t := aft (.handoffRetransmit 3) s; decide (t = { s with ports := t.ports } ∧ egq t 6 = [{ q := 1, msg := .handoff hoTake 88 { hm with src := 9, queued := 1 } }])) = true := by decide +kernel
theorem test_map_rd_3 : (let s := ho .giving none [held 1 (.rd 6 (hd 1 2))]; let t := s.hoLimit 3; decide (t.map.ho.map (fun h => (h.1, h.2.st, h.2.queue)) = [(3, .owned, [])] ∧ t.home.blocked = [held 1 (.rd 6 (hd 1 2))] ∧ t.ports = s.ports)) = true := by decide +kernel
theorem test_map_rd_4 : (let s := ho .awaiting none [held 1 (.rd 6 (hd 1 2))]; let t := aft (.handoffLimit 3) s; decide (t.map.ho.map (fun h => (h.1, h.2.st, h.2.queue)) = [(3, .failed, [])] ∧ t.pool = s.pool ∧ eg t 6 = [.yd 0x06 (replyHdr s (hd 1 2) stHandoffFailed.toNat) []])) = true := by decide +kernel
def sn (e : DirEntry) : State := let s := memS false; { s with home := { s.home with dir := [(1, e)], snoopsTo := [(5, 1)] } }
def noted (s t : State) : Bool := decide (t.home.snoopsTo = [] ∧ t.tally .home 0x07 = s.tally .home 0x07 + 1 ∧
      bit (t.pgErr ⟨.home, 0⟩) 16 = true ∧ t.flag HOME_SNPTO_VALID = true ∧ t.rd HOME_SNPTO_PORT = 5 ∧
      t.rd HOME_SNPTO_ADDR_LO_LINE_ADDR + 2 ^ 32 * t.rd HOME_SNPTO_ADDR_HI_LINE_ADDR = 64 ∧ t.ports = s.ports)
theorem test_map_snoopTimeout : (let s := sn { st := .m, owner := 5 }; let t := aft (.snoopTimeout P5 70) s; noted s t && decide (t.dirAt 1 = none ∧ t.pool = (s.poisonLine 64).pool)) = true := by decide +kernel
theorem test_map_snoopTimeout_2 : (let s := sn { st := .s, sharers := 2 ^ sharerBit 5 + 2 }; let t := aft (.snoopTimeout P5 70) s; noted s t && decide (t.dirAt 1 = some { st := .s, sharers := 2 } ∧ t.pool = s.pool)) = true := by decide +kernel
theorem test_map_dirMirrorRebuilt : (let s := upS; let t := aft .dirMirrorRebuilt s; decide (t = { s with regs := t.regs } ∧ t.flag HOME_DIRSTAT_MIRROR_OK = true)) = true := by decide +kernel
def rp : State := let s := ((((memS true).onPg .repl).set REPL_CTL_LOCAL_EN 1).set REPL_CAP_GIB 1).mapRepl (fun r => { r with reads := [(7, 1024), (9, 1025), (8, 4)], writes := [(7, 1), (9, 1)] }); s
theorem test_map_replWindowEnd : (let s := rp; let t := aft .replWindowEnd s; decide (t = { s with home := t.home } ∧ t.home.repl.cands = [9, 8] ∧ t.home.repl.reads = [] ∧ t.home.repl.fills = [])) = true := by decide +kernel
theorem test_map_replFillDone : (let s := rp.mapRepl (fun r => { r with fills := [(7, true)] }); let t := aft (.replFillDone 7) s; decide (t = { s with home := t.home } ∧ t.home.repl.fills = [] ∧ t.home.repl.local_ = [])) = true := by decide +kernel
theorem test_map_replInvRetransmit : (let s := (ho .giving none).mapRepl (fun r => { r with invWait := [(7, [(88, 5)])] }); let t := aft (.replInvRetransmit 7) s; decide (t = { s with ports := t.ports } ∧ egq t 6 = [{ q := 1, msg := replMsg s 88 0x11 7 5 }])) = true := by decide +kernel
def pb (id : Nat) : State := (((upS.onPg .pub).set DEV_ID_DEVICE_ID 2).set PUB_CMD_REGION_REGION id).set PUB_CMD_ARG_TENANT 6
theorem test_map_pubCreate : (let s := pb (2 * 2^20 + 7); let t := aft (.pubCreate .eth) s; let u := aft (.pubDestroy .eth) s; let v := aft (.pubCreate .eth) t; let w := aft (.pubDestroy .eth) t; decide (t = { s with regs := t.regs, pub := t.pub } ∧ t.rd PUB_STAT_RESULT = rcOk ∧ t.pub.regions.map (fun r => (r.1, r.2.tenant, r.2.cur, r.2.retain)) = [(7, 6, 0, s.rd PUB_CMD_ARG_RETAIN)] ∧ u = { s with regs := u.regs } ∧ u.rd PUB_STAT_RESULT = rcDependency ∧ v = {t with regs := v.regs} ∧ v.rd PUB_STAT_RESULT = rcOverlap ∧ w.rd PUB_STAT_RESULT = rcOk ∧ w.pub.regions = [])) = true := by decide +kernel
theorem test_map_pubCreate_2 : (let s := pb (3 * 2^20 + 7); let t := aft (.pubCreate .eth) s; let u := aft (.pubDestroy .eth) s; decide (t = { s with regs := t.regs} ∧ t.rd PUB_STAT_RESULT = rcFieldRange ∧ u.rd PUB_STAT_RESULT = rcFieldRange)) = true := by decide +kernel
theorem test_map_pubRingTail : (let s := pb 0; let t := aft (.pubRingTail .eth 1048575) s; decide (t.rd PUB_RING_TAIL_TAIL = 1048575 ∧ t.pub = s.pub)) = true := by decide +kernel
def rg : State := let s := ((ho .giving none).onPg .pub).set DEV_ID_DEVICE_ID 2; { s with pub := { s.pub with regions := [(7, { tenant := 0, cur := 3, invWait := [88] })] } }
theorem test_map_rgnInvRetransmit : (let s := rg; let t := aft (.rgnInvRetransmit (2 * 2^20 + 7)) s; decide (t = { s with ports := t.ports } ∧ eg t 6 = [.yd 0x0C (s.ownHdr 88 0 (0x12 + (2 * 2^20 + 7) * 2 ^ 16 + s.rd LIVE_INCARN_INCARN * 2 ^ 48)) [0]])) = true := by decide +kernel
def hp : Hdr := { dst := 9, src := 88, tag := 3, arg := BitVec.ofNat 64 (1 + (2 * 2^20 + 7) * 2 ^ 16) }
/-- A PUBLISH from version 3, pinned, waits for its list. -/
def rgL : State := { rg with home := { rg.home with dir := [] }, pub := { rg.pub with listWait := [(6, hp, [3])], regions := [(7, { tenant := 0, cur := 3, retain := 3, versions := [(3, [])] })], pins := [{ feid := 88, incarn := 6, region := 2 * 2 ^ 20 + 7, ver := 3, count := 1 }] } }
theorem test_map_publishListRead : (let s := rgL; let t := aft (.publishListRead 88 3 [] false) s; decide (t.pub.listWait = [] ∧ t.pool = s.pool ∧ (match Tbl.get? t.pub.regions 7 with | some r => r.cur == nextVer 3 && r.running.isNone && r.versions == [(nextVer 3, []), (3, [])] | none => false) = true ∧ eg t 6 = [.yd 0x0D (replyHdr s hp (pubRspArg 1 stOk (pubRegion hp) false false)) [BitVec.ofNat 128 (nextVer 3)]])) = true := by decide +kernel
theorem test_map_publishListRead_2 : (let s := { rg with pub := { rg.pub with listWait := [(6, hp, [0])] } }; let t := aft (.publishListRead 88 3 [] true) s; decide (t.pub.listWait = [] ∧ t.pool = s.pool ∧ (Tbl.get? t.pub.regions 7).map (fun r => (r.cur, r.running)) = some (3, none) ∧ eg t 6 = [.yd 0x0D (replyHdr s hp (pubRspArg 1 stPoisoned (pubRegion hp) false false)) [BitVec.ofNat 128 3]])) = true := by decide +kernel
theorem witness_CommitsSwitchTheMap : mp.Takes .eth ⟨.map, 0⟩ ∧ mp.flag MAP_COMMIT_COMMIT = false ∧ mp.mgmt.held = [] ∧ mp.mgmt.heldEnt = [] ∧
    mp.mgmt.msgs = [] := ⟨takes_of (by decide +kernel), by decide +kernel⟩
theorem witness_CommitsSwitchTheMap_check : cm2.flag MAP_COMMIT_COMMIT = true ∧ cm2.commitRefusal = none ∧ cm2.map.xferUndo = none ∧
    (let s := { cm2 with map := { cm2.map with pend := { cm2.map.pend with binds := [(5, 2)] } } }
     s.commitRefusal = some (1, some (2, 5)) ∧ s.map.xferUndo = none) := by decide +kernel
theorem witness_CommitsSwitchTheMap_drain : dr.draining = true ∧ dr.inflight = 0 ∧ dr.map.ho = [] ∧ drx.draining = true ∧ 0 < drx.inflight ∧
    mp.draining = false := by decide +kernel
theorem witness_CommitsSwitchTheMap_expiry : (∃ u, drx.home.txns = [u] ∧ u.epoch = drx.rd MAP_EPOCH_DRAINING ∧ u.src = .yd 5 (hd 1 2) ∧
    u.acc = .readUnc 0 64) ∧ drx.tier.wbs = [] ∧ drx.map.commitSnoops = [] ∧ drx.procs.procs = [] ∧ drx.heldAll = [] ∧ drx.map.ho = [] ∧ drx.map.proxied = [] ∧ drx.map.moved = [] ∧ dr.map.moved = [] :=
  ⟨⟨_, rfl, by decide +kernel⟩, by decide +kernel⟩
theorem witness_HandOversProceed_HandOverTimers_give : let s := ho .giving none [held 1 (.rd 6 (hd 1 2))]
    s.giveReadyFor 3 = true ∧ s.portOfFeid 88 = some 6 := by decide +kernel
theorem witness_HandOversProceed_HandOverTimers_answer : (ho .awaiting (some (hoGive, hm)) []).portOfFeid hm.src = some 6 ∧ hm.sumLen.toNat / 16 ≤ 0 ∧
    (ho .taking (some (hoTake, hm))).portOfFeid hm.src = some 6 ∧ (let s := ho .giving none; State.giveReadyFor { s with tier := { s.tier with t1 := [(3 * 2 ^ 14, { stack := 0, dirty := 1 })] } } 3 = false) := by
  decide +kernel
theorem witness_HomeTimers_snoop : (let s := sn { st := .m, owner := 5 }
    s.home.snoopsTo = [(5, (70 : BitVec 48).toNat / 64)] ∧ s.home.txns = [] ∧ s.dirAt 1 = some { st := .m, owner := 5 } ∧
      s.home.snoopsTo.contains (6, 1) = false) ∧
    (let s := sn { st := .s, sharers := 2 ^ sharerBit 5 + 2 }
     s.dirAt 1 = some { st := .s, sharers := 2 ^ sharerBit 5 + 2 } ∧ bit (2 ^ sharerBit 5 + 2) (sharerBit 5) = true) := by decide +kernel
theorem witness_HomeTimers_repl : rp.home.dir = [] ∧ rp.home.txns = [] ∧ rp.enabled .repl = true ∧ rp.quiescing .repl = false ∧ rp.flag REPL_CTL_LOCAL_EN = true ∧
    (9, 1025) ∈ rp.home.repl.reads ∧ 1024 * Tbl.get rp.home.repl.writes 9 0 < 1025 ∧ upS.enabled .repl = false ∧
    (let s := (ho .giving none).mapRepl (fun r => { r with invWait := [(7, [(88, 5)])] })
     Tbl.get s.home.repl.invWait 7 [] = [(88, 5)] ∧ s.portOfFeid (BitVec.ofNat 16 88) = some 6) := by decide +kernel
theorem witness_RegionCommands : let s := pb (2 * 2 ^ 20 + 7)
    s.Takes .eth ⟨.pub, 0⟩ ∧ bits (s.rd PUB_CMD_REGION_REGION) 31 20 = s.rd DEV_ID_DEVICE_ID ∧ bits (s.rd PUB_CMD_REGION_REGION) 19 16 = 0 ∧
      Tbl.get? s.pub.regions (s.rd PUB_CMD_REGION_REGION % 65536) = none ∧ s.pub.regions = [] :=
  ⟨takes_of (by decide +kernel), by decide +kernel⟩
theorem witness_RegionCommands_used : let s := aft (.pubCreate .eth) (pb (2 * 2 ^ 20 + 7))
    s.Takes .eth ⟨.pub, 0⟩ ∧ (∃ r, Tbl.get? s.pub.regions 7 = some r ∧ r.versions = [] ∧ r.running = none ∧ r.waiting = []) ∧
      bits ((pb (3 * 2 ^ 20 + 7)).rd PUB_CMD_REGION_REGION) 31 20 ≠ (pb 0).rd DEV_ID_DEVICE_ID :=
  ⟨takes_of (by decide +kernel), ⟨_, rfl, by decide +kernel⟩, by decide +kernel⟩
theorem witness_RegionCommands_messages : let s := rgL
    (∃ r, rg.region (2 * 2 ^ 20 + 7) = some r ∧ r.invWait = [88]) ∧ rg.portOfFeid 88 = some 6 ∧ s.pub.listWait = [(6, hp, [3])] ∧
      pubKind hp = 1 ∧ (∃ r, s.region (pubRegion hp) = some r ∧ r.stage = 0 ∧ r.closing = false ∧ r.cur = 3 ∧ r.replicas = [] ∧
        r.versions.length ≤ r.retain ∧ (∀ v ∈ r.versions, v.1 = r.cur ∨ s.pinned (s.regionId (pubRegion hp % 65536)) v.1 = true)) ∧
      s.rcFind hp.src (pubIncarn hp) hp.tag = none ∧ (([] : List Word).take (pubCount [3])).map (·.toNat) = [] ∧ s.home.dir = [] ∧ s.home.txns = [] ∧
      s.pinned (s.regionId (pubRegion hp % 65536)) 3 = true := by
  refine ⟨⟨_, rfl, ?_⟩, ?_, ?_, ?_, ⟨_, rfl, ?_⟩, ?_, ?_, ?_, ?_, ?_⟩ <;> decide +kernel

end Map

namespace Filt

def eg (t : State) (p : Nat := 5) : List Queued := (t.port p).egress
def P6 : PortId := 6
def ho (st : HoState) (last : Option (BitVec 8 × HandMsg)) (sm : List Nat := []) : State :=
  let s := (upS.ydS 6 2 88).set DEV_ID_FEID 9
  { s with map := { s.map with cur := { s.map.cur with binds := [(6, 1 + 4 * 2 ^ 4 + 88 * 2 ^ 16 + 1 * 2 ^ 32)] }, ho := [(3, { st := st, peer := 4, xfer := 7, last := last, feid := 88, summary := sm, queue := [held 1 (.rd 5 (hd 1 2))] })] }, home := { s.home with dir := [(3*2^24+1, {st := .m, owner := 3}), (5, {st := .m, owner := 3})] } }
def hm : HandMsg := { src := 88, xfer := 7, sumAddr := 4096, sumLen := 64 }
theorem test_filt_give : (ho .awaiting none).portOfFeid 88 = some 6 ∧ (ho .awaiting none).gate 6 (.give P6 hm) = .pass := by decide +kernel
theorem test_filt_give_2 : (let s := ho .awaiting none; let t := aft (.give P6 hm) s; decide ((t.map.ho.map (fun h => (h.1, h.2.st, h.2.last)) = [(3, .awaiting, some (hoGive, hm))]) ∧ (eg t 6).map (·.msg) = [.yd 0x01 (s.ownHdr 88 (BitVec.ofNat 16 s.home.nextId) 4096) []])) = true := by decide +kernel
theorem test_filt_take : (let s := ho .giving (some (hoGive, hm)); let t := aft (.take P6 hm) s; decide ((t.map.ho.map (fun h => (h.1, h.2.st)) = [(3, .givenUnconfirmed)]) ∧ t.home = s.home ∧ eg t 6 = [{ q := 1, msg := .handoff hoCommit 88 { src := 9, xfer := 7, queued := 1 } }])) = true := by decide +kernel
theorem test_filt_rd : (let s := ho .taking (some (hoTake, hm)); let t := s.recvCommit hm; decide ((t.map.ho.map (fun h => (h.1, h.2.st, h.2.queue)) = [(3, .owned, [])]) ∧ t.home.blocked = [held 1 (.rd 5 (hd 1 2))] ∧ eg t 6 = [{ q := 1, msg := .handoff hoAck 88 { src := 9, xfer := 7 } }])) = true := by decide +kernel
theorem test_filt_commitAck : (let s := ho .givenUnconfirmed none; let s := { s with map := { s.map with ho := s.map.ho.map (fun h => (h.1, {h.2 with queue := []})) } }; let t := aft (.commitAck P6 hm) s; decide ((t.map.ho.map (fun h => (h.1, h.2.st, h.2.giveEpoch)) = [(3, .given, s.epoch)]) ∧ t.home.dir.map (·.1) = [5] ∧ t.ports = s.ports)) = true := by decide +kernel
def ch (pos : Nat) : State := ((((((upS.ydS 6 2 88).set DEV_ID_FEID 9).onPg .filt).set FILT_CHAIN_EN 1).set FILT_CHAIN_LEN 2).set FILT_CHAIN_POS pos).set FILT_CHAIN_FEID_FEID 88 0 1 |>.set FILT_CHAIN_TENANT 3 |>.set FILT_CHAIN_ID 5
def chb (pos : Nat) : State := let s := ch pos; { s with map := { s.map with cur := { s.map.cur with binds := [(6, 1 + 4 * 2 ^ 4 + 88 * 2 ^ 16 + 3 * 2 ^ 32)] } } }
def sumS : State := (ho .giving (some (hoGive, { src := 9, xfer := 7, sumAddr := 4096, sumLen := 64 })) [5, 6, 7, 8]).onPg .home
def sumH : Hdr := { dst := 9, src := 88, tag := 3, arg := 4096 }
theorem test_filt_rd_2 : (let s := sumS; let t := aft (.rd P6 sumH) s; decide (t = { s with ports := t.ports } ∧ eg t 6 = [{ q := 16, msg := .yd 0x05 { dst := 88, src := 9, tag := 3 } (lineSlots (5 + 6 * 2 ^ 128 + 7 * 2 ^ 256 + 8 * 2 ^ 384)) }])) = true := by decide +kernel
def shd : StitchHdr := { src := 88, tag := 3, slot := 2, pos := 1, chain := 5 }
def no : Match := { index := 0, data := 0, prio := 0 }
theorem test_filt_stitchKey : (let s := (chb 0).set FILT_CHAIN_EN 0; let t := aft (.stitchKey P6 shd false 77) s; decide (t = { s with ports := t.ports } ∧ eg t 6 = [{ q := 2, msg := .bestRsp 88 (s.stitchHdr 2 3 stDenied) false no 0 }])) = true := by decide +kernel
theorem test_filt_stitchKey_2 : (let s := ((chb 0).set FILT_CHAIN_CORES_COUNT 0).set CORE_STAT_PSTATE 0; let t := aft (.stitchKey P6 shd true 77) s; decide (bdTenant (s.map.cur.bind 6) = s.rd FILT_CHAIN_TENANT ∧ s.unitsUp s.chainCores = true ∧ s.unitsAsleep s.chainCores = false ∧ t.filt = s.filt ∧ eg t 6 = [{ q := 2, msg := .allRsp 88 (s.stitchHdr 2 3 stOk) true 0 [] }])) = true := by decide +kernel
def chs (all : Bool) (tries := 1) : State := let s := chb 0; { s with filt := { s.filt with slots := [(2, 40)], res := [(40, { key := 77, all := all, unit_ := 0, tries := tries })] } }
theorem test_filt_bestRsp : (let s := chs false; let m : Match := { index := 9, data := 1, prio := 0 }; let t := aft (.bestRsp P6 shd true m 4) s; decide (t = { s with filt := t.filt } ∧ Tbl.get? t.filt.slots 2 = none ∧ Tbl.get? t.filt.res 40 = some { key := 77, all := false, unit_ := 0, tries := 1, done := true, st := 0, hit := some m, fh := 4})) = true := by decide +kernel
theorem test_filt_bestRsp_2 : (let s := chb 0; okc (.bestRsp P6 shd true no 4) s (s.count { blk := .filt, code := 0x06, inst := 0 })) = true := by decide +kernel
theorem test_filt_allRsp : (let s := chs true; let m : Match := { index := 9, data := 1, prio := 0 }; let t := aft (.allRsp P6 shd true 1 [m]) s; decide (1 < s.chainPeers.length ∧ t = { s with filt := t.filt } ∧ t.filt.slots = s.filt.slots ∧ Tbl.get? t.filt.res 40 = some { key := 77, all := true, unit_ := 0, tries := 1, found := [m], lasts := 1})) = true := by decide +kernel
theorem test_filt_stitchFrame : (let s := chb 0; let t := aft (.stitchFrame 5) s; decide (crc8 5 ≠ 0 ∧ s.SameWork t ∧ bit (t.pgErr ⟨.filt, 0⟩) 17 = true ∧ t.tally .filt 0x05 0 = s.tally .filt 0x05 0 + 1 ∧ t.out = s.out)) = true := by decide +kernel
theorem test_filt_stitchFrame_2 : (let s := chb 1; let w := frameOf 5 false 0 0 true false; okc (.stitchFrame w) s (s.emit (.stitchFrame w))) = true := by decide +kernel
theorem test_filt_stitchLapse : (let s := chs true 3; let t := aft (.stitchLapse 2) s; decide (t = { s with filt := t.filt } ∧ t.filt.lapsed = [2] ∧
      Tbl.get? t.filt.slots 2 = none ∧ Tbl.get? t.filt.res 40 = some { key := 77, all := true, unit_ := 0, tries := 3, done := true, st := stTimeout })) = true := by decide +kernel
def cm : State := let s := (upS.onPg .filt); { s with filt := { s.filt with cam := [(100, 7), (5, 9)], shadow := [(5, 2^328+1), (100, 8)] } }
theorem test_filt_filtScrub : (let s := cm.set FILT_ERRS_SCRUB_FIXES 65535; let t := aft (.filtScrub 0 5) s; decide (t.filt.shadow = s.filt.shadow ∧ Tbl.get t.filt.cam 5 0 = 2^328+1 ∧ Tbl.get t.filt.cam 100 0 = 7 ∧ t.rd FILT_ERRS_SCRUB_FIXES = 65535)) = true := by decide +kernel
theorem test_filt : (let t := State.onEnable cm cm ⟨.filt, 0⟩; decide (t.filt.shadow = cm.filt.shadow ∧ Tbl.get t.filt.cam 5 0 = 2^328+1 ∧ Tbl.get t.filt.cam 100 0 = 8 ∧ t.rd FILT_ERRS_SCRUB_FIXES = 2)) = true := by decide +kernel
theorem test_filt_filtSoftError : (let s := cm; let t := aft (.filtSoftError 0 5) s; decide (Tbl.get t.filt.cam 5 0 = 9 ∧ t.camRead 5 = 1 ∧ bit (t.pgErr ⟨.filt, 0⟩) 16 = true ∧ t.rd FILT_LOSS_ENTRY = 5 ∧ t.flag FILT_LOSS_VALID = true)) = true := by decide +kernel
def tu : State := ((((upS.onPg .filt).set FILT_TUCK_G_G 4).set FILT_TUCK_H_H 7).set FILT_TUCK_ENT_IMAGE 77 0 0)
theorem test_filt_tuckArm : (let s := tu; let t := aft (.tuckArm .eth) s; decide (s.tuckRefusal = rcOk ∧ s.tuckH < 2^21 ∧ t.tuckState = tuckRun ∧ t.filt.tuckNext = 7 ∧ t.rd FILT_TUCK_CMD_RESULT = rcOk ∧ t.filt.cam = s.filt.cam)) = true := by decide +kernel
theorem test_filt_tuckArm_2 : (let s := tu.set FILT_TUCK_H_H 4; let t := aft (.tuckArm .eth) s; decide (s.tuckRefusal = rcFieldRange ∧ t = { s with regs := t.regs } ∧ t.rd FILT_TUCK_CMD_RESULT = rcFieldRange ∧ t.tuckState = 0)) = true := by decide +kernel
def tr (n : Nat) : State := let s := tu.set FILT_TUCK_CMD_STATE tuckRun; { s with filt := { s.filt with tuckNext := n, shadow := [(6, 2^328+2^160*15+255), (4, 5*2^160+7)] } }
theorem test_filt_tuckCopy : (let s := tr 7; let t := aft .tuckCopy s; decide (t.tuckState = tuckRun ∧ t.filt.tuckNext = 6 ∧ t.rd FILT_TUCK_CUR_CURSOR = 7 ∧ t.camRead 7 = camStored (s.camRead 6) ∧ t.camRead 6 = s.camRead 6)) = true := by decide +kernel
theorem test_filt_tuckCopy_2 : (let s := tr 5; let t := aft .tuckCopy s; decide (t.tuckState = tuckIdle ∧ t.camRead 5 = camStored (s.camRead 4) ∧ t.camRead 4 = camStored s.tuckEnt ∧ s.tuckEnt = 77)) = true := by decide +kernel
theorem test_filt_tuckAbort : (let s := tr 5; let t := aft (.tuckAbort .eth) s; decide (t.tuckState = tuckIdle ∧ t.filt.cam = s.filt.cam ∧ t.filt.shadow = s.filt.shadow ∧ t.rd FILT_TUCK_CMD_RESULT = rcOk ∧ t.ports = s.ports)) = true := by decide +kernel
def held : State := let s := (chb 0).set FILT_TUCK_CMD_STATE tuckHeld; { s with filt := { s.filt with heldRun := true } }
theorem test_filt_tuckResume : (let s := held; let t := aft (.tuckResume .eth) s; decide (s.chainPos = 0 ∧ t.tuckState = tuckRun ∧ t.rd FILT_TUCK_CMD_RESULT = rcOk ∧ t = { s with regs := t.regs })) = true := by decide +kernel
def arm : State := let s := (chb 0).set FILT_TUCK_CMD_STATE tuckArmed; { s with filt := { s.filt with shadow := [(2^21-1, 2^500+3)] } }
theorem test_filt_tuckContinue : (let s := arm; let t := aft (.tuckContinue P6 shd) s; decide (s.chainFeid 1 = 88 ∧ t.filt.cam = s.filt.cam ∧ t.tuckState = tuckArmed ∧ eg t 6 = [{ q := 2, msg := .tuck 88 (s.stitchHdr 0 0 stOk) tkEntry false 3 },
        { q := 2, msg := .tuck 88 (s.stitchHdr 0 0 stOk) tkEntry true (2^244) }])) = true := by decide +kernel
def cr : State := let s := (chb 1).set FILT_TUCK_CMD_STATE tuckRun; { s with filt := { s.filt with crossing := true, entryHalf := some 9, tuckNext := 2^21 } }
theorem test_filt_tuckEntry : (let s := cr; let t := aft (.tuckEntry P6 shd true 1) s; decide (t.tuckState = tuckIdle ∧ t.camRead 0 = camStored (9 + 2^256) ∧ eg t 6 = [{ q := 2, msg := .tuck 88 (s.stitchHdr 0 3 stOk) tkAck false 0 }])) = true := by decide +kernel
theorem test_filt_tuckAck : (let s := { arm with filt := { arm.filt with lastMsg := some (1, .memCmp 1 0) } }; okc (.tuckAck P6 shd) s { s with filt := { s.filt with crossWait := true, lastMsg := none } }) = true := by decide +kernel
theorem test_filt_tuckCrossWait : (let s := { arm with filt := { arm.filt with crossWait := true } }; let t := aft .tuckCrossWait s; decide (t.tuckState = tuckRun ∧ t.filt.tuckNext = 2^21-1 ∧ t.filt.crossWait = false ∧ t.filt.cam = s.filt.cam ∧ t.ports = s.ports)) = true := by decide +kernel
theorem test_filt_tuckAbortMsg : (let s := cr; let t := aft (.tuckAbortMsg P6 shd) s; decide (t.tuckState = tuckIdle ∧ t.filt.cam = s.filt.cam ∧ t.filt.crossing = false ∧ t.filt.crossWait = false ∧ t.ports = s.ports)) = true := by decide +kernel
theorem test_filt_tuckRetransmit : (let s := { cr with filt := { cr.filt with lastMsg := some (0, .memCmp 1 0) } }.set FILT_CHAIN_FEID_FEID 88 0 0; let t := aft .tuckRetransmit s; decide (t = { s with ports := t.ports } ∧ eg t 6 = [{ q := 2, msg := .memCmp 1 0 }])) = true := by decide +kernel
def gimg : Nat := 1 + 0*2^16 + 0*2^24 + 0*2^32 + 0*2^48 + 255*2^64 + 3*2^72 
def colS (v : Nat) : State := let s := ((memS false).onPg .coll).set COLL_GDEF_LO_ADDR v; { s with pool := { s.pool with cur := { s.pool.cur with bytes := (List.range 48).filterMap (fun i => let b : BitVec 8 := if i < 32 then BitVec.ofNat 8 (bits gimg (8*i+7) (8*i)) else if i = 32 then 5 else 0; if b = 0 then none else some (⟨i, b⟩ : Host.Cell)) } } }
theorem test_filt_2 : ((colS 0).collDefineRes 7 (colS 0).groupImage).1 = rcOk := by decide +kernel
theorem test_filt_collDefine : (let s := colS 0; let t := aft (.collDefine .eth 7) s; decide (t = { s with regs := t.regs, coll := t.coll } ∧ t.group 7 = (s.collDefineRes 7 s.groupImage).2 ∧ t.rd COLL_GCMD_RESULT = rcOk)) = true := by decide +kernel
theorem test_filt_collDefine_2 : (let s := colS 4; let t := aft (.collDefine .eth 7) s; decide (t = { s with regs := t.regs} ∧ t.rd COLL_GCMD_RESULT = rcAlign)) = true := by decide +kernel
def gr : Group := { tenant := 1, kind := false, first := 0, size := 1, parent := 255, bcast := 0, next := 65535, ents := [{ port := 5, rank := 0, count := 1, resAddr := 0 }] }
theorem test_filt_collDelete : (let s := { colS 4 with coll := [(7, gr)] }; let t := aft (.collDelete .eth 7) s; decide (t = { s with regs := t.regs, coll := t.coll} ∧ t.group 7 = none ∧ t.rd COLL_GCMD_RESULT = rcOk)) = true := by decide +kernel
theorem test_filt_collDelete_2 : (let s := colS 4; let t := aft (.collDelete .eth 7) s; decide (t = { s with regs := t.regs} ∧ t.rd COLL_GCMD_RESULT = rcDependency)) = true := by decide +kernel
def opx : CollOp := { cop := 0, rop := 0, ty := 0, outTy := 0, dM1 := 0, exact := true, nchunk := 1, seq := 65535 }
theorem test_filt_collLimit : (let s := { colS 4 with coll := [(7, {gr with op := some opx})] }; let t := aft (.collLimit 7) s; decide (t.group 7 = some { gr with op := none, next := 0 } ∧ t.pool = s.pool)) = true := by decide +kernel
theorem test_filt_collLimit_2 : (let s := { (colS 4).ydS 5 0 77 with coll := [(7, {gr with op := some opx})] }; let t := aft (.collLimit 7) s; decide (t.group 7 = some { gr with op := none, next := 0 } ∧ t.pool = s.pool ∧ (eg t).length = 1)) = true := by decide +kernel
theorem witness_HandOversProceed_HandOverMessages : let g := ho .awaiting none; let t := ho .taking (some (hoTake, hm))
    hm.dst = none ∧ (∀ st l, (ho st l).selfFenced = false ∧ (ho st l).portOfFeid hm.src = some 6 ∧ (ho st l).feidFenced hm.src = false) ∧
    g.gate 6 (.give P6 hm) = .pass ∧ hm.status = 0 ∧ hm.sumLen = 64 ∧ (ho .giving (some (hoGive, hm))).gate 6 (.take P6 hm) = .pass ∧
    t.gate 6 (.handoffCommit P6 hm) = .pass ∧ (∃ h, t.map.ho = [(3, h)] ∧ h.xfer = hm.xfer ∧ h.st = .taking ∧ h.summary = []) := by
  refine ⟨rfl, fun _ _ => ⟨rfl, rfl, rfl⟩, ?_, ?_, ?_, ?_, ?_, _, rfl, ?_⟩ <;> decide +kernel
theorem witness_HandOversProceed_HandOverMessages_ack : let s := ho .givenUnconfirmed none
    let u : State := { s with map := { s.map with ho := s.map.ho.map (fun h => (h.1, { h.2 with queue := [] })) } }
    u.selfFenced = false ∧ u.portOfFeid hm.src = some 6 ∧ u.feidFenced hm.src = false ∧ u.gate 6 (.commitAck P6 hm) = .pass ∧
      (∃ h, u.map.ho = [(3, h)] ∧ h.xfer = hm.xfer ∧ h.st = .givenUnconfirmed ∧ h.queue = []) :=
  ⟨by decide +kernel, by decide +kernel, by decide +kernel, by decide +kernel, _, rfl, by decide +kernel⟩
theorem witness_HandOversProceed_HandOverMessages_summary : let s := sumS
    s.selfFenced = false ∧ s.Admits P6 (.rd P6 sumH) ∧ sumH.dst = s.ownFeid ∧ s.enabled .home = true ∧ s.quiescing .home = false ∧
      (∃ h l, s.map.ho = [(3, h)] ∧ h.st = .giving ∧ h.last = some (hoGive, l) ∧ h.feid = sumH.src ∧ l.sumLen.toNat = 16 * h.summary.length ∧
        (∀ v ∈ h.summary, v < 2 ^ 128) ∧ 64 * 0 < l.sumLen.toNat ∧ sumH.arg.toNat = l.sumAddr.toNat + 64 * 0) := by
  refine ⟨?_, admits_of (by decide +kernel), ?_, ?_, ?_, _, _, rfl, ?_, rfl, ?_, ?_, ?_, ?_, ?_⟩ <;> decide +kernel
theorem witness_ChainsAndScrubs_ChainLookups_key : let s := (chb 0).set FILT_CHAIN_EN 0; let t := ((chb 0).set FILT_CHAIN_CORES_COUNT 0).set CORE_STAT_PSTATE 0
    shd.dst = none ∧ s.Admits P6 (.stitchKey P6 shd false 77) ∧ s.flag FILT_CHAIN_EN = false ∧ s.portOfFeid shd.src = some 6 ∧
    t.Admits P6 (.stitchKey P6 shd true 77) ∧ t.flag FILT_CHAIN_EN = true ∧
    shd.chain.toNat = t.rd FILT_CHAIN_ID ∧ t.chainAll.any (fun i => t.chainFeid i == shd.src) = true ∧
    bdTenant (t.map.cur.bind 6) = t.rd FILT_CHAIN_TENANT ∧ t.unitsUp t.chainCores = true ∧ t.unitsAsleep t.chainCores = false ∧ t.filt.cam = [] ∧ t.portOfFeid shd.src = some 6 :=
  ⟨rfl, admits_of (by decide +kernel), by decide +kernel, by decide +kernel, admits_of (by decide +kernel), by decide +kernel⟩
theorem witness_ChainsAndScrubs_ChainLookups_results :
    (let s := chs false; s.Admits P6 (.bestRsp P6 shd true no 4) ∧ s.chainMsg shd = true ∧
      (∃ r, s.slotRes 2 = some (40, r) ∧ r.all = false) ∧ (chb 0).slotRes 2 = none ∧ (chb 0).chainMsg shd = true ∧
      (chb 0).Admits P6 (.bestRsp P6 shd true no 4)) ∧
    (let s := chs true; s.Admits P6 (.allRsp P6 shd true 1 [no]) ∧ s.chainMsg shd = true ∧
      (∃ r, s.slotRes 2 = some (40, r) ∧ r.all = true ∧ r.lasts + 1 < s.chainPeers.length) ∧ shd.status = stOk) :=
  ⟨⟨admits_of (by decide +kernel), by decide +kernel, ⟨_, rfl, by decide +kernel⟩, by decide +kernel, by decide +kernel, admits_of (by decide +kernel)⟩,
    ⟨admits_of (by decide +kernel), by decide +kernel, ⟨_, rfl, by decide +kernel⟩, by decide +kernel⟩⟩
theorem witness_ChainsAndScrubs_ChainLookups_frames : crc8 ((5 : Word).toNat % 2 ^ 24) ≠ bits (5 : Word).toNat 31 24 ∧
    (let s := chb 1; let w := frameOf 5 false 0 0 true false
     crc8 (w.toNat % 2 ^ 24) = bits w.toNat 31 24 ∧ s.flag FILT_CHAIN_EN = true ∧ s.chainPos ≠ 0 ∧
      Tbl.get? s.filt.local_ (bits w.toNat 7 0) = none ∧ bit w.toNat 19 = true) ∧
    ∃ r, (chs true 3).slotRes (2 : BitVec 6).toNat = some (40, r) ∧ 3 ≤ r.tries :=
  ⟨by decide +kernel, by decide +kernel, _, rfl, by decide +kernel⟩
theorem witness_ChainsAndScrubs_TablesAreScrubbed : Tbl.get cm.filt.cam (camAt 0 6) 0 = Tbl.get cm.filt.shadow (camAt 0 6) 0 ∧
    Tbl.get cm.filt.cam (camAt 0 5) 0 ≠ Tbl.get cm.filt.shadow (camAt 0 5) 0 := by decide +kernel
theorem witness_TucksInsertAnEntry_TuckOnOneDevice_arm : tu.Takes .eth ⟨.filt, 0⟩ ∧ tu.tuckState = tuckIdle ∧ tu.tuckRefusal = rcOk ∧ tu.chainPos = 0 ∧
    tu.tuckH < 2 ^ 21 ∧ tu.flag FILT_CHAIN_EN = false ∧ (tu.set FILT_TUCK_H_H 4).Takes .eth ⟨.filt, 0⟩ ∧ (tu.set FILT_TUCK_H_H 4).tuckRefusal ≠ rcOk := by
  refine ⟨takes_of (by decide +kernel), ?_, ?_, ?_, ?_, ?_, takes_of (by decide +kernel), ?_⟩ <;> decide +kernel
theorem witness_TucksInsertAnEntry_TuckOnOneDevice_copy : (let s := tr 7; s.tuckState = tuckRun ∧ s.filt.crossing = false ∧ s.chainPos = 0 ∧ s.filt.tuckNext < 2 ^ 21 ∧
    s.tuckG + 1 < s.filt.tuckNext ∧ s.flag CORE_STAT_FENCED (s.filt.tuckNext / 16384) = false) ∧
    (let s := tr 5; s.tuckState = tuckRun ∧ s.filt.crossing = false ∧ s.chainPos = 0 ∧ s.filt.tuckNext < 2 ^ 21 ∧
    s.tuckG + 1 = s.filt.tuckNext ∧ s.flag CORE_STAT_FENCED (s.filt.tuckNext / 16384) = false) := by decide +kernel
theorem witness_TucksInsertAnEntry_TuckOnOneDevice_resume : held.Takes .eth ⟨.filt, 0⟩ ∧ held.tuckState = tuckHeld ∧ held.filt.heldRun = true ∧
    held.filt.lastMsg = none ∧ held.chainPos = 0 ∧ held.flag FILT_CHAIN_EN = true := ⟨takes_of (by decide +kernel), by decide +kernel⟩
theorem witness_TucksInsertAnEntry_TuckCrosses_lower : let s := arm; let a : State := { arm with filt := { arm.filt with lastMsg := some (1, .memCmp 1 0) } }
    shd.dst = none ∧ s.portOfFeid shd.src = some 6 ∧ s.Admits P6 (.tuckContinue P6 shd) ∧ s.chainMsg shd = true ∧
    s.tuckState = tuckArmed ∧ shd.pos.toNat = s.chainPos + 1 ∧ s.chainFeid (s.chainPos + 1) = shd.src ∧
    a.Admits P6 (.tuckAck P6 shd) ∧ a.chainMsg shd = true ∧ a.tuckState = tuckArmed ∧ a.filt.lastMsg.isSome = true ∧
    s.Admits P6 (.tuckAbortMsg P6 shd) :=
  ⟨rfl, by decide +kernel, admits_of (by decide +kernel), by decide +kernel, by decide +kernel, by decide +kernel, by decide +kernel,
    admits_of (by decide +kernel), by decide +kernel, by decide +kernel, by decide +kernel, admits_of (by decide +kernel)⟩
theorem witness_TucksInsertAnEntry_TuckCrosses_upper : let s := cr
    let r := { cr with filt := { cr.filt with lastMsg := some (0, .memCmp 1 0) } }.set FILT_CHAIN_FEID_FEID 88 0 0
    s.portOfFeid shd.src = some 6 ∧ s.Admits P6 (.tuckEntry P6 shd true 1) ∧ s.chainMsg shd = true ∧
    s.tuckState = tuckRun ∧ s.filt.crossing = true ∧ s.filt.entryHalf = some 9 ∧ r.filt.lastMsg = some (r.chainPos - 1, .memCmp 1 0) ∧
    r.tuckState = tuckRun ∧ r.chainFeid (r.chainPos - 1) = shd.src ∧ r.portOfFeid shd.src = some 6 :=
  ⟨by decide +kernel, admits_of (by decide +kernel), by decide +kernel⟩
theorem witness_GroupsAreDefined : (colS 0).Takes .eth ⟨.coll, 0⟩ ∧ (∃ g, (colS 0).collDefineRes 7 (colS 0).groupImage = (rcOk, some g)) ∧
    (colS 4).Takes .eth ⟨.coll, 0⟩ ∧ (colS 4).groupImage % 32 ≠ 0 ∧ (colS 4).group 7 = none ∧
    (∀ v, (colS v).home.dir = [] ∧ (colS v).home.txns = [] ∧ (colS v).home.defines = []) :=
  ⟨takes_of (by decide +kernel), ⟨_, rfl⟩, takes_of (by decide +kernel), by decide +kernel, by decide +kernel, fun _ => ⟨rfl, rfl, rfl⟩⟩
theorem witness_GroupsAreDefined_waiting : let s : State := { colS 0 with home := { (colS 0).home with defines := [(9, 0)] } }
    s.Takes .eth ⟨.coll, 0⟩ ∧ s.home.defines ≠ [] ∧ s.home.dir = [] := ⟨takes_of (by decide +kernel), by decide +kernel, rfl⟩
theorem witness_GroupsAreDefined_groups : let s : State := { colS 4 with coll := [(7, gr)] }
    let o : State := { colS 4 with coll := [(7, { gr with op := some opx })] }
    s.Takes .eth ⟨.coll, 0⟩ ∧ s.group 7 = some gr ∧ gr.op = none ∧ o.Takes .eth ⟨.coll, 0⟩ ∧
      o.group 7 = some { gr with op := some opx } ∧ gr.isRoot = true :=
  ⟨takes_of (by decide +kernel), by decide +kernel, by decide +kernel, takes_of (by decide +kernel), by decide +kernel⟩

end Filt

namespace Live

def eg (t : State) (p : Nat := 5) : List Msg := (t.port p).egress.map (·.msg)
def tk : State := let s := (upS.ydS 6 2 88).set DEV_ID_FEID 9; (s.ydS 7 2 99).onPg .live
def P6 : PortId := 6
def lm (j : BitVec 8) : LiveMsg := { cause := 1, subject := 55, incarn := 4, origin := 3, ts := 0, jury := j }
theorem test_live_suspect : (let s := tk; let t := aft (.suspect P6 (lm 5)) s; decide (s.gate 6 (.suspect P6 (lm 5)) = .pass ∧ t = { s with ports := t.ports, live := { s.live with
        seen := s.live.seen ++ [liveId lvSuspect (lm 5)]
        votes := [{ subject := 55, incarn := 4, juror := 3, jury := 5 }] } } ∧ eg t 7 = [.live lvSuspect 99 (lm 5)])) = true := by decide +kernel
def fencedB (s t : State) (f incarn : BitVec 16) (cause : Nat) : Bool := decide (  Tbl.get? t.live.fences f.toNat = some (incarn, false) ∧ t.rd LIVE_LAST_W0_FEID = f.toNat ∧ t.rd LIVE_LAST_W0_INCARN = incarn.toNat ∧
    t.rd LIVE_LAST_W1_CAUSE = cause ∧ t.rd LIVE_LAST_W1_PORT = 0 ∧ t.rd LIVE_LAST_W1_VALID = 1 ∧
    t.tally .live 0x01 = s.tally .live 0x01 + 1 ∧ t.pool = s.pool)
theorem test_live_suspect_2 : (let s := tk; let t := aft (.suspect P6 (lm 1)) s; fencedB s t 55 4 1) = true := by decide +kernel
theorem test_live_verdict : (let s := tk; let t := aft (.verdict P6 (lm 1)) s; fencedB s t 55 4 1) = true := by decide +kernel
theorem test_live_withdraw : (let s := { tk with live := {tk.live with votes := [{subject:=55,incarn:=4,juror:=3,jury:=4}]}}; let t := aft (.withdraw P6 (lm 1)) s; decide (t = { s with ports := t.ports, live := { s.live with
        seen := s.live.seen ++ [liveId lvWithdraw (lm 1)]
        votes := [] } })) = true := by decide +kernel
theorem test_live_verdict_2 : (let s := tk; let t := aft (.verdict P6 {lm 1 with subject := 9, incarn := s.ownIncarn}) s; decide (t.selfFenced = true ∧ t.rd LIVE_STAT_CAUSE = 1 ∧ t.flag LIVE_STAT_FLUSHING = true ∧ bit (t.pgErr ⟨.live, 0⟩) 17 = true)) = true := by decide +kernel
theorem test_live_rejoin : (let s := { tk with live := {tk.live with seen := [liveId lvRejoin {lm 1 with subject := 99}], fences := [(55,(3,false)),(99,(3,false))]}}; let t := aft (.rejoin P6 {lm 1 with subject := 99}) s; decide ( t.feidFenced 99 = false ∧ (eg t 7).length = 2 ∧ t = { s with ports := t.ports, live := { s.live with fences := Tbl.del s.live.fences 99, incarns := [(99, 4)] } })) = true := by decide +kernel
theorem test_live_rejoinAck : (let s := (upS.ydS 6 2 88).set LIVE_STAT_STATE 1; let t := aft (.rejoinAck P6 (lm 1)) s; decide (s.devNeighbours = [88] ∧ t.rd LIVE_STAT_STATE = 2 ∧ t.ports = s.ports)) = true := by decide +kernel
theorem test_live_fenceEntry : (let s := tk; okc (.fenceEntry P6 (lm 1)) s { s with live := { s.live with fences := [(55, (4, false))]}}) = true := by decide +kernel
theorem test_live_rejoinResend : (let s := tk.set LIVE_STAT_STATE 1; let t := aft .rejoinResend s; decide (eg t 7 = [.live lvRejoin 99 (s.ownLive 0 s.ownFeid s.ownIncarn)] ∧ t = { s with ports := t.ports })) = true := by decide +kernel
theorem test_live_hbIntervalEnd : (let s := { upS.ydS 6 2 88 with ts := 20001 }; let t := aft .hbIntervalEnd s; decide (t.ts = 40000 ∧ t.live = { s.live with prog := addProg s.live.prog (progState s.progCause) 20, interval := s.live.interval + 1, heard := [] } ∧ t = { s with ts := t.ts, ports := t.ports, live := t.live })) = true := by decide +kernel
theorem test_live_hbIntervalEnd_2 : (let s := { tk with live := { tk.live with incarns := [(88, 1)], ndev := [(88,2)], missed := [(88, 10)] } }; let t := aft .hbIntervalEnd s; decide (s.rd LIVE_CFG_MISS ≤ 11 ∧ t.live.suspects = [88] ∧ t.live.missed = [(88, 11)] ∧ t.live.fences = [] ∧
      t.live.votes.map (fun v => (v.subject, v.incarn, v.juror)) = [(88, 1, s.ownDev)])) = true := by decide +kernel
theorem test_live_suspectResend : (let s := { tk with live := { tk.live with suspects := [88] } }; let t := aft (.suspectResend 88) s; decide ((eg t 7).length = 1 ∧ t = { s with ports := t.ports })) = true := by decide +kernel
theorem test_live_flushDone : (let s := tk.set LIVE_STAT_FLUSHING 1; okc .flushDone s (s.set LIVE_STAT_FLUSHING 0)) = true := by decide +kernel
theorem test_live_flushDone_2 : (let s := { tk.set LIVE_STAT_FLUSHING 1 with home := { tk.home with dir := Tbl.put tk.home.dir 5 { st := .m, owner := 6 } } }; let t := aft .flushDone s; decide (t.flag LIVE_STAT_FLUSHING = true ∧ t.home.snoopsTo = [(6, 5)])) = true := by decide +kernel
theorem test_live_progSnap : (let s := { tk with live := { tk.live with prog := [2^40+3, 5, 2^33] } }; let t := aft (.progSnap .eth) s; decide (t = { s with regs := t.regs } ∧
      t.rd PROG_NORMAL_LO_NORMAL + 2 ^ 32 * t.rd PROG_NORMAL_HI_NORMAL = 2^40+3 ∧
      t.rd PROG_DEGRADED_LO_DEGRADED + 2 ^ 32 * t.rd PROG_DEGRADED_HI_DEGRADED = 5 ∧
      t.rd PROG_RECOVERING_LO_RECOVERING + 2 ^ 32 * t.rd PROG_RECOVERING_HI_RECOVERING = 2^33)) = true := by decide +kernel
theorem test_live_progClear : (let s := { tk with live := { tk.live with prog := [2^40+3, 5, 2^33] } }; let t := aft (.progClear .eth) s; decide (t = { s with regs := t.regs, live := { s.live with prog := [0,0,0] } })) = true := by decide +kernel
theorem test_live_declare : (let s := tk; let t := aft (.declare .eth true 200 3) s; decide (t.rd LIVE_CMD_STAT_RESULT = rcOk ∧ t.rd PORT_FSTAT_FENCED 200 = 1 ∧
      bit (t.pgErr ⟨.port, 200⟩) 19 = true ∧ t.rd LIVE_LAST_W0_FEID = 200 ∧ t.rd LIVE_LAST_W1_PORT = 1 ∧
      t.rd LIVE_LAST_W1_CAUSE = 4 ∧ t.pool = s.pool)) = true := by decide +kernel
theorem test_live_declare_2 : (let s := tk; let t := aft (.declare .eth false 200 9) s; decide (t.rd LIVE_CMD_STAT_RESULT = rcFieldRange ∧ t = { s with regs := t.regs })) = true := by decide +kernel
theorem test_live_declare_3 : (let s := tk; let t := aft (.declare .eth false 200 99) s; t.rd LIVE_CMD_STAT_RESULT = rcOk && fencedB s t 99 0 4) = true := by decide +kernel
theorem test_live_forget : (let s := tk; let t := aft (.forget .eth 99) s; decide (t.rd LIVE_CMD_STAT_RESULT = rcDependency ∧ t = { s with regs := t.regs })) = true := by decide +kernel
theorem test_live_forget_2 : (let s := { tk with live := { tk.live with fences := [(99, (3, false))] } }; let t := aft (.forget .eth 99) s; decide (t.rd LIVE_CMD_STAT_RESULT = rcOk ∧ t = { s with regs := t.regs, live := { s.live with fences := [(99, (3, true))] } })) = true := by decide +kernel
def sf : State := { tk with tier := { tk.tier with t1 := [(4, { stack := 0, dirty := 0x8001 })] }, home := { tk.home with dir := [(7, { st := .m, owner := 3 }), (9, { st := .s, sharers := 6 })] } }
theorem test_live_selfFence : (let t := aft (.selfFence .i3c) sf; decide (t.selfFenced = true ∧ t.rd LIVE_STAT_CAUSE = 4 ∧ t.home.snoopsTo = [(3,7),(1,9),(2,9)] ∧ t.tier.wbs.map (·.1) = [64, 79] ∧ t.rd LIVE_CMD_STAT_RESULT = rcOk)) = true := by decide +kernel
theorem test_live : (let s : State := { upS with live := { upS.live with suspects := [88] }, tier := { upS.tier with trayOps := [{ id := 1, txn := 4, line := 3, port := 17, write := false, again := true }] } }; decide ((s.regRead 0x7184).2 % 16 = 9)) = true := by decide +kernel
theorem get?_mem {α : Type} {t : Tbl α} {x : Nat} {v : α} (h : Tbl.get? t x = some v) : (x, v) ∈ t := by
  induction t with
  | nil => simp at h
  | cons e t ih =>
    obtain ⟨k, w⟩ := e
    by_cases hk : k = x
    · simp_all [Tbl.get?]
    · simp only [Tbl.get?, if_neg hk] at h
      exact List.mem_cons_of_mem _ (ih h)

/-- No port leads to a FEID, from the ports that hold link state. -/
theorem portsTo_none {s : State} {f : Feid} (hd : s.ports.all (fun q => !q.2.initRx || s.rd PORT_LSTAT_PARTNER_FEID q.1 != f.toNat) = true)
    (q : Nat) (_ : s.role q = .leaf) : s.portsTo f q = false := by
  unfold State.portsTo State.port Tbl.get
  cases e : Tbl.get? s.ports q with
  | none => rfl
  | some r =>
    have h := List.all_eq_true.mp hd _ (get?_mem e)
    cases hi : r.initRx <;> simp_all
theorem quiet_tk : NothingRuns tk := ⟨quiet_of (by decide +kernel), by decide +kernel⟩
theorem alone_tk (f : Feid) (h : tk.ports.all (fun q => !q.2.initRx || tk.rd PORT_LSTAT_PARTNER_FEID q.1 != f.toNat) = true) :
    ∀ q, tk.role q = .leaf → tk.portsTo f q = false := portsTo_none h

theorem witness_VotesAndVerdicts : tk.gate 6 (.suspect P6 (lm 5)) = .pass ∧ tk.liveSeen lvSuspect (lm 5) = false ∧
    tk.feidFenced (lm 5).subject = false ∧ tk.live.votes = [] ∧ (lm 5).jury ≠ 1 ∧ (lm 5).isPort = false ∧ tk.gate 6 (.suspect P6 (lm 1)) = .pass ∧
    tk.liveSeen lvSuspect (lm 1) = false ∧ (lm 1).subject ≠ tk.ownFeid ∧ (lm 1).jury = 1 ∧ tk.gate 6 (.withdraw P6 (lm 1)) = .pass ∧
    tk.liveSeen lvWithdraw (lm 1) = false := by decide +kernel
theorem witness_VotesAndVerdicts_alone : NothingRuns tk ∧ (∀ q, tk.role q = .leaf → tk.portsTo (lm 1).subject q = false) :=
  ⟨quiet_tk, alone_tk _ (by decide +kernel)⟩
theorem witness_VotesAndVerdicts_verdict : let m : LiveMsg := { lm 1 with subject := 9, incarn := tk.ownIncarn }
    tk.gate 6 (.verdict P6 (lm 1)) = .pass ∧ tk.liveSeen lvVerdict (lm 1) = false ∧ tk.gate 6 (.verdict P6 m) = .pass ∧
    tk.liveSeen lvVerdict m = false ∧ m.isPort = false ∧ m.subject = tk.ownFeid ∧ m.incarn = tk.ownIncarn ∧ tk.selfFenced = false ∧
    tk.procs.procs = [] ∧ tk.coll = [] ∧ tk.map.ho = [] := by decide +kernel
def rjS : State := { tk with live := { tk.live with seen := [liveId lvRejoin { lm 1 with subject := 99 }], fences := [(55, (3, false)), (99, (3, false))] } }
theorem witness_Rejoining : let m : LiveMsg := { lm 1 with subject := 99 }
    rjS.gate 6 (.rejoin P6 m) = .pass ∧ rjS.liveSeen lvRejoin m = true ∧ rjS.rc = [] ∧ rjS.pub.pins = [] ∧ rjS.pub.replicas = [] ∧ rjS.pub.regions = [] ∧ rjS.live.incarns = [] ∧
    Tbl.get? rjS.live.fences m.subject.toNat = some (3, false) ∧
    newerThan m.incarn 3 = true ∧ (rjS.ydPorts.filter (fun q => rjS.role q == .trunk)).find? (fun q => rjS.partner q == some m.subject) = some 7 ∧
    tk.gate 6 (.fenceEntry P6 (lm 1)) = .pass ∧ Tbl.get? tk.live.fences (lm 1).subject.toNat = none := by decide +kernel
theorem witness_Rejoining_ack : let s := (upS.ydS 6 2 88).set LIVE_STAT_STATE 1
    s.gate 6 (.rejoinAck P6 (lm 1)) = .pass ∧ s.partner 6 = some 88 ∧ s.devNeighbours = [(88 : Feid).toNat] ∧ s.rd LIVE_STAT_STATE = lsJoining := by
  decide +kernel
theorem witness_LivenessTimers : let s := { upS.ydS 6 2 88 with ts := 20001 }
    s.enabled .live = false ∧ s.power.refLost = false ∧ s.ts.toNat < 10 ^ 18 := by decide +kernel
theorem witness_LivenessTimers_missed : let s := { tk with live := { tk.live with incarns := [(88, 1)], ndev := [(88, 2)], missed := [(88, 10)] } }
    s.enabled .live = true ∧ s.selfFenced = false ∧ s.live.incarns = [(88, 1)] ∧ s.live.ndev = [(88, 2)] ∧ s.live.fences = [] ∧ s.live.votes = [] ∧
    s.live.suspects = [] ∧ s.live.heard = [] ∧ s.live.missed = [(88, 10)] ∧ s.live.isoN = 0 ∧ s.rd LIVE_CFG_MISS ≤ 10 + 1 := by decide +kernel
theorem witness_LivenessTimers_commands : let s := tk.set LIVE_STAT_FLUSHING 1
    [(88 : Feid)].contains 88 = true ∧
    s.flag LIVE_STAT_FLUSHING = true ∧ s.home.snoopsTo = [] ∧ s.tier.wbs = [] ∧ s.live.flushReset = false ∧
    State.Takes { tk with live := { tk.live with prog := [2 ^ 40 + 3, 5, 2 ^ 33] } } .eth ⟨.live, 0⟩ := by
  refine ⟨?_, ?_, ?_, ?_, ?_, takes_of (by decide +kernel)⟩ <;> decide +kernel
theorem witness_LivenessCommands : tk.Takes .eth ⟨.live, 0⟩ ∧ NothingRuns tk ∧ tk.rd PORT_FSTAT_FENCED (200 : BitVec 8).toNat = 0 ∧
    (9 : Feid) = tk.ownFeid ∧ (55 : Feid) ≠ tk.ownFeid ∧ tk.feidFenced 55 = false ∧ (∀ q, tk.role q = .leaf → tk.portsTo 55 q = false) ∧
    Tbl.get? tk.live.fences (55 : Feid).toNat = none ∧ tk.selfFenced = false ∧ tk.procs.procs = [] ∧ tk.coll = [] ∧ tk.map.ho = [] :=
  ⟨takes_of (by decide +kernel), quiet_tk, by decide +kernel, by decide +kernel, by decide +kernel, by decide +kernel,
    alone_tk _ (by decide +kernel), by decide +kernel⟩
theorem witness_LivenessCommands_fenced : rjS.Takes .eth ⟨.live, 0⟩ ∧ Tbl.get? rjS.live.fences (99 : Feid).toNat = some (3, false) ∧
    (aft (.selfFence .i3c) tk).Takes .eth ⟨.live, 0⟩ ∧ (aft (.selfFence .i3c) tk).selfFenced = true :=
  ⟨takes_of (by decide +kernel), by decide +kernel, takes_of (by decide +kernel), by decide +kernel⟩

end Live

namespace Links

theorem test_links_linkUp : (let s := upS.roleS 5 0; let t := aft (.linkUp P5 2 1 false true) s; s.mayTrain 5 = true ∧ s.linked 5 = false ∧ s.trainsYd 5 false = false ∧ t = { s with regs := t.regs, ports := t.ports } ∧ t.up 5 = true ∧
      t.rd PORT_LSTAT_MODE 5 = 0 ∧ t.rd PORT_LSTAT_WIDTH 5 = min 2 (s.cfgWidth 5) ∧
      t.rd PORT_LSTAT_RATE 5 = max 1 (s.rd PORT_CFG_MAX_RATE 5) ∧ t.rd PORT_LSTAT_REVERSED 5 = 1 ∧
      t.rd PORT_LSTAT_PM 5 = 0 ∧ t.rd PORT_FSTAT_FENCED 5 = 0 ∧
      t.port 5 = { s.port 5 with trained := min 2 (s.cfgWidth 5) }) := by decide +kernel
def rt6 : State := ((upS.ydS 5 2 77).modPort 5 (fun x => { x with retraining := true, replay := [(1, [{ q := 0, msg := .ydNak 1 }]), (2, [{ q := 0, msg := .ydNak 2 }])] })).set PORT_LSTAT_UP 0 5
def tr5 := (upS.roleS 5 2).set DEV_ID_FEID 9
theorem test_links_linkUp_2 : (let s := tr5; let t := aft (.linkUp P5 2 1 true true) s; s.trainsYd 5 true = true ∧ t.ydUp 5 = true ∧ (t.port 5).credit = [0, 0, 0, 0] ∧ (t.port 5).initRx = false ∧
      (t.port 5).egress.head? = some { q := 0, msg := .ydInit s.ownFeid s.ownDev s.ownIncarn }) := by decide +kernel
theorem test_links_linkUp_3 : (let s := tr5.set PORT_CFG_POD_EDGE 1 5; okc (.linkUp P5 2 1 false true) s  (s.set PORT_LSTAT_YD_FALLBACK 1 5)) = true := by decide +kernel
theorem test_links_linkUp_4 : (let s := tr5.modPort 5 (fun x => {x with retraining := true}); let t := aft (.linkUp P5 2 1 false true) s; t = { s with regs := t.regs, ports := t.ports } ∧ t.up 5 = true ∧
      t.port 5 = { s.port 5 with retraining := false, nakCount := 0, trained := min 2 (s.cfgWidth 5) }) := by decide +kernel
theorem test_links_linkUp_5 : (let s := rt6; let t := aft (.linkUp P5 2 1 true true) s; t.out = [.tx 5 (.ydNak 2), .tx 5 (.ydNak 1)] ∧ (t.port 5).replay = (s.port 5).replay) := by decide +kernel
theorem test_links_ydFallback : (let s := tr5; okc (.ydFallback P5) s ((s.set PORT_LSTAT_YD_FALLBACK 1 5).modPort 5 (fun x => { x with
      ydDeclined := true
      retraining := false }))) = true := by decide +kernel
def nk (n : BitVec 12) : Queued := { q := 0, msg := .ydNak n }
def yd5 := (upS.ydS 5 2 77).set DEV_ID_FEID 9
theorem test_links_linkDown : (let s := yd5.hset ⟨.port, 5⟩ PG_CTL_ENABLE 0; let t := aft (.linkDown P5) s; s.quiescedDown 5 = true ∧ s.linked 5 = true ∧ t = { s with regs := t.regs, ports := t.ports } ∧ t.linked 5 = false ∧ t.rd PORT_FSTAT_DOWN_UNQUIESCED 5 = 0) := by decide +kernel
theorem test_links_linkDown_2 : (let s := yd5; let t := aft (.linkDown P5) s; s.quiescedDown 5 = false ∧ s.linked 5 = true ∧ t = { s with regs := t.regs, ports := t.ports, mgmt := t.mgmt } ∧ t.linked 5 = false ∧ t.rd PORT_FSTAT_DOWN_UNQUIESCED 5 = 1 ∧ bit (t.pgErr ⟨.port, 5⟩) 18 = true) := by decide +kernel
theorem test_links_hotReset : (let s := yd5; let t := aft (.hotReset P5) s; t.linked 5 = false ∧ t.rd PORT_FSTAT_FENCED 5 = 0 ∧
      t.rd PORT_LSTAT_YD_FALLBACK 5 = 0 ∧ (t.port 5).ydDeclined = false ∧ (t.port 5).held = [] ∧
      (t.port 5).l1Wait = [] ∧ (t.port 5).fences = [] ∧ t.pool = s.pool ∧ t.home.dir = s.home.dir) := by decide +kernel
def fl0 : BitVec 2048 := BitVec.ofNat 2048 (ofBytes (closeFlit ([1,0,0,0] ++ List.replicate 240 0)))
theorem test_links_ydFlitRx : (let s := yd5; let t := aft (.ydFlitRx P5 fl0 true) s; t.pool = s.pool ∧ t.home = s.home ∧ (t.port 5).rxSeq = (s.port 5).rxSeq + 1 ∧ (t.port 5).awaitReplay = false ∧ (t.port 5).egress = []) := by decide +kernel
def fl1 : BitVec 2048 := BitVec.ofNat 2048 (ofBytes (closeFlit ([0x21,0,0,0] ++ List.replicate 240 0)))
theorem test_links_ydFlitRx_2 : (let s := yd5; let t := aft (.ydFlitRx P5 fl1 true) s; t.pool = s.pool ∧ t.home = s.home ∧ (t.port 5).rxSeq = (s.port 5).rxSeq ∧ (t.port 5).awaitReplay = true ∧ (t.port 5).egress.length = 1) := by decide +kernel
theorem test_links_ydFlitRx_3 : (let s := yd5; let t := aft (.ydFlitRx P5 (fl1 ^^^ BitVec.ofNat 2048 (2^65 + 2^700 + 2^1200)) true) s; fecDecode (bytesOf 256 (fl1 ^^^ BitVec.ofNat 2048 (2^65 + 2^700 + 2^1200)).toNat) = none ∧ t.home = s.home ∧ (t.port 5).rxSeq = (s.port 5).rxSeq ∧ (t.port 5).awaitReplay = true ∧ (t.port 5).egress.length = 1 ∧ t.rd PORT_ERRS_CRC_ERRS 5 = 1) := by decide +kernel
theorem test_links_ydNakRx : (let s := yd5.modPort 5 (fun x => {x with replay := [(1, [nk 1]), (2, [nk 2])]}); let t := aft (.ydNakRx P5 1) s; (t.port 5).replay = [(2, [nk 2])] ∧ t.out = [.tx 5 (.ydNak 2)] ∧ t.rd PORT_ERRS_REPLAYS 5 = 1) := by decide +kernel
theorem test_links_ydNakRx_2 : (let s := yd5.modPort 5 (fun x => {x with nakAck := 1, nakCount := 7, replay := [(1, [nk 1]), (2, [nk 2])]}); let t := aft (.ydNakRx P5 1) s; (t.port 5).replay = [(2, [nk 2])] ∧ t.out = [] ∧ t.rd PORT_ERRS_REPLAYS 5 = 1 ∧ t.up 5 = false ∧ (t.port 5).retraining = true) := by decide +kernel
theorem test_links_credit : (let s := yd5; okc (.credit P5 2 7) s (s.modPort 5 (fun x => { x with credit := addCredit x.credit 2 7 }))) = true := by decide +kernel
theorem test_links_init : (let s := yd5; let t := aft (.init P5 99 3 4) s; t = { s with regs := t.regs, ports := t.ports, live := { s.live with incarns := Tbl.put s.live.incarns 99 4 } } ∧ t.rd PORT_LSTAT_PARTNER_FEID 5 = 99) := by decide +kernel
theorem test_links_hb : (let s := { yd5 with live := { yd5.live with incarns := [(77, 4)] } }; s.gate 5 (.hb P5 77 4 2) = .pass ∧ okc (.hb P5 77 4 2) s { s with live := { s.live with
      heard := if s.live.heard.contains 77 then s.live.heard else s.live.heard ++ [77]
      ndev := Tbl.put s.live.ndev 77 2 } } = true) := by decide +kernel
theorem test_links_hbSend : (let s := yd5.onPg .live; let t := aft .hbSend s; s.ydPorts = [5] ∧ t = { s with ports := t.ports } ∧ { q := 0, msg := .hb s.ownIncarn (BitVec.ofNat 8 s.devNeighbours.length) } ∈ (t.port 5).egress) := by decide +kernel
theorem test_links_hb_2 : (let s := yd5.sendQ 5 0 (.hb 3 4); let t := aft (.egressSchedule P5) s; s.eligible 5 { q := 0, msg := .hb 3 4 } = true ∧ .tx 5 (.hb 3 4) ∈ t.out ∧ (t.port 5).egress = []) := by decide +kernel
theorem test_links_egressSchedule : okc (.egressSchedule P5) yd5 yd5 = true := by decide +kernel
theorem test_links_rxCrc : (let s := yd5; let t := aft (.rxCrc .eth P5) s; regsOk t s (fun b => if b = PORT_INJ_TX_CRC.addr 5 then s.reg b ||| 4 else s.reg b)) = true := by decide +kernel
theorem test_links_txByte : (let s := yd5; let t := aft (.txByte .eth P5) s; regsOk t s (fun b => if b = PORT_INJ_TX_CRC.addr 5 then s.reg b ||| 2 else s.reg b)) = true := by decide +kernel
def cx5 := (upS.cxlS 5 0).set PORT_CFG_L1_EN 1 5
theorem test_links_l1Entry : okc (.l1Entry P5) cx5 ((cx5.set PORT_LSTAT_PM 2 5).set PORT_LSTAT_UP 0 5) = true := by decide +kernel
theorem test_links_l1Exit : (let s := (cx5.set PORT_LSTAT_PM 2 5).set PORT_LSTAT_UP 0 5; okc (.l1Exit P5) s (((s.set PORT_LSTAT_PM 0 5).set PORT_LSTAT_UP 1 5).modPort 5 (fun x => { x with l1Wait := [] }))) = true := by decide +kernel
theorem test_links_l0pWidthChange : (let s := (cx5.set PORT_CFG_L0P_EN 1 5).modPort 5 (fun x => {x with trained := 2}); s.l0pStep 5 1 = true ∧ okc (.l0pWidthChange P5 1) s ((s.set PORT_LSTAT_WIDTH 1 5).set PORT_LSTAT_PM 1 5) = true) := by decide +kernel
def rt5 : State := tr5.modPort 5 (fun x => { x with retraining := true })
theorem witness_LinkTraining : let s := upS.roleS 5 0; let e := tr5.set PORT_CFG_POD_EDGE 1 5
    s.mayTrain 5 = true ∧ (1 : BitVec 2) ≠ 3 ∧ s.linked 5 = false ∧ s.trainsYd 5 false = false ∧ s.role 5 ≠ .trunk ∧
    tr5.mayTrain 5 = true ∧ tr5.linked 5 = false ∧ tr5.trainsYd 5 true = true ∧ e.mayTrain 5 = true ∧ e.linked 5 = false ∧
    e.trainsYd 5 false = false ∧ e.role 5 = .trunk ∧ e.flag PORT_CFG_POD_EDGE 5 = true ∧ rt5.mayTrain 5 = true ∧ (rt5.port 5).retraining = true ∧
    rt6.mayTrain 5 = true ∧ (rt6.port 5).retraining = true ∧ rt6.rd PORT_INJ_TX_CRC 5 = 0 ∧ rt6.rd PORT_INJ_TX_BYTE 5 = 0 ∧ (rt6.port 5).replay ≠ [] ∧
    tr5.up 5 = false ∧ tr5.flag PORT_CFG_YD_EN 5 = true := by decide +kernel
theorem witness_LinkDownAndPowerStates_LinkDownLatched : let q := yd5.hset ⟨.port, 5⟩ PG_CTL_ENABLE 0
    q.linked 5 = true ∧ q.quiescedDown 5 = true ∧ yd5.linked 5 = true ∧ yd5.quiescedDown 5 = false ∧ yd5.role 5 = .trunk := by decide +kernel
theorem witness_FlitsAreConfirmed_bad : let l := bytesOf 256 (fl1 ^^^ BitVec.ofNat 2048 (2 ^ 65 + 2 ^ 700 + 2 ^ 1200)).toNat
    yd5.ydUp 5 = true ∧ yd5.up 5 = true ∧ stomped l = false ∧ fecDecode l = none := by decide +kernel
theorem witness_FlitsAreConfirmed_good : let l := bytesOf 256 fl0.toNat
    stomped l = false ∧ ∃ b f, fecDecode l = some (b, f) ∧ yd5.rd PORT_INJ_RX_CRC 5 = 0 ∧ yd5.rd PORT_LSTAT_IDE_ACTIVE 5 = 0 ∧
      crc64 (b.take 244) = ofBytes ((b.drop 244).take 8) ∧ bit (ofBytes ((b.take 244).take 4)) 28 = false ∧
      bits (ofBytes ((b.take 244).take 4)) 3 0 = 1 ∧ BitVec.ofNat 12 (bits (ofBytes ((b.take 244).take 4)) 15 4) = (yd5.port 5).rxSeq ∧
      takeSlots 16 none (flitSlots false (b.take 244)) = [] :=
  ⟨by decide +kernel, (fecDecode (bytesOf 256 fl0.toNat)).get!.1, (fecDecode (bytesOf 256 fl0.toNat)).get!.2, by decide +kernel⟩
theorem witness_FlitsAreConfirmed_early : let l := bytesOf 256 fl1.toNat
    stomped l = false ∧ ∃ b f, fecDecode l = some (b, f) ∧ crc64 (b.take 244) = ofBytes ((b.drop 244).take 8) ∧
      bit (ofBytes ((b.take 244).take 4)) 28 = false ∧ BitVec.ofNat 12 (bits (ofBytes ((b.take 244).take 4)) 15 4) ≠ (yd5.port 5).rxSeq ∧
      ackCovers ((yd5.port 5).rxSeq - 1) (BitVec.ofNat 12 (bits (ofBytes ((b.take 244).take 4)) 15 4)) = false ∧ (yd5.port 5).awaitReplay = false :=
  ⟨by decide +kernel, (fecDecode (bytesOf 256 fl1.toNat)).get!.1, (fecDecode (bytesOf 256 fl1.toNat)).get!.2, by decide +kernel⟩
theorem witness_LinkControl : let h := { yd5 with live := { yd5.live with incarns := [(77, 4)] } }
    let n := yd5.modPort 5 (fun x => { x with nakAck := 1, nakCount := 7 })
    yd5.ydUp 5 = true ∧ ((yd5.port 5).nakAck = 1 → (yd5.port 5).nakCount < 7) ∧ yd5.rd PORT_INJ_TX_CRC 5 = 0 ∧ yd5.rd PORT_INJ_TX_BYTE 5 = 0 ∧
    n.ydUp 5 = true ∧ (n.port 5).nakAck = 1 ∧ (n.port 5).nakCount = 7 ∧ (2 : BitVec 2) ≠ 0 ∧ yd5.role 5 ≠ .leaf ∧
    Tbl.get? yd5.live.incarns (99 : Feid).toNat = none ∧ h.gate 5 (.hb P5 77 4 2) = .pass ∧ h.feidFenced 77 = false ∧
    Tbl.get? h.live.incarns (77 : Feid).toNat = some 4 ∧ (77 : Feid) ∉ h.live.suspects ∧ (yd5.onPg .live).enabled .live = true := by decide +kernel
theorem witness_EgressAndInjection : let s := yd5.sendQ 5 0 (.hb 3 4); let e : Queued := { q := 0, msg := .hb 3 4 }
    s.strictHead 5 0 = some e ∧ s.eligible 5 e = true ∧ s.rd PORT_INJ_TX_CRC 5 = 0 ∧ s.rd PORT_INJ_TX_BYTE 5 = 0 ∧ (yd5.port 5).egress = [] ∧
      yd5.Takes .eth ⟨.port, 5⟩ := by
  refine ⟨?_, ?_, ?_, ?_, ?_, takes_of (by decide +kernel)⟩ <;> decide +kernel
theorem witness_LinkDownAndPowerStates_LinkPowerStates : let a := (cx5.set PORT_LSTAT_PM 2 5).set PORT_LSTAT_UP 0 5
    let w := (cx5.set PORT_CFG_L0P_EN 1 5).modPort 5 (fun x => { x with trained := 2 })
    let h := { w with power := { w.power with thermDuty := [(1, 2)] } }
    cx5.up 5 = true ∧ cx5.rd PORT_LSTAT_MODE 5 = 0 ∧ cx5.flag PORT_CFG_L1_EN 5 = true ∧ a.rd PORT_LSTAT_PM 5 = 2 ∧ w.up 5 = true ∧
    w.flag PORT_CFG_L0P_EN 5 = true ∧ w.l0pStep 5 1 = true ∧ w.dieHot 5 = false ∧ (1 : BitVec 2).toNat ≤ (w.port 5).trained ∧ h.dieHot 5 = true ∧ h.up 5 = true ∧
    h.flag PORT_CFG_L0P_EN 5 = true ∧ h.l0pStep 5 2 = true ∧ h.role 5 = .leaf ∧ (h.port 5).trained - 1 < (2 : BitVec 2).toNat := by
  decide +kernel

end Links

namespace Power

def bw (s t : State) : Bool := decide (t.qos = s.qos ∧ t.ports = s.ports ∧ t.map = s.map ∧ t.home = s.home ∧ t.pub = s.pub ∧ t.rc = s.rc ∧ t.pool = s.pool ∧
    t.tier = s.tier ∧ t.procs = s.procs ∧ t.filt = s.filt ∧ t.coll = s.coll ∧ t.sec = s.sec ∧ t.live = s.live ∧ t.closing = s.closing)
def onA := (pocketOff.set PWR_STAT_A_GOOD 1).set PWR_STAT_B_GOOD 1
theorem test_power_feedBad : (let s := onA; let t := aft (.feedBad .a) s; bw s t && decide (s.power.supply = .on ∧ s.rd PWR_STAT_FEED = feedCode .a ∧ s.flag (feedField (otherFeed .a)) = true ∧ t.flag (feedField .a) = false ∧
      t.rd PWR_STAT_FEED = 2 ∧ t.rd PWR_XFER_LAST_TO = 2 ∧ t.rd PWR_XFER_COUNT = 1 ∧ t.tally .pwr 0x01 =  1 ∧
      bit (t.pgErr { blk := .pwr }) 16 = true)) = true := by decide +kernel
def hold := aft (.feedBad .a) (onA.set PWR_STAT_B_GOOD 0)
theorem test_power : (let t := hold; t.power.supply = .holdup ∧ t.rd PWR_STAT_FEED = 3 ∧ bit (t.pgErr { blk := .pwr }) 17 = true ∧ t.fw.lastGasp = some (0,0,false)) := by decide +kernel
theorem test_power_feedGood : (let s := hold; let t := aft (.feedGood .b) s; t.power.supply = .on ∧ t.rd PWR_STAT_FEED = 2 ∧ s.SameWork t) := by decide +kernel
theorem test_power_holdupEnd : (let s := hold; let t := aft .holdupEnd s; t.power.supply = .off ∧ t.power.lastOff = 1 ∧ t.home = {} ∧ t.rd POCKET_STAT_ALIVE = 0) := by decide +kernel
theorem test_power_pwrCapStep : (let s := onA; let t := aft (.pwrCapStep 2500) s; s.SameWork t ∧ t.power.duty = 7 ∧ t.flag PWR_STAT_CAPPED = true ∧ bit (t.pgErr { blk := .pwr }) 18 = true) := by decide +kernel
theorem test_power_thermStep : (let s := onA; let t := aft (.thermStep 9 100) s; s.SameWork t ∧ t.rd PWR_TEMP_MAX_C = 100 ∧ t.rd PWR_TEMP_DIE = 9 ∧ Tbl.get t.power.thermDuty 9 8 = 7 ∧ t.tally .pwr 2 = 1) := by decide +kernel
def gone (s : State) (c : Nat) (f : Bool) (t : State) : Bool := decide (  t.rd RST_REASON_CAUSE = c ∧ t.rd RST_REASON_FLUSHED = b2n f ∧
    t.rd RST_REASON_DIRTY_LOST = b2n (!s.dirtyExtents.isEmpty) ∧ t.rd RST_STAT_STEP = 3 ∧ t.rd RST_STAT_READY = 0 ∧
    t.ports = [] ∧ t.map = {} ∧ t.home = {} ∧ t.pub = {} ∧ t.rc = [] ∧ t.procs = {} ∧ t.coll = [] ∧ t.sec = { opDigest := s.sec.opDigest } ∧ t.live = {}) && decide (
    t.tier = {} ∧ t.qos = [] ∧ t.pool.cur = s.pool.tray ∧ t.pool.tray = s.pool.tray ∧ t.power.dirtyMarks = s.dirtyExtents ∧
    t.rd LIVE_INCARN_INCARN = s.rd LIVE_INCARN_INCARN ∧ t.pocket = s.pocket ∧ t.fw.svn = s.fw.svn ∧ t.fw.saved = s.fw.saved) && [0, 1, 2].all (fun x => decide (t.rd CTX_STAT_STATE x = ctxFree ∧ t.rd CTX_STAT_COOLING x = 1 ∧
      t.rd CTX_STAT_GEN x = (s.rd CTX_STAT_GEN x + 1) % 256))
theorem test_power_devReset : gone upS 3 false (aft (.devReset .bar0) upS) = true := by decide +kernel
def off1 := aft .holdupEnd hold
theorem test_power_por : (let s := ({ off1 with fw := {off1.fw with lastGasp := none}}.set PWR_STAT_A_GOOD 1); let t := aft .por s; t.power.supply = .on ∧ t.rd RST_REASON_CAUSE = 1) := by decide +kernel
theorem test_power_bootRomStart : (let s := ((State.reset)); let t := aft .bootRomStart s; s.SameWork t ∧ t.rd RST_STAT_STEP = 5 ∧ t.rd FW_STAT_ACTIVE = 0 ∧
      Tbl.get t.fw.boots 0 0 = Tbl.get s.fw.boots 0 0 + 1 ∧ t.rd LIVE_INCARN_INCARN = (s.rd LIVE_INCARN_INCARN + 1) % 2 ^ 16 ∧
      t.fw.incarn = BitVec.ofNat 16 (s.rd LIVE_INCARN_INCARN + 1) ∧ t.flag CLK_STAT_ROOT_LOCK = true) := by decide +kernel
theorem test_power_calibrationDone : (let s := State.reset.set RST_STAT_STEP 6; let t := aft (.calibrationDone 3 0) s; s.SameWork t ∧  t.flag PDIE_STAT_CALIBRATED 3 = true ∧ t.enabled .pdie 3 = true) := by decide +kernel
theorem test_power_ready : (let s := State.reset.set RST_STAT_STEP 7; let t := aft .ready s; t.rd RST_STAT_STEP = 15 ∧ t.flag RST_STAT_READY = true) := by decide +kernel
theorem test_power_stage : (let s := upS.set FW_LEN_BYTES 8192; let t := aft (.stage .eth) s; s.SameWork t ∧ t.flag FW_STAT_BUSY = true ∧ t.slotValid 1 = false ∧
      t.rd FW_STAT_NEXT = s.rd FW_STAT_ACTIVE) := by decide +kernel
theorem test_power_stageDone : (let s := upS.set FW_STAT_BUSY 1; let t := aft (.stageDone 0 3 1 0) s; s.SameWork t ∧ t.flag FW_STAT_BUSY = false ∧ t.slotValid 1 = true ∧ t.slotSvn 1 = 3) := by decide +kernel
theorem test_power_commitSvn : (let s := upS.set FW_STAT_SVN_FUSE 0; let t := aft (.commitSvn .eth) s; s.SameWork t ∧ t.rd FW_STAT_RESULT = 0 ∧ t.rd FW_STAT_SVN_FUSE = 1) := by decide +kernel
theorem test_power_settingsSave : (let s := upS; let t := aft (.settingsSave .eth) s; s.SameWork t ∧ t.flag DEV_SAVE_BUSY = true ∧ t.fw.snap.isSome = true ) := by decide +kernel
theorem test_power_pps : (let s := upS; let t := aft (.pps) s; t.ts.toNat = 10^9) := by decide +kernel
theorem witness_FeedsPowerAndHeat_FeedsCarryTheLoad : let n := onA.set PWR_STAT_B_GOOD 0
    onA.pocket.powered = false ∧ onA.power.supply = .on ∧ onA.rd PWR_STAT_FEED = feedCode .a ∧ onA.flag (feedField (otherFeed .a)) = true ∧
    n.pocket.powered = false ∧ n.power.supply = .on ∧ n.rd PWR_STAT_FEED = feedCode .a ∧ n.flag (feedField (otherFeed .a)) = false ∧
    hold.pocket.powered = false ∧ hold.power.supply = .holdup := by decide +kernel
theorem witness_FeedsPowerAndHeat_FeedsCarryTheLoad_return : let s := onA.set PWR_STAT_FEED 2
    s.pocket.powered = false ∧ s.power.supply = .on ∧ s.rd PWR_STAT_FEED = 2 ∧ s.flag PWR_STAT_A_GOOD = true := by decide +kernel
theorem witness_FeedsPowerAndHeat_PowerAndHeat : 10 * upS.rd PWR_CAP_CAP < (2500 : BitVec 16).toNat ∧
    100 * (1000 : BitVec 16).toNat ≤ 95 * (10 * upS.rd PWR_CAP_CAP) ∧ 2900 < (2901 : BitVec 16).toNat ∧ (2399 : BitVec 16).toNat < 2400 ∧
    100 ≤ (100 : BitVec 8).toNat ∧ upS.power.temps = [] ∧ upS.power.supply = .on := by decide +kernel
theorem witness_ResetsAndClocks_DevResets : let f := aft (.selfFence .i3c) upS; let g := f.set LIVE_STAT_FLUSHING 0
    upS.Takes .bar0 ⟨.rst, 0⟩ ∧ g.Takes .i3c ⟨.rst, 0⟩ ∧ g.selfFenced = true ∧ g.flag LIVE_STAT_FLUSHING = false ∧ upS.power.supply = .on ∧
    (aft .refclkLoss upS).power.refLost = true :=
  ⟨takes_of (by decide +kernel), takes_of (by decide +kernel), by decide +kernel⟩
theorem witness_ResetsAndClocks_DevResets_startUp : let s := State.reset.set RST_STAT_STEP 4
    4 ≤ s.rd RST_STAT_STEP ∧ s.flag RST_STAT_READY = false ∧ s.flag RST_STAT_STOPPED = false ∧ s.power.supply = .on ∧
    s.power.refLost = false ∧ s.power.resetLow = false := by decide +kernel
theorem witness_ResetsAndClocks_PowerOnResets : let o := ({ off1 with fw := { off1.fw with lastGasp := none } }.set PWR_STAT_A_GOOD 1)
    let d := { o with power := { o.power with supply := .tripped } }
    o.power.supply = .off ∧ o.flag PWR_STAT_A_GOOD = true ∧ o.fw.lastGasp = none ∧ d.power.supply = .tripped ∧ d.flag PWR_STAT_A_GOOD = true ∧
    d.fw.lastGasp = none := by decide +kernel
def ptm (ready : Nat) : State := (((upS.cxlS 5 2).set CLK_PTM_PORT 5).set CLK_PTM_ROOT 0).set RST_STAT_READY ready
theorem witness_ResetsAndClocks_Clocks : let l := (ptm 0).set CLK_STAT_PTM_LOCK 0; let k := (ptm 1).set CLK_STAT_PTM_LOCK 1
    upS.power.refLost = false ∧ upS.ports = [] ∧ l.flag CLK_PTM_ROOT = false ∧ l.rd CLK_PTM_PORT ≠ 0xFF ∧ l.role (l.rd CLK_PTM_PORT) = .trunk ∧
    l.linked (l.rd CLK_PTM_PORT) = true ∧ l.flag RST_STAT_READY = false ∧ l.flag CLK_STAT_PTM_LOCK = false ∧ k.flag CLK_PTM_ROOT = false ∧
    k.rd CLK_PTM_PORT ≠ 0xFF ∧ k.role (k.rd CLK_PTM_PORT) = .trunk ∧ k.linked (k.rd CLK_PTM_PORT) = true ∧ k.flag RST_STAT_READY = true ∧
    k.flag CLK_STAT_PTM_LOCK = true ∧ upS.ts.toNat < 10 ^ 18 := by decide +kernel
theorem witness_StartUp : let s := State.reset
    s.flag RST_STAT_STOPPED = false ∧ s.rd RST_STAT_STEP = 3 ∧ s.power.supply = .on ∧ s.power.refLost = false ∧ s.power.resetLow = false ∧
    s.rd FW_STAT_NEXT = 0 ∧ Tbl.get s.fw.boots 0 0 < 3 ∧ s.flag FW_STAT_A_VALID = true ∧ s.profile ≠ 3 := by decide +kernel
theorem witness_StartUp_steps : let a := State.reset.set RST_STAT_STEP 5; let b := State.reset.set RST_STAT_STEP 6
    let c := State.reset.set RST_STAT_STEP 7
    a.flag RST_STAT_STOPPED = false ∧ a.rd RST_STAT_STEP = 5 ∧ (0 : DieId).val ∉ a.power.done ∧ b.flag RST_STAT_STOPPED = false ∧
    b.rd RST_STAT_STEP = 6 ∧ 8 + (0 : DieId).val ∉ b.power.done ∧ c.flag RST_STAT_STOPPED = false ∧ c.rd RST_STAT_STEP = 7 ∧
    c.power.supply = .on ∧ c.power.refLost = false ∧ c.power.resetLow = false := by decide +kernel
theorem witness_FirmwareAndSettings : let s := upS.set FW_LEN_BYTES 8192
    s.Takes .eth ⟨.fw, 0⟩ ∧ s.flag FW_STAT_BUSY = false ∧ 8192 ≤ s.rd FW_LEN_BYTES ∧ s.rd FW_LEN_BYTES ≤ 224 * 2 ^ 20 ∧
    s.rd FW_SRC_LO_ADDR % 64 = 0 ∧ s.flag RST_STAT_READY = true ∧ s.Takes .eth ⟨.dev, 0⟩ ∧ s.flag DEV_SAVE_BUSY = false := by
  refine ⟨takes_of (by decide +kernel), ?_, ?_, ?_, ?_, ?_, takes_of (by decide +kernel), ?_⟩ <;> decide +kernel
theorem witness_FirmwareAndSettings_staged : let b := upS.set FW_STAT_BUSY 1; let a := aft (.stageDone 0 127 1 0) b
    let v := aft (.settingsSave .eth) upS
    b.flag FW_STAT_BUSY = true ∧ b.rd FW_STAT_SVN_FUSE ≤ (127 : BitVec 7).toNat ∧ a.Takes .eth ⟨.fw, 0⟩ ∧ a.flag FW_STAT_BUSY = false ∧
    a.slotValid a.inactiveSlot = true ∧ a.rd FW_STAT_SVN_FUSE ≤ a.slotSvn a.inactiveSlot ∧ (∃ n, v.fw.snap = some n) ∧ v.fw.booked = none :=
  ⟨by decide +kernel, by decide +kernel, takes_of (by decide +kernel), by decide +kernel, by decide +kernel, by decide +kernel, ⟨_, rfl⟩,
    by decide +kernel⟩
theorem witness_StacksAndDieLinksFail_StacksAndDieLinks : let h := upS.set HBM_PWR_SR_EN 1 2; let l := upS.set CDIE_LINK_PDIE_UP 1 2
    h.flag HBM_PWR_SR_EN 2 = true ∧ h.tier.t1 = [] ∧ h.home.repl.local_ = [] ∧ h.procs.running = [] ∧ h.rc = [] ∧
    l.flag CDIE_LINK_PDIE_UP 2 = true ∧ l.ports = [] ∧ (l.set CDIE_LINK_PDIE_UP 0 2).flag CDIE_LINK_PDIE_UP 2 = false := by decide +kernel

end Power

namespace Pocket

theorem test_pocket_pocketRing : (let s := upS.set POCKET_DB_PENDING 1; let t := aft (.pocketRing .bar0) s; (decide (t = { s with regs := t.regs }) && regsOk t s (fun b => if b = POCKET_DB_DROPPED.addr then insBits (s.reg b) 3 3 1 else s.reg b))) = true := by decide +kernel
theorem test_pocket_pocketRing_2 : (let s := upS; let t := aft (.pocketRing .bar0) s; (decide (t = { s with regs := t.regs, pocket := t.pocket }) && regsOk t s (fun b => if b = POCKET_DB_PENDING.addr then insBits (s.reg b) 1 1 1 else s.reg b) && decide (t.pocket = { s.pocket with
        overRange := false
        seq := s.pocket.seq + 1
        signing := some { s.pocketNow pkRequested s.pocketNonce with seq := s.pocket.seq + 1 } }))) = true := by decide +kernel
theorem test_pocket_pocketMirrorWrite : (let s := { upS with pocket := { upS.pocket with tenths := 9, rtc := 1799 } }; let t := aft (.pocketMirrorWrite 70000 3) s;
    t.pocket.signing.map (fun q => (q.kind, q.rtc, q.eA)) = some (1, 1800, 70000)) := by decide +kernel
theorem test_pocket_pocketMirrorWrite_2 : (let s := upS; let t := aft (.pocketMirrorWrite 70000 3) s; t.free = 2 ∧ t.pocket.eA = 70000) := by decide +kernel
theorem witness_PocketEventsAndMirror_PocketEvents : upS.pocket.powered = true ∧ upS.pocket.signing = none ∧ upS.pocket.due = [] ∧
    upS.pocket.log.length < pocketLogSize := by decide +kernel
def sgS (k : Nat) : State := { upS with pocket := { upS.pocket with signing := some { upS.pocketNow k 0 with seq := 1 } } }
theorem witness_PocketAnswers : let d := { pocketOff with pocket := { pocketOff.pocket with sealDue := 1 } }
    let p := { upS with pocket := { upS.pocket with eB := 100 } }
    d.pocket.powered = false ∧ d.pocket.sealDue = 1 ∧ d.pocket.due = [] ∧ d.pocket.signing = none ∧ p.pocket.pulseAt + 100 ≤ p.pocket.eA + p.pocket.eB ∧
    upS.Takes .eth ⟨.pocket, 0⟩ ∧ upS.flag POCKET_DB_PENDING = false ∧ upS.pocket.powered = true ∧ upS.pocket.signing = none ∧
    (upS.set POCKET_DB_PENDING 1).Takes .eth ⟨.pocket, 0⟩ ∧ (upS.set POCKET_DB_PENDING 1).flag POCKET_DB_PENDING = true ∧
    (upS.set POCKET_STAT_ALIVE 1).flag POCKET_STAT_ALIVE = true := by
  refine ⟨?_, ?_, ?_, ?_, ?_, takes_of (by decide +kernel), ?_, ?_, ?_, takes_of (by decide +kernel), ?_⟩ <;> decide +kernel
theorem witness_PocketAnswers_signed : let a := sgS pkSeal; let b := sgS pkPeriodic
    (∃ q, a.pocket.signing = some q ∧ q.kind = pkSeal) ∧ a.pocket.due = [] ∧ (∃ q, b.pocket.signing = some q ∧ q.kind ≠ pkSeal) ∧
    b.pocket.due = [] ∧ b.pocket.log.length < pocketLogSize :=
  ⟨⟨_, rfl, by decide +kernel⟩, by decide +kernel, ⟨_, rfl, by decide +kernel⟩, by decide +kernel⟩
theorem witness_PocketEventsAndMirror_PocketMirror : upS.pocket.powered = true ∧ upS.power.supply = .on ∧ upS.pocket.ready = [] ∧ upS.sec.slots = [] := by decide +kernel
theorem witness_PocketEventsAndMirror_PocketMirror_boundary : (let s := { upS with pocket := { upS.pocket with tenths := 9, rtc := 1799 } };
    s.pocket.powered = true ∧ s.power.supply = .on ∧ s.pocket.ready = [] ∧ s.sec.slots = [] ∧ s.pocket.signing = none ∧ s.pocket.due = [] ∧
    s.pocket.tenths = 9 ∧ (s.pocket.rtc + 1) % 900 = 0) := by decide +kernel

end Pocket

namespace Fm

def Q1 : Req := { path := .eth, tag := 7 }
def fmsay (s : State) (code : Byte) (ext : Nat) (l : List Nat) : State := { s with out := .fm Q1 code ext l :: s.out }
theorem test_fm_backgroundOperationStatus : (upS.fmUp Q1 && okc (.backgroundOperationStatus Q1) upS (fmsay upS 0 0 [0,0]) && okc (.getPhysicalPortState Q1 P5) upS (fmsay upS 0 0 [5,0,0,upS.reg (PORT_LSTAT_UP.ref.at ⟨.port, 5⟩)]) && okc (.setResponseMessageLimit Q1 3) upS { fmsay upS 0 0 [3] with mgmt := { upS.mgmt with msgLimit := 3 } } && okc (.getDcRegionExtentLists Q1 P5) (memS true) (fmsay (memS true) 0 0 [5, 0]) && okc (.fmapiUnsupported Q1 9) upS (fmsay upS 3 0 [])) = true := by decide +kernel
def P30 : PortId := 30
def aeS : State := { upS.cxlS 5 0 with mgmt := { upS.mgmt with vppb := [(258, 5), (259, 6)] } }
theorem test_fm_generateAerEvent : (let s := aeS; let t := aft (.generateAerEvent Q1 1 2 9) s; decide (t = { fmsay s 0 0 [] with ports := t.ports } ∧ (t.port 5).egress.map (·.msg) = [.ioAer 2 9] ∧ t.port 6 = s.port 6) && okc (.generateAerEvent Q1 1 3 9) s (fmsay s 2 rcDependency [])) = true := by decide +kernel
theorem test_fm_sendPpbCxlIoConfigRequest : (let s := upS.cxlS 30 1; let t := aft (.sendPpbCxlIoConfigRequest Q1 P30 4 true 9) s; let u := aft (.tunnelManagementCommand Q1 P30 [1,2]) s; decide (t = { fmsay s 0 0 [] with ports := t.ports } ∧ ((t.port 30).egress.map (·.msg)) = [.ioCfg true 4 9] ∧ u.free = s.free + 1 ∧ u.out.length = 1 ∧ (u.port 30).egress = [{ q := 3, msg := .mctp [1,2] }])) = true := by decide +kernel
theorem test_fm_tunnelManagementCommand : (let s := upS.cxlS 5 0; okc (.tunnelManagementCommand Q1 P5 [1,2]) s (fmsay s 2 rcRole [])) = true := by decide +kernel
theorem test_fm_getEventRecords : (let s := State.reset; okc (.getEventRecords Q1) s s && okc (.bindVppb Q1 0 0 0) s s && s.fmUp Q1 == false) = true := by decide +kernel
theorem test_fm_bindVppb : (let s := upS.set SEC_PROFILE_PROFILE 2; okc (.bindVppb Q1 0 0 P5) s (fmsay s 0x13 0 []) && okc (.setDcRegionConfiguration Q1 P5 [(4,4)]) s (fmsay s 0x13 0 [])) = true := by decide +kernel
theorem test_fm_initiateDynamicCapacityAdd : (let s := { upS with mgmt := { upS.mgmt with background := some 0x5102 } }; okc (.initiateDynamicCapacityAdd Q1 P5 []) s (fmsay s 6 0 []) && okc .backgroundOperationDone s upS) = true := by decide +kernel
theorem test_fm_physicalPortControl : (let s := upS; okc (.physicalPortControl Q1 P5 3) s (fmsay s 2 rcFieldRange []) && okc (.unbindVppb Q1 1 1) s (fmsay s 2 rcDependency [])) = true := by decide +kernel
theorem test_fm_setDcRegionConfiguration : (let s := upS; let a := HOME_CTL_SPEC_EN.addr; let t := aft (.setDcRegionConfiguration Q1 P5 [(a, 0)]) s; let u := aft (.registerWrite .eth (BitVec.ofNat 26 a) 0 15) s; decide ((match regAt a with | some (g, d) => decide (g = ⟨.home, 0⟩) && decide (d.blk = some .home) && !outOfRange d 0 | none => false) = true ∧ t = { u with out := .fm Q1 0 0 [] :: u.out }  ∧ u.rd HOME_CTL_SPEC_EN = 0)) = true := by decide +kernel
theorem test_fm_physicalPortControl_2 : (let s := upS.roleS 5 0; let t := aft (.physicalPortControl Q1 P5 0) s; decide (t = { fmsay s 1 0 [] with
        regs := t.regs
        ports := t.ports
        mgmt := { s.mgmt with background := some 0x5102 } } ∧ t.enabled .port 5 = false ∧ t.hrd ⟨.port, 5⟩ PG_CTL_ENABLE = 0 ∧ s.dependents ⟨.port, 5⟩ = [] ∧ s.linked 5 = false)) = true := by decide +kernel
/-- Slice 0 of tenant 1 in both banks, slice 4 of tenant 2 in the pending bank; port 5 a leaf. -/
def cmS : State := let s := (memS true).cxlS 30 1
  { (s.set MAP_STAT_PENDING_READY 1) with map := { s.map with pend := { s.map.cur with routes := [], places := [(0, 30 + (2 ^ 80 - 2 ^ 8))], slices := [(0, 1 + 1 * 2 ^ 16), (4, 1 + 2 * 2 ^ 16)] } } }
theorem test_fm : ((State.bindSlices 5 true [4] cmS).startCommit.commitRefusal = none ∧ (State.bindSlices 5 false [0] cmS).startCommit.commitRefusal = none) ∧ cmS.pendHeld = false ∧ cmS.map.xferUndo = none := by decide +kernel
theorem test_fm_bindVppb_2 : (let s := cmS; let t := aft (.bindVppb Q1 4 1 P5) s; decide (t.out.head? = some (.fm Q1 1 0 []) ∧ t.mgmt.background = some 0x5201 ∧ t.mgmt.vppb = [(1025, 5)] ∧ t.epoch = 2 ∧ bdSlices (t.map.cur.bind 5) = 17 ∧ bit (t.map.cur.bind 5) 0 = true ∧ t.map.cur.extents = s.map.pend.extents)) = true := by decide +kernel
theorem test_fm_unbindVppb : (let s := { cmS with mgmt := { cmS.mgmt with vppb := [(0, 5)] } }; let t := aft (.unbindVppb Q1 0 0) s; decide (t.out.head? = some (.fm Q1 1 0 []) ∧ t.mgmt.background = some 0x5202 ∧ t.mgmt.vppb = [] ∧ t.epoch = 2 ∧ bdSlices (t.map.cur.bind 5) = 0 ∧ t.map.cur.extents = s.map.pend.extents)) = true := by decide +kernel
theorem test_fm_initiateDynamicCapacityAdd_2 : (let s := cmS; let t := aft (.initiateDynamicCapacityAdd Q1 P5 [0]) s; decide (t.out.head? = some (.fm Q1 1 0 []) ∧ t.mgmt.background = some 0x5604 ∧ t.epoch = 2 ∧ bdSlices (t.map.cur.bind 5) = 1)) = true := by decide +kernel
theorem test_fm_initiateDynamicCapacityRelease : (let s := cmS; let t := aft (.initiateDynamicCapacityRelease Q1 P5 [0]) s; decide (t.out.head? = some (.fm Q1 1 0 []) ∧ t.mgmt.background = some 0x5605 ∧ t.epoch = 2 ∧ bdSlices (t.map.cur.bind 5) = 0)) = true := by decide +kernel
theorem test_fm_setDcRegionConfiguration_2 : (let s := upS; let a := HOME_TSNP_LIMIT_US.addr; let t := aft (.setDcRegionConfiguration Q1 P5 [(a, 0)]) s; decide (t = { s.err ⟨.home, 0⟩ 1 with out := .fm Q1 2 rcFieldRange [] :: s.out })) = true := by decide +kernel
theorem witness_FmAnswers : let b : State := { upS with mgmt := { upS.mgmt with background := some 0x5102, vppb := [(258, 5)] } }
    let t := upS.cxlS 30 1
    upS.fmUp Q1 = true ∧ upS.mgmt.background = none ∧ b.fmUp Q1 = true ∧ b.mgmt.background = some 0x5102 ∧
    Tbl.get? b.mgmt.vppb (256 * (1 : BitVec 8).toNat + (2 : BitVec 8).toNat) = some 5 ∧ aeS.fmUp Q1 = true ∧ aeS.up 5 = true ∧
    Tbl.get? aeS.mgmt.vppb (256 * (1 : BitVec 8).toNat + (2 : BitVec 8).toNat) = some 5 ∧
    Tbl.get? aeS.mgmt.vppb (256 * (1 : BitVec 8).toNat + (3 : BitVec 8).toNat) = some 6 ∧ aeS.up 6 = false ∧ t.fmUp Q1 = true ∧ t.up 30 = true ∧ t.profile ≠ profileF ∧
    t.role 30 = .tray ∧ t.role 5 ≠ .tray ∧ State.reset.fmUp Q1 = false := by decide +kernel
theorem witness_FmConfigures : let f := upS.set SEC_PROFILE_PROFILE 2
    let b : State := { upS with mgmt := { upS.mgmt with background := some 0x5102 } }
    f.fmUp Q1 = true ∧ f.profile = profileF ∧ b.fmUp Q1 = true ∧ b.profile ≠ profileF ∧ b.mgmt.background.isSome = true ∧
    upS.fmUp Q1 = true ∧ upS.profile ≠ profileF ∧ upS.mgmt.background = none ∧ 3 ≤ (3 : BitVec 8).toNat ∧
    Tbl.get? upS.mgmt.vppb (256 * (0 : BitVec 8).toNat + (0 : BitVec 8).toNat) = none := by decide +kernel
theorem witness_FmConfigures_write : let s := upS; let a : BitVec 26 := BitVec.ofNat 26 HOME_TSNP_LIMIT_US.addr
    ∃ g d, winAt a.toNat = none ∧ regAt a.toNat = some (g, d) ∧ d.blk = some .home ∧ s.Takes .eth g ∧ s.flag MAP_COMMIT_COMMIT = false ∧
      s.rwlLocked g = false ∧ outOfRange d (0 : Word).toNat = true ∧ outOfRange d (5 : Word).toNat = false :=
  ⟨((regAt HOME_TSNP_LIMIT_US.addr).get (by decide +kernel)).1, ((regAt HOME_TSNP_LIMIT_US.addr).get (by decide +kernel)).2, by decide +kernel, by decide +kernel,
    by decide +kernel, takes_of (by decide +kernel), by decide +kernel, by decide +kernel, by decide +kernel, by decide +kernel⟩
theorem witness_FmConfigures_port : let s := upS.roleS 5 0
    s.fmUp Q1 = true ∧ s.Takes .eth ⟨.port, 5⟩ ∧ s.mgmt.background = none ∧ s.flag MAP_COMMIT_COMMIT = false ∧ s.enabled .port 5 = true ∧
    s.dependents ⟨.port, 5⟩ = [] ∧ s.linked 5 = false ∧ s.closing = [] ∧ s.coll = [] ∧ s.procs.procs = [] :=
  ⟨by decide +kernel, takes_of (by decide +kernel), by decide +kernel⟩
theorem witness_FmConfigures_vppb : let s := cmS; let u : State := { cmS with mgmt := { cmS.mgmt with vppb := [(0, 5)] } }
    s.fmUp Q1 = true ∧ s.profile ≠ profileF ∧ s.mgmt.background = none ∧ s.pendHeld = false ∧ s.hrd ⟨.map, 0⟩ PG_CTL_LOCK ≠ 1 ∧
    s.map.xferUndo = none ∧ s.mgmt.held = [] ∧ s.mgmt.heldEnt = [] ∧ s.mgmt.msgs = [] ∧
    (State.bindSlices 5 true [4] s).startCommit.commitRefusal = none ∧
    Tbl.get? u.mgmt.vppb (256 * (0 : BitVec 8).toNat + (0 : BitVec 8).toNat) = some 5 ∧
    (State.bindSlices 5 false [0] u).startCommit.commitRefusal = none ∧ exOwner (s.map.pend.extent 0) = 0 ∧
    (State.bindSlices 5 true [0] s).startCommit.commitRefusal = none := by decide +kernel

end Fm

namespace Attest

def R1 (n : Nat := 0) (k : Requester := .operator) : SpdmReq := { req := { path := .eth, tag := 3 }, session := n, kind := k, digest := 77 }
def spsay (s : State) (n : Nat) (c : Byte) (l : List Nat) : State := { s with out := .spdm (R1 n).req c l :: s.out }
def seS (k : Requester) (done : Bool := true) : State := { upS with sec := { upS.sec with sessions := [{ id := 4, kind := k, digest := 77, done := done }] } }
theorem test_attest_spdmUnsupported : (okc (.spdmUnsupported (R1) 5) upS (spsay upS 0 0x7F [7]) && okc (.getMeasurements (R1 4) 0) (seS .operator) (spsay (seS .operator) 4 0x60 [6]) && okc (.getMeasurements (R1 4) 7) (seS .operator) (spsay (seS .operator) 4 0x7F [1]) && okc (.getMeasurements (R1 4 .tenant) 6) (seS .tenant) (spsay (seS .tenant) 4 0x7F [1]) && okc (.heartbeat (R1 4)) (seS .operator) (spsay (seS .operator) 4 0x68 []) && okc (.heartbeat (R1 5)) (seS .operator) (spsay (seS .operator) 5 0x7F [2])) = true := by decide +kernel
theorem test_attest_keyExchange : (let s := upS.set SEC_PROFILE_PROFILE 2; okc (.keyExchange (R1 0 .tenant)) s (spsay s 0 0x7F [1])) = true := by decide +kernel
theorem test_attest_finish : (let s := seS .operator false; okc (.finish (R1 4) true) s { spsay s 4 0x65 [] with sec := { s.sec with sessions := (seS .operator).sec.sessions } } && okc (.finish (R1 4) false) s { spsay s 4 0x7F [6] with sec := { s.sec with sessions := [] } }) = true := by decide +kernel
theorem test_attest_endSession : (let s := seS .operator; let t := aft (.endSession (R1 4)) s; decide (t = { spsay s 4 0x6C [] with sec := { s.sec with sessions := t.sec.sessions } } ∧ t.session 4 = none)) = true := by decide +kernel
def lkS : State := { (upS.ydS 5 0 77) with sec := (seS .linkPartner).sec }
theorem test_attest_vendorDefinedRequest : (let s := lkS; let t := aft (.vendorDefinedRequest (R1 4) P5 (.keyProg true)) s; let u := aft (.vendorDefinedRequest (R1 4) P5 (.kSetGo true false)) t; let w := aft (.vendorDefinedRequest (R1 4) P5 (.kSetStop true)) u; decide (t = { spsay s 4 0x7E [0] with ports := t.ports } ∧ (t.port 5) = { s.port 5 with ideKeySet := 2 } ∧ s.linked 5 = true ∧ u = { spsay t 4 0x7E [0] with regs := u.regs, ports := u.ports } ∧ u.flag PORT_LSTAT_IDE_ACTIVE 5 = true ∧ w.flag PORT_LSTAT_IDE_ACTIVE 5 = false ∧ w = { spsay u 4 0x7E [0] with regs := w.regs, ports := w.ports })) = true := by decide +kernel
/-- A tray's link, key set 1 programmed. -/
def trq : State := (upS.cxlS 30 1).modPort 30 (fun x => { x with ideKeySet := 2 })
theorem test_attest_vendorDefinedRequest_2 : (let s := trq; let t := aft (.vendorDefinedRequest (R1 4) 30 (.kSetGo true false)) s; decide (t.free = s.free + 1 ∧ t.out = s.out ∧ t.flag PORT_LSTAT_IDE_ACTIVE 30 = true ∧ (t.port 30).egress.map (·.q) = [3])) = true := by decide +kernel
def KL (rz ok : Bool) : KeyLoad := { session := 4, ctx := 9, noCmpr := false, rsvdZero := rz, keyId := 6, unwrapOk := ok, pair := 5 }
def klS : State := { (upS.set CTX_OWNER_DIGEST 77 9 0) with sec := (seS .tenant).sec }
def refK (s : State) (k : KeyLoad) (code : Nat) : Bool := let t := aft (.keyLoad .bar0 k) s; decide (t = { s with regs := t.regs, mgmt := t.mgmt } ∧
      t.rd KEYS_LOAD_STAT_RESULT = code ∧ t.rd KEYS_LOAD_STAT_CTX = 9 ∧ t.flag KEYS_LOAD_STAT_VALID = true ∧
      t.ctxState 9 = s.ctxState 9 ∧ bit (t.pgErr ⟨.keys, 0⟩) 16 = true)
theorem test_attest : (klS.ctxOwner 9 = 77 ∧ refK klS (KL false true) 1 ∧ refK (klS.set CTX_STAT_COOLING 1 9) (KL true true) 9 ∧ refK { klS with sec := upS.sec } (KL true true) 0x1101 ∧ refK (klS.set CTX_OWNER_DIGEST 7 9 0) (KL true true) 0x1101 ∧ refK klS (KL true false) 0x1102 ∧ refK { klS with sec := { klS.sec with slots := [(3, { pair := 8, noCmpr := false })] } } (KL true true) 0x1103) := by decide +kernel
theorem test_attest_keyLoad : (let s := klS; let t := aft (.keyLoad .bar0 (KL true true)) s; decide (t = { s with regs := t.regs, sec := { s.sec with slots := [(9, { pair := 5, noCmpr := false })] }, pmon := t.pmon } ∧
            t.rd KEYS_LOAD_STAT_RESULT = 0 ∧ t.rd KEYS_LOAD_STAT_CTX = 9 ∧ t.ctxState 9 = ctxReady ∧ t.flag CTX_STAT_KEYED 9 = true ∧
            t.rd CTX_KEYID_KEY_ID 9 = 6)) = true := by decide +kernel
def C3 : CtxId := 3
def rdS : State := memS true
theorem test_attest_retire : (let s := rdS; let t := aft (.retire .bar0 C3) s; decide (t = { s with regs := t.regs } ∧ t.ctxState 3 = ctxRetiring) && okc (.retire .bar0 C3) t t && okc (.ctxReset .bar0 C3) s s) = true := by decide +kernel
def pr0 : Proc := { id := 2, trig := 0, epoch := 1, phase := .running 6 }
theorem test_attest_2 : (let s := { (rdS.set CORE_STAT_RUNNING 1 6) with procs := { rdS.procs with procs := [(3, [pr0])], running := [(6, (3, 2))] } }; let t := s.ctxResetWork 3; decide (t.ctxState 3 = ctxReady ∧ t.sec = s.sec ∧ t.pool = s.pool ∧ (t.procsOf 3).map (fun q => (q.phase, q.status, q.idx)) = [(.ending, stAborted, 0)] ∧ t.flag CORE_STAT_RUNNING 6 = false)) = true := by decide +kernel
theorem test_attest_ctxZeroise : (let s := (rdS.set CTX_STAT_STATE ctxRetiring 3).set CTX_STAT_GEN 255 3; let t := aft (.ctxZeroise C3) s; decide (t = { s with regs := t.regs, sec := { s.sec with slots := [] } } ∧
      t.ctxState 3 = ctxFree ∧ t.flag CTX_STAT_KEYED 3 = false ∧ t.flag CTX_STAT_COOLING 3 = true ∧ t.rd CTX_STAT_GEN 3 = 0) && okc (.ctxZeroise C3) rdS rdS && (let u := aft (.coolingEnd C3) t; decide (u.flag CTX_STAT_COOLING 3 = false ∧ u = { t with regs := u.regs }))) = true := by decide +kernel
def BA (k g : Bool) (n : Nat) (l : List (Nat × Word) := []) : Batch := { keyOk := k, sigOk := g, seq := BitVec.ofNat 64 n, entries := l }
def pfS : State := upS.set SEC_PROFILE_PROFILE 2
def refB (c : Instr) (s : State) (code : Nat) : Bool := let t := aft c s; decide (t = { s with regs := t.regs, mgmt := t.mgmt } ∧
    t.rd SEC_BATCH_CMD_RESULT = code ∧ t.flag SEC_BATCH_CMD_GO = false ∧ bit (t.pgErr ⟨.sec, 0⟩) 17 = true) && regsOk t s (fun a => if a = SEC_BATCH_CMD_RESULT.addr ∨ a = PG_ERR_ERR.at ⟨.sec, 0⟩ then t.reg a else s.reg a)
theorem test_attest_signedBatch : (refB (.signedBatch .eth (BA true true 1)) upS 6 && refB (.signedBatch .eth (BA false true 1)) pfS 0x701 && refB (.signedBatch .eth (BA true false 1)) pfS 0x702 && refB (.signedBatch .eth (BA true true 0)) pfS 0x703 && refB (.secBatchGo .bar0) upS 6) = true := by decide +kernel
theorem test_attest_signedBatch_2 : (let s := pfS; let t := aft (.signedBatch .eth (BA true true 1)) s; decide (t = { s with regs := t.regs, fw := { s.fw with secSeq := 1 } } ∧ t.rd SEC_BATCH_CMD_RESULT = 0)) = true := by decide +kernel
theorem test_attest_signedBatch_3 : (let s := pfS; let a := HOME_CTL_SPEC_EN.addr; let t := aft (.signedBatch .eth (BA true true 1 [(a / 4, 0)])) s; decide (t = { s with regs := t.regs, fw := { s.fw with secSeq := 1 } } ∧ t.rd SEC_BATCH_CMD_RESULT = 0 ∧ t.rd HOME_CTL_SPEC_EN = 0 ∧ s.rd HOME_CTL_SPEC_EN = 1) && regsOk t s (fun b => if b = a ∨ b = SEC_BATCH_CMD_RESULT.addr then t.reg b else s.reg b)) = true := by decide +kernel
theorem test_attest_secBatchGo : (let s := pfS; let t := aft (.secBatchGo .bar0) s; let u := aft (.secBatchReadDone false (BA true true 1)) t; let w := aft (.secBatchReadDone true (BA true true 1)) t; decide (t = { s with regs := t.regs } ∧ t.flag SEC_BATCH_CMD_GO = true ∧ u = { t with regs := u.regs, mgmt := u.mgmt } ∧ u.rd SEC_BATCH_CMD_RESULT = 0x0705 ∧
      u.flag SEC_BATCH_CMD_GO = false ∧ bit (u.pgErr ⟨.sec, 0⟩) 17 = true ∧ w = { t with regs := w.regs, fw := { t.fw with secSeq := 1 } } ∧
      w.rd SEC_BATCH_CMD_RESULT = 0 ∧ w.flag SEC_BATCH_CMD_GO = false) && okc (.secBatchReadDone true (BA true true 1)) s s) = true := by decide +kernel
theorem test_attest_registerWrite : (let s := pfS; let a := HOME_CTL_SPEC_EN.addr; let t := aft (.registerWrite .eth (BitVec.ofNat 26 a) 0 15) s; decide (t = { s with regs := t.regs, mgmt := t.mgmt, pmon := t.pmon } ∧ bit (t.pgErr ⟨.home, 0⟩) 0 = true ∧ t.tally .sec 1 = s.tally .sec 1 + 1 ∧ bit (t.pgErr ⟨.sec, 0⟩) 16 = true ∧ t.rd HOME_CTL_SPEC_EN = 1)) = true := by decide +kernel
theorem test_attest_signedBatch_4 : (let s := pfS; let a := HOME_TSNP_LIMIT_US.addr; let t := aft (.signedBatch .eth (BA true true 1 [(a / 4, 0)])) s; decide (t.fw.secSeq = 1 ∧ t.rd SEC_BATCH_CMD_RESULT = rcFieldRange ∧ t.rd SEC_BATCH_IDX_INDEX = 0 ∧ t.reg a = s.reg a ∧ bit (t.pgErr ⟨.sec, 0⟩) 17 = true)) = true := by decide +kernel
theorem witness_SpdmAnswers : let f := (seS .tenant).set SEC_PROFILE_PROFILE 2
    upS.mgmtUp = true ∧ upS.session (R1 4).session = none ∧ (∃ n, (seS .operator).session 4 = some n ∧ n.kind = .operator) ∧
    (seS .operator).mgmtUp = true ∧ (∃ n, (seS .tenant).session 4 = some n ∧ n.kind = .tenant) ∧ (seS .tenant).profile = profileU ∧
    f.mgmtUp = true ∧ f.profile = profileF ∧ (∃ n, f.session 4 = some n ∧ n.kind = .tenant) ∧ (R1 0 .tenant).kind = .tenant ∧
    ¬(upS.profile = profileF ∧ (R1 0 .tenant).kind = .tenant) ∧ upS.sec.sessions.length < 64 ∧ State.reset.mgmtUp = false :=
  ⟨by decide +kernel, by decide +kernel, ⟨_, rfl, by decide +kernel⟩, by decide +kernel, ⟨_, rfl, by decide +kernel⟩, by decide +kernel,
    by decide +kernel, by decide +kernel, ⟨_, rfl, by decide +kernel⟩, by decide +kernel⟩
theorem witness_SpdmAnswers_sessions : let b : State := { upS with sec := { upS.sec with sessions := List.replicate 64 { id := 1, kind := .operator, digest := 0 } } }
    let o := seS .operator false; let l := aft (.vendorDefinedRequest (R1 4) P5 (.keyProg true)) lkS
    ¬(b.profile = profileF ∧ (R1 0 .tenant).kind = .tenant) ∧ b.mgmtUp = true ∧ 64 ≤ b.sec.sessions.length ∧
    (∃ n, o.sec.sessions = [n] ∧ n.id = (R1 4).session ∧ n.done = false) ∧ lkS.mgmtUp = true ∧ (lkS.session (R1 4).session).isSome = true ∧
    l.mgmtUp = true ∧ (l.session (R1 4).session).isSome = true ∧ bit (l.port 5).ideKeySet (b2n true) = true ∧ l.linked 5 = true ∧
    bits (lkS.port 5).ideKeySet 2 2 = b2n false ∧ lkS.ideRequester 5 = false ∧ upS.ideRequester 5 = false :=
  ⟨by decide +kernel, by decide +kernel, by decide +kernel, ⟨_, rfl, by decide +kernel⟩, by decide +kernel⟩
theorem witness_SpdmAnswers_requester : trq.mgmtUp = true ∧ trq.ideRequester 30 = true ∧ bit (trq.port 30).ideKeySet (b2n true) = true ∧ trq.linked 30 = true := by
  decide +kernel
theorem not_tenant {path : Path} (h : path = .bar0 ∨ path = .eth ∨ path = .i3c) : ∀ p, path ≠ .tenant p := by
  rintro p rfl
  simp at h
theorem witness_ContextsAndKeys : let p : State := { klS with sec := { klS.sec with slots := [(3, { pair := 8, noCmpr := false })] } }
    klS.mgmtUp = true ∧ (∀ p, Path.bar0 ≠ .tenant p) ∧ klS.hrd ⟨.keys, 0⟩ PG_CTL_LOCK ≠ 1 ∧ klS.ctxState 9 = ctxFree ∧
    klS.flag CTX_STAT_COOLING 9 = false ∧ (∃ n, klS.session 4 = some n ∧ n.digest.toNat = klS.ctxOwner 9 ∧
      n.digest.toNat ≠ (klS.set CTX_OWNER_DIGEST 7 9 0).ctxOwner 9) ∧ klS.profile ≠ profileF ∧
    klS.sec.slots.any (fun q => klS.ctxTenant q.1 == klS.ctxTenant 9 && (q.2.pair != (KL true true).pair || q.2.noCmpr != false)) = false ∧
    p.sec.slots.any (fun q => p.ctxTenant q.1 == p.ctxTenant 9 && (q.2.pair != (KL true true).pair || q.2.noCmpr != false)) = true :=
  ⟨by decide +kernel, not_tenant (.inl rfl), by decide +kernel, by decide +kernel, by decide +kernel, ⟨_, rfl, by decide +kernel⟩,
    by decide +kernel⟩
theorem witness_ContextsAndKeys_contexts : let z := rdS.set CTX_STAT_STATE ctxRetiring 3
    let r : State := { (rdS.set CORE_STAT_RUNNING 1 6) with procs := { rdS.procs with procs := [(3, [pr0])], running := [(6, (3, 2))] } }
    rdS.Takes .bar0 ⟨.ctx, C3.val⟩ ∧ rdS.procsOf C3.val = [] ∧ rdS.tier.scheds = [] ∧ rdS.ctxState C3.val = ctxReady ∧
    z.ctxState C3.val = ctxRetiring ∧ z.procsOf C3.val = [] ∧ z.home.txns = [] ∧ r.Takes .bar0 ⟨.ctx, C3.val⟩ ∧
    r.procs.procs = [(C3.val, [pr0])] ∧ pr0.phase = .running 6 ∧ pr0.hostUsed = [] ∧ r.ctxState C3.val = ctxReady := by
  refine ⟨takes_of (by decide +kernel), ?_, ?_, ?_, ?_, ?_, ?_, takes_of (by decide +kernel), ?_⟩ <;> decide +kernel
theorem witness_SignedConfiguration : upS.profile ≠ profileF ∧ upS.flag SEC_BATCH_CMD_GO = false ∧ pfS.profile = profileF ∧
    pfS.flag SEC_BATCH_CMD_GO = false ∧ (BA false true 1).keyOk = false ∧ (BA true false 1).sigOk = false ∧ (BA true true 0).seq ≤ pfS.fw.secSeq ∧
    pfS.fw.secSeq < (BA true true 1).seq ∧ pfS.mgmtUp = true ∧ pfS.flag DEV_SAVE_AUTO = false ∧ (∀ p, Path.eth ≠ .tenant p) ∧
    pfS.hrd ⟨.sec, 0⟩ PG_CTL_LOCK ≠ 1 ∧ pfS.holdsWrites ⟨.sec, 0⟩ = false := by
  refine ⟨?_, ?_, ?_, ?_, ?_, ?_, ?_, ?_, ?_, ?_, not_tenant (.inr (.inl rfl)), ?_⟩ <;> decide +kernel
theorem witness_SignedConfiguration_entry : let s := pfS; let o := HOME_TSNP_LIMIT_US.addr / 4
    o < 2 ^ 24 ∧ winAt (4 * o) = none ∧ ∃ g d, regAt (4 * o) = some (g, d) ∧ d.blk = some .home ∧ outOfRange d (5 : Word).toNat = false ∧
      outOfRange d (0 : Word).toNat = true ∧ s.hrd (errPage g) PG_CTL_LOCK ≠ 1 ∧ s.holdsWrites g = false ∧ s.rwlLocked g = false ∧
      s.flag MAP_COMMIT_COMMIT = false ∧ s.hrd ⟨.home, 0⟩ PG_CTL_LOCK ≠ 1 :=
  ⟨by decide +kernel, by decide +kernel, ((regAt HOME_TSNP_LIMIT_US.addr).get (by decide +kernel)).1, ((regAt HOME_TSNP_LIMIT_US.addr).get (by decide +kernel)).2, by decide +kernel⟩
theorem witness_SignedConfiguration_go : let t := aft (.secBatchGo .bar0) pfS
    t.flag SEC_BATCH_CMD_GO = true ∧ t.profile = profileF ∧ t.fw.secSeq < (BA true true 1).seq ∧ t.mgmtUp = true ∧
    t.flag DEV_SAVE_AUTO = false ∧ (BA true true 1).entries = [] ∧ (∀ p, Path.bar0 ≠ .tenant p) := by
  refine ⟨?_, ?_, ?_, ?_, ?_, ?_, not_tenant (.inl rfl)⟩ <;> decide +kernel
theorem witness_SignedConfiguration_direct : let a : BitVec 26 := BitVec.ofNat 26 HOME_CTL_SPEC_EN.addr
    winAt a.toNat = none ∧ ∃ g d, regAt a.toNat = some (g, d) ∧ g.blk = .home ∧ (∀ f ∈ d.flds, f.ty ≠ .w1c) ∧
      offends d 0 (pfS.reg a.toNat) (0 : Word).toNat = true :=
  ⟨by decide +kernel, ((regAt HOME_CTL_SPEC_EN.addr).get (by decide +kernel)).1, ((regAt HOME_CTL_SPEC_EN.addr).get (by decide +kernel)).2, by decide +kernel⟩
theorem witness_ContextsAndKeys_noCmpr : let k := { KL true true with noCmpr := true }
    let s : State := { klS with map := { klS.map with cur := { klS.map.cur with extents := [(0, 5)], slices := [(0, 1)] } } }
    k.rsvdZero = true ∧ k.unwrapOk = true ∧ s.profile = profileU ∧ s.ctxState 9 = ctxFree ∧ s.flag CTX_STAT_COOLING 9 = false ∧
    s.map.cur.tenantCmpr (s.ctxTenant 9) = true ∧
    s.sec.slots.any (fun q => s.ctxTenant q.1 == s.ctxTenant 9 && (q.2.pair != k.pair || q.2.noCmpr != true)) = false := by decide +kernel

end Attest

end Sys2Proof.Tests
end

namespace Sys2Proof.Machine

/-! ### Bits cleared and fields stored -/

/-- Taking away the bits a mask names, on the lowest bit and on the rest. -/
theorem sub_and_mod_two_and_div_two (r m : Nat) :
    ((r - (r &&& m)) % 2 = 1 ↔ r % 2 = 1 ∧ ¬m % 2 = 1) ∧ (r - (r &&& m)) / 2 = r / 2 - (r / 2 &&& m / 2) := by
  have hle : r &&& m ≤ r := Nat.and_le_left
  have hdiv : (r &&& m) / 2 = r / 2 &&& m / 2 := Nat.and_div_two
  have hmod : (r &&& m) % 2 = 1 ↔ r % 2 = 1 ∧ m % 2 = 1 := Nat.and_mod_two_eq_one
  omega

/-- Taking away the bits a mask names clears those bits and no other. -/
theorem testBit_sub_and (r m i : Nat) : (r - (r &&& m)).testBit i = (r.testBit i && !m.testBit i) := by
  induction i generalizing r m with
  | zero =>
    rw [Bool.eq_iff_iff]
    simpa only [Nat.testBit_zero, Bool.and_eq_true, Bool.not_eq_true', decide_eq_true_eq, decide_eq_false_iff_not]
      using (sub_and_mod_two_and_div_two r m).1
  | succ i ih => rw [Nat.testBit_succ, (sub_and_mod_two_and_div_two r m).2, ih, Nat.testBit_succ, Nat.testBit_succ]

/-- Taking away bits that a field shares takes them away within the field. -/
theorem bits_sub_and (r m hi lo : Nat) :
    bits (r - (r &&& m)) hi lo = bits r hi lo - (bits r hi lo &&& bits m hi lo) := by
  apply Nat.eq_of_testBit_eq
  intro i
  rw [testBit_sub_and, bits_testBit, bits_testBit, bits_testBit, testBit_sub_and]
  cases decide (i < hi + 1 - lo) <;> rfl

theorem Fld.mask_testBit (f : Fld) (i : Nat) :
    f.mask.testBit i = (decide (f.lo ≤ i) && decide (i - f.lo < f.hi + 1 - f.lo)) := by
  simp only [Fld.mask, Nat.testBit_shiftLeft, Nat.testBit_two_pow_sub_one]

/-- Within its field a field's mask keeps every bit. -/
theorem bits_and_mask_same (v : Nat) (f : Fld) : bits (v &&& f.mask) f.hi f.lo = bits v f.hi f.lo := by
  apply Nat.eq_of_testBit_eq
  intro i
  rw [bits_testBit, bits_testBit, Nat.testBit_and, Fld.mask_testBit]
  by_cases h : i < f.hi + 1 - f.lo
  · simp [h]
  · simp [h]

/-- Two fields share no bit. -/
abbrev Fld.Apart (f h : Fld) : Prop := f.hi < h.lo ∨ h.hi < f.lo

/-- Within a field apart from it a field's mask keeps no bit. -/
theorem bits_and_mask_apart (v : Nat) (f h : Fld) (hd : f.Apart h) : bits (v &&& f.mask) h.hi h.lo = 0 := by
  apply Nat.eq_of_testBit_eq
  intro i
  rw [bits_testBit, Nat.testBit_and, Fld.mask_testBit, Nat.zero_testBit]
  by_cases hi : i < h.hi + 1 - h.lo
  · have : ¬(f.lo ≤ h.lo + i ∧ h.lo + i - f.lo < f.hi + 1 - f.lo) := by
      rcases hd with hd | hd <;> omega
    rw [← Bool.decide_and, decide_eq_false this, Bool.and_false, Bool.and_false]
  · rw [decide_eq_false hi, Bool.false_and]

/-- What a field holds after a write, by its type (spec 00, Typography; 20 R422). -/
def fldAfter (locked : Bool) (ty : FTy) (old new : Nat) : Nat :=
  match ty with
  | .rw => new
  | .rwl => if locked then old else new
  | .w1c => old - (old &&& new)
  | _ => old

/-- One field's step in storeFields. -/
def storeFld (locked : Bool) (v r : Nat) (f : Fld) : Nat :=
  match f.ty with
  | .rw => insBits r f.hi f.lo (bits v f.hi f.lo)
  | .rwl => if locked then r else insBits r f.hi f.lo (bits v f.hi f.lo)
  | .w1c => r - (r &&& (v &&& f.mask))
  | _ => r

theorem storeFields_eq_foldl (d : RegDef) (locked : Bool) (old v : Nat) :
    storeFields d locked old v = d.flds.foldl (storeFld locked v) old := rfl

/-- A field's step leaves in the field what its type says. -/
theorem bits_storeFld_same (l : Bool) (v r : Nat) (f : Fld) (hf : f.lo ≤ f.hi) :
    bits (storeFld l v r f) f.hi f.lo = fldAfter l f.ty (bits r f.hi f.lo) (bits v f.hi f.lo) := by
  have hins : bits (insBits r f.hi f.lo (bits v f.hi f.lo)) f.hi f.lo = bits v f.hi f.lo := by
    rw [bits_insBits _ _ _ _ hf, Nat.mod_eq_of_lt (bits_lt _ _ _)]
  cases e : f.ty with
  | rw => simp only [storeFld, fldAfter, e, hins]
  | rwl => cases l <;> simp [storeFld, fldAfter, e, hins]
  | w1c => simp only [storeFld, fldAfter, e, bits_sub_and, bits_and_mask_same]
  | ro | w1s | rc | wo => simp only [storeFld, fldAfter, e]

/-- A field's step leaves the fields apart from it. -/
theorem bits_storeFld_apart (l : Bool) (v r : Nat) (f h : Fld) (hf : f.lo ≤ f.hi) (hd : f.Apart h) :
    bits (storeFld l v r f) h.hi h.lo = bits r h.hi h.lo := by
  have hins : bits (insBits r f.hi f.lo (bits v f.hi f.lo)) h.hi h.lo = bits r h.hi h.lo :=
    bits_insBits_ne _ _ _ _ _ _ hf hd
  cases e : f.ty with
  | rw => simp only [storeFld, e, hins]
  | rwl => cases l <;> simp [storeFld, e, hins]
  | w1c => simp only [storeFld, e, bits_sub_and, bits_and_mask_apart _ _ _ hd, Nat.and_zero, Nat.sub_zero]
  | ro | w1s | rc | wo => simp only [storeFld, e]

/-- The fields of a register lie within its 32 bits and apart from each other. -/
abbrev FldsApart (fs : List Fld) : Prop := (∀ f ∈ fs, f.lo ≤ f.hi ∧ f.hi < 32) ∧ fs.Pairwise Fld.Apart

theorem bits_foldl_storeFld_apart (l : Bool) (v r : Nat) (fs : List Fld) (h : Fld)
    (hfs : ∀ f ∈ fs, f.lo ≤ f.hi ∧ f.Apart h) : bits (fs.foldl (storeFld l v) r) h.hi h.lo = bits r h.hi h.lo := by
  induction fs generalizing r with
  | nil => rfl
  | cons f fs ih =>
    obtain ⟨hf, hd⟩ := hfs f List.mem_cons_self
    rw [List.foldl_cons, ih _ (fun x hx => hfs x (List.mem_cons_of_mem _ hx)), bits_storeFld_apart l v r f h hf hd]

/-- Storing a list of fields that lie apart leaves in each what its type says. -/
theorem bits_foldl_storeFld (l : Bool) (v r : Nat) (fs : List Fld) (h : FldsApart fs) (f : Fld) (hf : f ∈ fs) :
    bits (fs.foldl (storeFld l v) r) f.hi f.lo = fldAfter l f.ty (bits r f.hi f.lo) (bits v f.hi f.lo) := by
  induction fs generalizing r with
  | nil => exact absurd hf List.not_mem_nil
  | cons e fs ih =>
    obtain ⟨hin, hpw⟩ := h
    obtain ⟨he, hpw⟩ := List.pairwise_cons.1 hpw
    have hin' : ∀ x ∈ fs, x.lo ≤ x.hi ∧ x.hi < 32 := fun x hx => hin x (List.mem_cons_of_mem _ hx)
    rw [List.foldl_cons]
    rcases List.mem_cons.1 hf with rfl | hf
    · rw [bits_foldl_storeFld_apart l v _ fs f (fun x hx => ⟨(hin' x hx).1, (he x hx).symm⟩),
        bits_storeFld_same l v r f (hin f List.mem_cons_self).1]
    · rw [ih _ ⟨hin', hpw⟩ hf, bits_storeFld_apart l v r e f (hin e List.mem_cons_self).1 (he f hf)]

/-- What a field of a register holds after a write. -/
theorem bits_storeFields (d : RegDef) (l : Bool) (old v : Nat) (h : FldsApart d.flds) (f : Fld) (hf : f ∈ d.flds) :
    bits (storeFields d l old v) f.hi f.lo = fldAfter l f.ty (bits old f.hi f.lo) (bits v f.hi f.lo) :=
  bits_foldl_storeFld l v old d.flds h f hf

/-- A register without W1C fields has no bit in the mask of such fields. -/
theorem maskOf_eq_zero (fs : List Fld) (p : FTy → Bool) (h : fs.any (fun f => p f.ty) = false) : maskOf fs p = 0 := by
  rw [List.any_eq_false] at h
  exact List.foldl_same _ 0 fs (fun f hf => if_neg (h f hf))

/-! ### The registers of a page (spec 20 R414, R415) -/

theorem blockRegs_blk (b : Block) : ∀ d ∈ blockRegs b, d.blk = some b := by
  cases b <;> decide

theorem blockRegs_apart (b : Block) : ∀ d ∈ blockRegs b, FldsApart d.flds := by
  cases b <;> decide

theorem hdrRegs_blk : ∀ d ∈ hdrRegs, d.blk = none := by decide

/-- A register that names its block lies beyond the header on a page of that block, and is one of the block's. -/
theorem regAt_block {addr : Nat} {g : Page} {d : RegDef} {b : Block} (h : regAt addr = some (g, d)) (hb : d.blk = some b)
    (hwin : b ≠ .win) : g.blk = b ∧ d ∈ blockRegs b ∧ 0x100 ≤ addr % 0x1000 := by
  unfold regAt at h
  split at h
  next => cases h
  next g' _ =>
    dsimp only at h
    split at h
    next =>
      obtain ⟨d', hfind, hd⟩ := Option.map_eq_some_iff.1 h
      obtain ⟨rfl, rfl⟩ := Prod.mk.inj hd
      have hmem := List.mem_of_find?_eq_some hfind
      split at hmem
      next => rw [hdrRegs_blk d' hmem] at hb; cases hb
      next hoff =>
        obtain rfl : g'.blk = b := Option.some.inj ((blockRegs_blk _ d' hmem).symm.trans hb)
        simp only [Bool.and_eq_true, decide_eq_true_eq, bne_iff_ne, ne_eq, hwin, not_false_eq_true, and_true] at hoff
        exact ⟨rfl, hmem, by omega⟩
    next => cases h

theorem pageBase_mod (b : Block) (i : Nat) : pageBase b i % 0x1000 = 0 := by
  cases b <;> simp only [pageBase] <;> omega

theorem FieldRef.at_page (f : FieldRef) (g : Page) : f.at g = pageBase g.blk g.inst + f.off := by
  simp only [FieldRef.at, Nat.zero_mul, Nat.add_zero]

/-- A field of a page's first copy keeps its offset within the page. -/
theorem FieldRef.at_mod (f : FieldRef) (g : Page) (h : f.off < 0x1000) : f.at g % 0x1000 = f.off := by
  have := pageBase_mod g.blk g.inst
  rw [f.at_page]
  omega

theorem errPage_of_ne_win (g : Page) (h : g.blk ≠ .win) : errPage g = g := if_neg h

/-! ### States that differ in registers and the management state alone -/

/-- What t changes of s lies in the registers and the management state. -/
def State.OnlyRegsMgmt (s t : State) : Prop := ∃ r m, t = { s with regs := r, mgmt := m }

theorem State.OnlyRegsMgmt.eq {s t : State} (h : s.OnlyRegsMgmt t) : t = { s with regs := t.regs, mgmt := t.mgmt } := by
  obtain ⟨r, m, rfl⟩ := h; rfl

theorem State.OnlyRegsMgmt.pending {s t : State} (h : s.OnlyRegsMgmt t) : t.pending = s.pending := by
  obtain ⟨r, m, rfl⟩ := h; rfl

theorem State.OnlyRegsMgmt.refl (s : State) : s.OnlyRegsMgmt s := ⟨s.regs, s.mgmt, rfl⟩

theorem State.OnlyRegsMgmt.trans {s t u : State} (h : s.OnlyRegsMgmt t) (k : t.OnlyRegsMgmt u) : s.OnlyRegsMgmt u := by
  obtain ⟨r, m, rfl⟩ := h
  obtain ⟨r', m', rfl⟩ := k
  exact ⟨r', m', rfl⟩

theorem State.OnlyRegsMgmt.setReg {s t : State} (h : s.OnlyRegsMgmt t) (a v : Nat) : s.OnlyRegsMgmt (t.setReg a v) :=
  h.trans ⟨_, t.mgmt, rfl⟩

/-! ### PG_ERR (spec 20 R424) -/

/-- Everything State.err can do: nothing where the bit is set, else the bit is set and an event may be recorded. -/
theorem State.err_cases (s : State) (g : Page) (b : Nat) :
    (bit (s.pgErr g) b = true ∧ s.err g b = s) ∨
      ∃ m, s.err g b = { s.setReg (PG_ERR_ERR.at g) (s.pgErr g ||| 2 ^ b) with mgmt := m } := by
  unfold State.err
  dsimp only
  split
  next h => exact .inl ⟨h, rfl⟩
  next =>
    refine .inr ?_
    split
    · exact ⟨_, rfl⟩
    · exact ⟨s.mgmt, rfl⟩

theorem State.OnlyRegsMgmt.err {s t : State} (h : s.OnlyRegsMgmt t) (g : Page) (b : Nat) : s.OnlyRegsMgmt (t.err g b) := by
  refine h.trans ?_
  obtain ⟨-, e⟩ | ⟨m, e⟩ := t.err_cases g b <;> rw [e]
  · exact .refl t
  · exact ⟨_, m, rfl⟩

/-- PG_ERR aside, an error changes no register. -/
theorem State.reg_err_ne (s : State) (g : Page) (b : Nat) {a : Nat} (h : a ≠ PG_ERR_ERR.at g) :
    (s.err g b).reg a = s.reg a := by
  obtain ⟨-, e⟩ | ⟨m, e⟩ := s.err_cases g b <;> rw [e]
  exact State.reg_setReg_ne s _ _ _ h.symm

/-- An error sets its bit of PG_ERR and no other. -/
theorem State.bit_pgErr_err (s : State) (g : Page) (b k : Nat) (hk : k < 32) :
    bit ((s.err g b).pgErr g) k = (bit (s.pgErr g) k || decide (b = k)) := by
  obtain ⟨hset, e⟩ | ⟨m, e⟩ := s.err_cases g b <;> rw [e]
  · by_cases hbk : b = k
    · subst hbk; rw [hset, Bool.true_or]
    · rw [decide_eq_false hbk, Bool.or_false]
  · have hreg : State.pgErr { s.setReg (PG_ERR_ERR.at g) (s.pgErr g ||| 2 ^ b) with mgmt := m } g =
        (s.pgErr g ||| 2 ^ b) % 2 ^ 32 := State.reg_setReg s _ _
    simp only [hreg, bit, Nat.testBit_mod_two_pow, hk, decide_true, Bool.true_and, Nat.testBit_or, Nat.testBit_two_pow]

/-- An address at another offset than PG_ERR's is no page's PG_ERR. -/
theorem ne_pgErr_of_mod {a : Nat} (g : Page) (h : a % 0x1000 ≠ 0x14) : a ≠ PG_ERR_ERR.at g := by
  rintro rfl
  exact h (PG_ERR_ERR.at_mod g (by decide))

theorem State.hrd_err (s : State) (g : Page) (b : Nat) (w : Page) (f : FieldRef) (h : f.off < 0x1000) (hne : f.off ≠ 0x14) :
    (s.err g b).hrd w f = s.hrd w f := by
  unfold State.hrd
  rw [s.reg_err_ne g b (ne_pgErr_of_mod g (by rwa [f.at_mod w h]))]

theorem State.flag_err (s : State) (g : Page) (b : Nat) (f : BlockField) (i : Nat) (h : f.ref.off < 0x1000)
    (hne : f.ref.off ≠ 0x14) : (s.err g b).flag f i = s.flag f i := by
  unfold State.flag State.rd
  rw [s.reg_err_ne g b (ne_pgErr_of_mod g (by rwa [f.ref.at_mod ⟨f.blk, i⟩ h]))]

theorem State.commanding_err (s : State) (g : Page) (b : Nat) (w : Page) : (s.err g b).commanding w = s.commanding w := by
  unfold State.commanding
  split
  case h_6 => rfl
  all_goals exact s.flag_err g b _ 0 (by decide) (by decide)

/-- Whether a page's RWL fields are locked does not depend on errors. -/
theorem State.rwlLocked_err (s : State) (g : Page) (b : Nat) (w : Page) : (s.err g b).rwlLocked w = s.rwlLocked w := by
  unfold State.rwlLocked State.enabled State.pageBusy
  rw [s.commanding_err g b w, s.hrd_err g b _ PG_STAT_ENABLED (by decide) (by decide),
    s.hrd_err g b _ PG_STAT_BUSY (by decide) (by decide)]

/-! ### Writes on an operator's path -/

/-- An operator's write outside the table windows is a write to a page. -/
theorem State.mgmtWrite_operator (s : State) {path : Path} (h : ∀ p, path ≠ .tenant p) {addr : Nat} (hw : winAt addr = none)
    (v : Nat) : s.mgmtWrite { path := path } addr v = s.pageWrite { path := path } addr v := by
  unfold State.mgmtWrite
  rw [hw]
  cases path with
  | tenant p => exact absurd rfl (h p)
  | bar0 | eth | i3c => rfl

/-- A write that its page takes and does not hold is judged and takes effect. -/
theorem State.pageWrite_takes (s : State) {path : Path} {g : Page} {d : RegDef} {addr : Nat} (h : s.Takes path g)
    (hd : regAt addr = some (g, d)) (hw : s.writeWaits g d = false) (v : Nat) :
    s.pageWrite { path := path } addr v = s.doWrite { path := path } g d addr v := by
  obtain ⟨-, -, hprof, hlock, -⟩ := h
  simp only [State.pageWrite, hd, hprof, decide_false, Bool.false_and, Bool.false_eq_true, if_false,
    beq_eq_false_iff_ne.2 hlock, hw]

/-- How to show that a register write with all byte enables ends with an effect. -/
theorem Ends.registerWrite {s t : State} {path : Path} {addr : BitVec 26} {v : Word} (hm : s.mgmtUp = true)
    (e : (s.mgmtWrite { path := path } addr.toNat v.toNat).1 = t) (hp : t.pending = s.pending) :
    Ends (.registerWrite path addr v 15) s t := by
  refine Ends.of_eq ?_ hp
  change fin s (if s.mgmtUp then (s.writeBe { path := path } addr.toNat v.toNat 15).1 else s) = _
  rw [if_pos hm, ← e]
  rfl

/-- How to show that an operator's write to a register page ends with an effect. -/
theorem Ends.pageWrite {s t : State} {path : Path} {addr : BitVec 26} {v : Word} (hm : s.mgmtUp = true)
    (hn : ∀ p, path ≠ .tenant p) (hw : winAt addr.toNat = none)
    (e : (s.pageWrite { path := path } addr.toNat v.toNat).1 = t) (hp : t.pending = s.pending) :
    Ends (.registerWrite path addr v 15) s t :=
  .registerWrite hm (by rw [s.mgmtWrite_operator hn hw, e]) hp

/-! ### Refused writes (spec 00 R7; 14 R330; 20 R415, R416) -/

/-- R7: a value out of range sets RANGE of its page. -/
theorem ends_outOfRange {s : State} {path : Path} {addr : BitVec 26} {v : Word} {g : Page} {d : RegDef} (h : s.Takes path g)
    (hwin : winAt addr.toNat = none) (hd : regAt addr.toNat = some (g, d)) (hw : s.writeWaits g d = false)
    (hr : outOfRange d v.toNat = true) : Ends (.registerWrite path addr v 15) s (s.err (errPage g) 1) := by
  obtain ⟨hm, hn, -⟩ := id h
  have hrange : s.rangeRefused d v.toNat = true := by unfold State.rangeRefused; rw [hr, Bool.true_or]
  refine .pageWrite hm hn hwin ?_ ((State.OnlyRegsMgmt.refl s).err _ _).pending
  rw [s.pageWrite_takes h hd hw, State.doWrite, if_pos hrange]

/-- R416: a write without all byte enables sets its bit of DEV's PG_ERR. -/
theorem ends_partialWrite {s : State} {path : Path} {addr : BitVec 26} {v : Word} {be : BitVec 4} (hm : s.mgmtUp = true)
    (hbe : be ≠ 15) : Ends (.registerWrite path addr v be) s (s.err ⟨.dev, 0⟩ 17) := by
  refine Ends.of_eq ?_ ((State.OnlyRegsMgmt.refl s).err _ _).pending
  change fin s (if s.mgmtUp then (s.writeBe { path := path } addr.toNat v.toNat be).1 else s) = _
  rw [if_pos hm, State.writeBe, if_neg hbe]
  rfl

/-- R415: a write to an address without a register sets its bit of DEV's PG_ERR. -/
theorem ends_unmappedWrite {s : State} {path : Path} {addr : BitVec 26} {v : Word} (hm : s.mgmtUp = true)
    (hn : ∀ p, path ≠ .tenant p) (hwin : winAt addr.toNat = none) (hd : regAt addr.toNat = none) :
    Ends (.registerWrite path addr v 15) s (s.err ⟨.dev, 0⟩ 16) := by
  refine .pageWrite hm hn hwin ?_ ((State.OnlyRegsMgmt.refl s).err _ _).pending
  simp only [State.pageWrite, hd, State.unmapped]

theorem State.count_pending (s : State) (o : Occ) : (s.count o).pending = s.pending := by
  obtain ⟨_, _, _, _, e⟩ := s.count_eq o
  rw [e]

theorem State.countDenied_pending (s : State) (p : Nat) (addr : Option Nat) : (s.countDenied p addr).pending = s.pending := by
  unfold State.countDenied
  exact s.count_pending _

/-- R330: a tenant's write outside its pages is counted. -/
theorem ends_tenantOutside {s : State} {p : PortId} {addr : BitVec 26} {v : Word} (hm : s.mgmtUp = true)
    (h : s.tenantReaches p.val addr.toNat = false) :
    Ends (.registerWrite (.tenant p) addr v 15) s (s.countDenied p.val (some addr.toNat)) := by
  refine .registerWrite hm ?_ (s.countDenied_pending _ _)
  simp only [State.mgmtWrite, h, Bool.false_eq_true, if_false, State.tenantDenied]

/-! ### Registers that only hold settings (spec 00, Typography; 20 R422) -/

/-- The blocks whose registers only hold settings. -/
abbrev HoldsSettings (b : Block) : Prop := b = .home ∨ b = .cmpr ∨ b = .keys ∨ b = .qos ∨ b = .atom ∨ b = .repl

theorem HoldsSettings.ne_win {b : Block} (h : HoldsSettings b) : b ≠ .win := by
  rcases h with rfl | rfl | rfl | rfl | rfl | rfl <;> decide

/-- The state after a write of a register that only holds settings: its fields are stored, LOCKED_WRITE set where a locked field
would change. -/
def State.settingsWritten (s : State) (g : Page) (d : RegDef) (addr v : Nat) : State :=
  (if s.locksOut g d addr v then s.err g 0 else s).setReg addr (storeFields d (s.rwlLocked g) (s.reg addr) v)

/-- Setting LOCKED_WRITE under a condition, as a write does before it stores its fields, leaves all but PG_ERR and the events. -/
theorem State.onlyRegsMgmt_lockOut (s : State) (g : Page) (c : Bool) : s.OnlyRegsMgmt (if c then s.err g 0 else s) := by
  cases c
  · exact .refl s
  · exact (State.OnlyRegsMgmt.refl s).err g 0

theorem State.reg_lockOut_ne (s : State) (g : Page) (c : Bool) {a : Nat} (h : a ≠ PG_ERR_ERR.at g) :
    (if c then s.err g 0 else s).reg a = s.reg a := by
  cases c
  · rfl
  · exact s.reg_err_ne g 0 h

theorem State.rwlLocked_lockOut (s : State) (g : Page) (c : Bool) :
    (if c then s.err g 0 else s).rwlLocked g = s.rwlLocked g := by
  cases c
  · rfl
  · exact s.rwlLocked_err g 0 g

/-- A write that its page takes, of a register that only holds settings, has no effect beside its fields. -/
theorem State.doWrite_settings (s : State) (who : Who) {g : Page} {d : RegDef} {b : Block} {addr : Nat} (v : Nat)
    (hd : regAt addr = some (g, d)) (hb : d.blk = some b) (hset : HoldsSettings b) (hr : outOfRange d v = false) :
    (s.doWrite who g d addr v).1 = s.settingsWritten g d addr v := by
  obtain ⟨hg, -, hoff⟩ := regAt_block hd hb hset.ne_win
  have hrange : s.rangeRefused d v = false := by
    unfold State.rangeRefused
    rw [hr, hb]
    rcases hset with rfl | rfl | rfl | rfl | rfl | rfl <;> rfl
  have hign : s.writeIgnored g d addr v = false := by
    unfold State.writeIgnored
    rw [hb]
    rcases hset with rfl | rfl | rfl | rfl | rfl | rfl <;> rfl
  have hstore (u : State) : u.storeReg g d addr v = u.setReg addr (storeFields d (u.rwlLocked g) (u.reg addr) v) := by
    unfold State.storeReg
    rw [hb]
    rcases hset with rfl | rfl | rfl | rfl | rfl | rfl <;> rfl
  have heff (u : State) : State.writeEffect s u who g d addr v = u := by
    unfold State.writeEffect
    rw [hb]
    rcases hset with rfl | rfl | rfl | rfl | rfl | rfl <;> rfl
  simp only [State.doWrite, hrange, hign, Bool.false_eq_true, if_false, heff, hstore, errPage_of_ne_win g (hg ▸ hset.ne_win),
    s.rwlLocked_lockOut, s.reg_lockOut_ne g _ (ne_pgErr_of_mod g (by omega : addr % 0x1000 ≠ 0x14)), State.settingsWritten]

theorem State.onlyRegsMgmt_settingsWritten (s : State) (g : Page) (d : RegDef) (addr v : Nat) :
    s.OnlyRegsMgmt (s.settingsWritten g d addr v) :=
  (s.onlyRegsMgmt_lockOut g _).setReg _ _

theorem State.reg_settingsWritten_ne (s : State) (g : Page) (d : RegDef) (addr v : Nat) {a : Nat} (h : a ≠ addr)
    (he : a ≠ PG_ERR_ERR.at g) : (s.settingsWritten g d addr v).reg a = s.reg a := by
  rw [State.settingsWritten, State.reg_setReg_ne _ _ _ _ h.symm, s.reg_lockOut_ne g _ he]

/-- What each field holds afterwards. -/
theorem State.bits_settingsWritten (s : State) (g : Page) (d : RegDef) (addr v : Nat) (h : FldsApart d.flds) {f : Fld}
    (hf : f ∈ d.flds) : bits ((s.settingsWritten g d addr v).reg addr) f.hi f.lo =
      fldAfter (s.rwlLocked g) f.ty (bits (s.reg addr) f.hi f.lo) (bits v f.hi f.lo) := by
  rw [State.settingsWritten, State.reg_setReg, bits_mod _ _ _ _ (h.1 f hf).2, bits_storeFields d _ _ _ h f hf]

/-- A write that would change a locked field sets LOCKED_WRITE. -/
theorem State.lockedWrite_settingsWritten (s : State) (g : Page) (d : RegDef) (addr v : Nat) (ha : addr ≠ PG_ERR_ERR.at g)
    {f : Fld} (hf : f ∈ d.flds) (hty : f.ty = .rwl) (hl : s.rwlLocked g = true)
    (hne : bits v f.hi f.lo ≠ bits (s.reg addr) f.hi f.lo) : bit ((s.settingsWritten g d addr v).pgErr g) 0 = true := by
  have hout : s.locksOut g d addr v = true := by
    unfold State.locksOut
    rw [hl, Bool.true_and, List.any_eq_true]
    exact ⟨f, hf, by rw [hty, bne_iff_ne.2 hne]; rfl⟩
  rw [State.settingsWritten, if_pos hout, State.pgErr, State.reg_setReg_ne _ _ _ _ ha]
  exact (s.bit_pgErr_err g 0 0 (by decide)).trans (Bool.or_true _)

/-- A register write that a page takes ends with the settings written. -/
theorem ends_settingsWrite {s : State} {path : Path} {addr : BitVec 26} {v : Word} {g : Page} {d : RegDef} {b : Block}
    (h : s.Takes path g) (hwin : winAt addr.toNat = none) (hd : regAt addr.toNat = some (g, d)) (hb : d.blk = some b)
    (hset : HoldsSettings b) (hr : outOfRange d v.toNat = false) :
    Ends (.registerWrite path addr v 15) s (s.settingsWritten g d addr.toNat v.toNat) := by
  obtain ⟨hm, hn, -, -, hholds⟩ := id h
  have hwaits : s.writeWaits g d = false := by
    unfold State.writeWaits
    rw [hholds, hb]
    rcases hset with rfl | rfl | rfl | rfl | rfl | rfl <;> rfl
  refine .pageWrite hm hn hwin ?_ (s.onlyRegsMgmt_settingsWritten g d _ _).pending
  rw [s.pageWrite_takes h hd hwaits, s.doWrite_settings _ _ hd hb hset hr]

/-! ### Writes to a locked page (spec 20 R423) -/

/-- The state after a write to a locked page whose register has no W1C field. -/
def State.lockRefused (s : State) (e : Page) (addr : Nat) : State := (s.err e 0).setReg addr ((s.err e 0).reg addr)

theorem State.lockedWrite_eq_lockRefused (s : State) (g : Page) (d : RegDef) (addr v : Nat)
    (hw1c : d.flds.any (fun f => f.ty == .w1c) = false) (hctl : d.blk.isNone = true → d.off ≠ 0x008) :
    (s.lockedWrite g d addr v).1 = s.lockRefused (errPage g) addr := by
  have hfree : lockFree d = 0 := by
    unfold lockFree
    split
    next hc =>
      obtain ⟨hnone, hoff⟩ := Bool.and_eq_true_iff.1 hc
      exact absurd (of_decide_eq_true hoff) (hctl hnone)
    next => rfl
  have hbad : offends d 0 (s.reg addr) v = true := by
    unfold offends
    simp only [Nat.and_zero, bne_self_eq_false, Bool.or_false, hw1c, Bool.not_false, Bool.true_or]
  have hmask : maskOf d.flds (fun t => t == .w1c) = 0 := maskOf_eq_zero _ _ hw1c
  have hquiesce : ¬(0 : Nat) = 2 := by decide
  simp only [State.lockedWrite, hfree, hbad, if_true, if_neg hquiesce, State.writeW1c, hmask, Nat.and_zero, Nat.sub_zero,
    State.lockRefused]

theorem State.onlyRegsMgmt_lockRefused (s : State) (e : Page) (addr : Nat) : s.OnlyRegsMgmt (s.lockRefused e addr) :=
  ((State.OnlyRegsMgmt.refl s).err e 0).setReg _ _

theorem State.reg_lockRefused (s : State) (e : Page) (addr a : Nat) : (s.lockRefused e addr).reg a = (s.err e 0).reg a :=
  State.reg_setReg_self _ _ _

theorem State.pgErr_lockRefused (s : State) (e : Page) (addr : Nat) : bit ((s.lockRefused e addr).pgErr e) 0 = true := by
  rw [State.pgErr, s.reg_lockRefused]
  exact (s.bit_pgErr_err e 0 0 (by decide)).trans (Bool.or_true _)

/-- R423: an operator's write to a locked page is refused. -/
theorem ends_lockedWrite {s : State} {path : Path} {addr : BitVec 26} {v : Word} {g : Page} {d : RegDef} (hm : s.mgmtUp = true)
    (hn : ∀ p, path ≠ .tenant p) (hprof : s.profile ≠ profileF) (hwin : winAt addr.toNat = none)
    (hd : regAt addr.toNat = some (g, d)) (hlock : s.hrd (errPage g) PG_CTL_LOCK = 1)
    (hw1c : d.flds.any (fun f => f.ty == .w1c) = false) (hctl : d.blk.isNone = true → d.off ≠ 0x008) :
    Ends (.registerWrite path addr v 15) s (s.lockRefused (errPage g) addr.toNat) := by
  refine .pageWrite hm hn hwin ?_ (s.onlyRegsMgmt_lockRefused _ _).pending
  simp only [State.pageWrite, hd, hprof, decide_false, Bool.false_and, Bool.false_eq_true, if_false, hlock, beq_self_eq_true,
    if_true, s.lockedWrite_eq_lockRefused g d _ _ hw1c hctl]

/-! ### Header registers (spec 20 R418) -/

/-- PG_CTL's definition. -/
def pgCtlDef : RegDef :=
  { blk := none, off := 0x008, n := 1, stride := 4, pair := 0, flds := [rw 0 0 0, rw 1 1 0, w1s 2 2 0, w1s 31 31 0] }

/-- PG_ERR_INJ's definition. -/
def pgErrInjDef : RegDef := { blk := none, off := 0x01C, n := 1, stride := 4, pair := 0, flds := [wo 31 0 0] }

/-- Below the block's own registers every page has the common header. -/
theorem regDefAt_header (g : Page) (off : Nat) (hg : g.blk ≠ .win) (ho : off < 0x100) :
    regDefAt g off = hdrRegs.find? (fun d => d.covers off) := by
  have h180 : ¬0x180 ≤ off := by omega
  simp only [regDefAt, h180, decide_false, Bool.and_false, Bool.false_eq_true, if_false, ho, decide_true, Bool.true_and,
    bne_iff_ne.2 hg, if_true]

theorem regDefAt_pgCtl (g : Page) (hg : g.blk ≠ .win) : regDefAt g 0x008 = some pgCtlDef :=
  regDefAt_header g 0x008 hg (by decide)

theorem regDefAt_pgErrInj (g : Page) (hg : g.blk ≠ .win) : regDefAt g 0x01C = some pgErrInjDef :=
  regDefAt_header g 0x01C hg (by decide)

theorem State.locksOut_noRwl (s : State) (g : Page) (d : RegDef) (addr v : Nat)
    (h : d.flds.any (fun f => f.ty == .rwl) = false) : s.locksOut g d addr v = false := by
  rw [List.any_eq_false] at h
  unfold State.locksOut
  rw [Bool.and_eq_false_iff, List.any_eq_false]
  refine .inr fun f hf => ?_
  rw [Bool.not_eq_true, Bool.eq_false_iff.2 (h f hf), Bool.false_and]

/-! ### PAGE_LOCK (spec 20 R423) -/

theorem State.hrd_lt_two (s : State) (g : Page) (f : FieldRef) (h : f.hi = f.lo) : s.hrd g f < 2 := by
  have := bits_lt (s.reg (f.at g)) f.hi f.lo
  rwa [show f.hi + 1 - f.lo = 1 by omega] at this

/-- The bits of the value PAGE_LOCK writes: ENABLE and QUIESCE as they are, LOCK set. -/
theorem State.lockValue_bits (s : State) (g : Page) (v : Nat) (hv : v = insBits (s.ctlNow g) 31 31 1) :
    bit v 0 = (s.hrd g PG_CTL_ENABLE == 1) ∧ bit v 1 = (s.hrd g PG_CTL_QUIESCE == 1) ∧ bit v 2 = false ∧ bit v 31 = true := by
  have he := s.hrd_lt_two g PG_CTL_ENABLE rfl
  have hq := s.hrd_lt_two g PG_CTL_QUIESCE rfl
  subst hv
  unfold State.ctlNow
  generalize s.hrd g PG_CTL_ENABLE = e at he ⊢
  generalize s.hrd g PG_CTL_QUIESCE = q at hq ⊢
  obtain rfl | rfl : e = 0 ∨ e = 1 := by omega
  all_goals
    obtain rfl | rfl : q = 0 ∨ q = 1 := by omega
    all_goals decide

/-- Writing QUIESCE what it holds stores it and does nothing else. -/
theorem State.setQuiesce_same (s : State) (g : Page) (on : Bool) (h : on = (s.hrd g PG_CTL_QUIESCE == 1)) :
    s.setQuiesce g on = s.hset g PG_CTL_QUIESCE (b2n on) := by
  unfold State.setQuiesce
  rw [← h]
  cases on <;> simp

theorem State.enabled_hset_pgCtl (s : State) (g : Page) (f : FieldRef) (v : Nat) (hf : f.off = 0x008) :
    (s.hset g f v).enabled g.blk g.inst = s.enabled g.blk g.inst := by
  have hne : f.at g ≠ PG_STAT_ENABLED.at g := by rw [f.at_page, FieldRef.at_page, hf]; simp
  unfold State.enabled State.hrd State.hset
  rw [State.reg_setReg_ne _ _ _ _ hne]

/-- The state after PAGE_LOCK. -/
def State.pageLocked (s : State) (g : Page) : State :=
  (s.hset g PG_CTL_QUIESCE (b2n (s.hrd g PG_CTL_QUIESCE == 1))).hset g PG_CTL_LOCK 1

/-- A write of PG_CTL that leaves ENABLE and QUIESCE and sets LOCK locks the page. -/
theorem State.writeCtl_lock (s : State) (g : Page) (v : Nat) (h0 : bit v 0 = s.enabled g.blk g.inst)
    (h1 : bit v 1 = (s.hrd g PG_CTL_QUIESCE == 1)) (h31 : bit v 31 = true) : s.writeCtl g v = s.pageLocked g := by
  have hdis : (if bit v 0 then s else s.disable g) = s := by
    cases he : s.enabled g.blk g.inst
    · simp [State.disable, he]
    · rw [h0, he, if_pos rfl]
  have hen (q : Nat) : (if bit v 0 then (s.hset g PG_CTL_QUIESCE q).startEnable g else s.hset g PG_CTL_QUIESCE q) =
      s.hset g PG_CTL_QUIESCE q := by
    split
    next hb => rw [State.startEnable, s.enabled_hset_pgCtl g PG_CTL_QUIESCE q rfl, ← h0, hb, Bool.true_or, if_pos rfl]
    next => rfl
  unfold State.writeCtl
  simp only [hdis, s.setQuiesce_same g _ h1, hen, h31, if_true]
  rw [h1, State.pageLocked]

/-- What an operator's write of PG_CTL without SOFT_RESET does. -/
theorem State.command_pgCtl (s : State) {path : Path} {g : Page} (v : Nat) (h : s.Takes path g) (hwin : g.blk ≠ .win)
    (hg : g.inst < pageCount g.blk) (h2 : bit v 2 = false) :
    s.command path (pageBase g.blk g.inst + 0x008) v = s.writeCtl g v := by
  rw [s.command_takes path g pgCtlDef 0x008 v h hg (by decide) (regDefAt_pgCtl g hwin) rfl rfl rfl,
    s.locksOut_noRwl g pgCtlDef _ _ rfl, if_neg Bool.false_ne_true]
  change s.ctlWrite { path := path } g _ v = _
  rw [State.ctlWrite, h2, if_neg Bool.false_ne_true]

/-- R423: an operator's LOCK = 1 locks the page and leaves it otherwise as it was. -/
theorem ends_pageLock {s : State} {path : Path} {g : Page} (h : s.Takes path g) (hwin : g.blk ≠ .win)
    (hg : g.inst < pageCount g.blk) (he : s.enabled g.blk g.inst = (s.hrd g PG_CTL_ENABLE == 1)) :
    Ends (.pageLock path g) s (s.pageLocked g) := by
  have hexec : exec (.pageLock path g) s =
      .next (s.finish (s.command path (PG_CTL_ENABLE.at g) (insBits (s.ctlNow g) 31 31 1))) := rfl
  obtain ⟨h0, h1, h2, h31⟩ := s.lockValue_bits g _ rfl
  refine Ends.of_eq ?_ (by rw [State.pageLocked, State.hset_pending, State.hset_pending])
  rw [hexec, FieldRef.at_page, s.command_pgCtl _ h hwin hg h2, s.writeCtl_lock g _ (h0.trans he.symm) h1 h31]

theorem State.reg_pageLocked_ne (s : State) (g : Page) {a : Nat} (h : a ≠ PG_CTL_LOCK.at g) :
    (s.pageLocked g).reg a = s.reg a := by
  have h' : a ≠ PG_CTL_QUIESCE.at g := h
  rw [State.pageLocked, State.reg_hset _ _ _ _ _ (by decide) (by decide), if_neg h,
    State.reg_hset _ _ _ _ _ (by decide) (by decide), if_neg h']

theorem State.hrd_pageLocked (s : State) (g : Page) : (s.pageLocked g).hrd g PG_CTL_LOCK = 1 := by
  rw [State.pageLocked, State.hrd, State.reg_hset _ _ _ _ _ (by decide) (by decide), if_pos rfl, bits_insBits _ _ _ _ (by decide)]
  rfl

/-! ### PG_ERR_INJ (spec 20 R424) -/

/-- The state after each error of a list that a value names. -/
def State.errEach (s : State) (g : Page) (v : Nat) (l : List Nat) : State :=
  l.foldl (fun s b => if bit v b then s.err g b else s) s

theorem State.errEach_cons (s : State) (g : Page) (v b : Nat) (l : List Nat) :
    s.errEach g v (b :: l) = (if bit v b then s.err g b else s).errEach g v l := rfl

theorem State.OnlyRegsMgmt.errEach {s t : State} (h : s.OnlyRegsMgmt t) (g : Page) (v : Nat) (l : List Nat) :
    s.OnlyRegsMgmt (t.errEach g v l) := by
  induction l generalizing t with
  | nil => exact h
  | cons b l ih =>
    rw [State.errEach_cons]
    split
    · exact ih (h.err g b)
    · exact ih h

theorem State.reg_errEach_ne (s : State) (g : Page) (v : Nat) (l : List Nat) {a : Nat} (h : a ≠ PG_ERR_ERR.at g) :
    (s.errEach g v l).reg a = s.reg a := by
  induction l generalizing s with
  | nil => rfl
  | cons b l ih =>
    rw [State.errEach_cons, ih]
    split
    · exact s.reg_err_ne g b h
    · rfl

/-- PG_ERR gains the bits that both the list and the value name. -/
theorem State.bit_pgErr_errEach (s : State) (g : Page) (v : Nat) (l : List Nat) (k : Nat) (hk : k < 32) :
    bit ((s.errEach g v l).pgErr g) k = (bit (s.pgErr g) k || (l.contains k && bit v k)) := by
  induction l generalizing s with
  | nil => exact (Bool.or_false _).symm
  | cons b l ih =>
    rw [State.errEach_cons, ih, List.contains_cons]
    by_cases hbk : b = k
    · subst hbk
      cases hv : bit v b
      · simp
      · simp [s.bit_pgErr_err g b b hk]
    · rw [beq_false_of_ne (Ne.symm hbk), Bool.false_or]
      split
      · rw [s.bit_pgErr_err g b k hk, decide_eq_false hbk, Bool.or_false]
      · rfl

/-- The state after a write of PG_ERR_INJ. -/
def State.errsInjected (s : State) (g : Page) (v : Nat) : State :=
  (s.setReg (PG_ERR_INJ_INJ.at g) (s.reg (PG_ERR_INJ_INJ.at g))).errEach g v (errBits g.blk g.inst)

/-- R424: an operator's write of PG_ERR_INJ sets the bits of PG_ERR the page has. -/
theorem ends_pgErrInj {s : State} {path : Path} {g : Page} {v : Word} (h : s.Takes path g) (hwin : g.blk ≠ .win)
    (hg : g.inst < pageCount g.blk) : Ends (.pgErrInj path g v) s (s.errsInjected g v.toNat) := by
  have hexec : exec (.pgErrInj path g v) s = .next (s.finish (s.command path (PG_ERR_INJ_INJ.at g) v.toNat)) := rfl
  refine Ends.of_eq ?_ (((State.OnlyRegsMgmt.refl s).setReg _ _).errEach g _ _).pending
  rw [hexec, State.errsInjected, FieldRef.at_page,
    s.command_takes path g pgErrInjDef 0x01C _ h hg (by decide) (regDefAt_pgErrInj g hwin) rfl rfl rfl,
    s.locksOut_noRwl g pgErrInjDef _ _ rfl, if_neg Bool.false_ne_true]
  rfl

/-- Settles O11. Each clause names the state its write ends in, and the lemmas about that state say what it holds and what it leaves.
That a value's range is judged before the lock of its field, and that any write of such a register to a locked page sets LOCKED_WRITE,
are the model's choices (assumption log 154 and 46). -/
theorem registersFollowTheirTypes : Obligations.RegistersFollowTheirTypes := by
  unfold Obligations.RegistersFollowTheirTypes
  intro s path addr v
  refine ⟨?settings, fun g d => ends_outOfRange, fun be => ends_partialWrite, ends_unmappedWrite, fun p => ends_tenantOutside,
    ?lock, ?locked, ?inject⟩
  case settings =>
    intro g d b h hwin hd hb hset hr
    obtain ⟨-, hmem, hoff⟩ := regAt_block hd hb (HoldsSettings.ne_win hset)
    have ha : addr.toNat ≠ PG_ERR_ERR.at g := ne_pgErr_of_mod g (by omega)
    exact ⟨_, ends_settingsWrite h hwin hd hb hset hr, (s.onlyRegsMgmt_settingsWritten g d _ _).eq,
      fun a hne he => s.reg_settingsWritten_ne g d _ _ hne he,
      fun f hf => s.bits_settingsWritten g d _ _ (blockRegs_apart b d hmem) hf,
      fun f hf hty hl hne => s.lockedWrite_settingsWritten g d _ _ ha hf hty hl hne⟩
  case lock =>
    intro g h hwin hg he
    exact ⟨_, ends_pageLock h hwin hg he, rfl, s.hrd_pageLocked g, fun a hne => s.reg_pageLocked_ne g hne⟩
  case locked =>
    intro g d hm hn hprof hwin hd hlock hw1c hctl
    exact ⟨_, ends_lockedWrite hm hn hprof hwin hd hlock hw1c hctl, (s.onlyRegsMgmt_lockRefused _ _).eq, s.pgErr_lockRefused _ _,
      fun a hne => (s.reg_lockRefused _ _ a).trans (s.reg_err_ne _ 0 hne)⟩
  case inject =>
    intro g h hwin hg
    refine ⟨_, ends_pgErrInj h hwin hg, (((State.OnlyRegsMgmt.refl s).setReg _ _).errEach g _ _).eq, fun k hk => ?_, fun a hne => ?_⟩
    · rw [State.errsInjected, State.bit_pgErr_errEach _ _ _ _ k hk, State.pgErr, State.reg_setReg_self]
      rfl
    · rw [State.errsInjected, State.reg_errEach_ne _ _ _ _ hne, State.reg_setReg_self]

end Sys2Proof.Machine

namespace Sys2Proof.Machine

/-! ### Messages in a port's egress -/

@[simp] theorem State.port_modPort_same (s : State) (p : Nat) (f : PortSt → PortSt) : (s.modPort p f).port p = f (s.port p) :=
  Tbl.get_mod s.ports p {} f

theorem State.egress_sendQ (s : State) (p q : Nat) (m : Msg) :
    ((s.sendQ p q m).port p).egress = (s.port p).egress ++ [{ q := q, msg := m }] := by
  rw [State.sendQ, State.port_modPort_same]

theorem State.sends_sendW (s : State) (p tc : Nat) (tenant : Option Nat) (kind : Nat) (m : Msg) :
    s.Sends (s.sendW p tc tenant kind m) p m := by
  refine ⟨s.placeW p tc tenant kind m, ?_, ?_⟩
  · unfold State.placeW
    cases s.role p <;> rfl
  · rw [State.sendW, State.port_modPort_same]

theorem State.sendYdQ_port {s : State} {dst : Feid} {p : Nat} (h : s.portOfFeid dst = some p) (q : Nat) (m : Msg) :
    s.sendYdQ dst q m = s.sendQ p q m := by
  rw [State.sendYdQ, h]

theorem State.sendYd_port {s : State} {dst : Feid} {p : Nat} (h : s.portOfFeid dst = some p) (tc : BitVec 4) (kind : Nat)
    (tenant : Option Nat) (m : Msg) : s.sendYd dst tc kind tenant m = s.sendW p tc.toNat tenant kind m := by
  rw [State.sendYd, h]

/-! ### The only hand-over of a state (spec 03 R72) -/

section
variable {s : State} {x : Nat} {h : Handover} (hho : s.map.ho = [(x, h)])
include hho

theorem State.ho_only : s.ho x = some h := by
  rw [State.ho, hho]
  exact if_pos rfl

theorem State.setHo_only (h' : Handover) : (s.setHo x (some h')).map.ho = [(x, h')] := by
  change Tbl.put s.map.ho x h' = _
  rw [hho, Tbl.put, if_neg (Nat.lt_irrefl x), if_pos rfl]

theorem State.hoOf_only {xfer : BitVec 32} (hx : h.xfer = xfer) : s.hoOf xfer = some (x, h) := by
  rw [State.hoOf, hho]
  exact List.find?_cons_of_pos (by rw [hx, beq_self_eq_true])

end

/-- What a side sends and notes where a port leads to the other side. -/
theorem State.sendHo_port {s : State} {dst : Feid} {q : Nat} (hq : s.portOfFeid dst = some q) (x : Nat) (h : Handover)
    (kind : BitVec 8) (m : HandMsg) :
    s.sendHo x h kind dst m = (s.setHo x (some { h with last := some (kind, { m with src := dst }) })).sendQ q 1
      (.handoff kind dst { m with src := s.ownFeid, queued := BitVec.ofNat 32 h.queue.length }) :=
  State.sendYdQ_port (s := s.setHo x _) hq 1 _

theorem State.resendHo_port {s : State} {h : Handover} {k : BitVec 8} {m : HandMsg} {q : Nat} (hl : h.last = some (k, m))
    (hq : s.portOfFeid m.src = some q) : s.resendHo h = s.sendQ q 1
      (.handoff k m.src { m with src := s.ownFeid, queued := BitVec.ofNat 32 h.queue.length }) := by
  rw [State.resendHo, hl]
  exact State.sendYdQ_port hq 1 _

/-- The state in which the summary of an extent lies in HBM: a free value names its place, and the extent has left T1. -/
def State.summaryWritten (s : State) (x : Nat) : State :=
  { s.fresh.2 with tier := { s.tier with t1 := s.tier.t1.filter (fun p => p.1 / 2 ^ 14 != x) } }

theorem State.sendGive_port {s : State} {h : Handover} {q : Nat} (hq : s.portOfFeid h.feid = some q) (x : Nat) :
    s.sendGive x h = ((s.summaryWritten x).setHo x (some { h with
        summary := s.summaryOf x
        last := some (hoGive, { src := h.feid, xfer := h.xfer, sumAddr := BitVec.ofNat 64 s.fresh.1
                                sumLen := BitVec.ofNat 32 (16 * (s.summaryOf x).length) }) })).sendQ q 1
      (.handoff hoGive h.feid { src := s.ownFeid, xfer := h.xfer, sumAddr := BitVec.ofNat 64 s.fresh.1
                                sumLen := BitVec.ofNat 32 (16 * (s.summaryOf x).length)
                                queued := BitVec.ofNat 32 h.queue.length }) :=
  State.sendHo_port (s := s.summaryWritten x) hq x { h with summary := s.summaryOf x } hoGive _

/-! ### The timers of a hand-over (spec 03 R72 to R76) -/

theorem handOverTimers : HandOverTimers := by
  intro s x h hho
  have hx : s.ho x.toNat = some h := State.ho_only hho
  refine ⟨?give, ?notReady, ?stored, ?again, ?backToOwned, ?failed⟩
  case give =>
    intro q hst hlast hready hq
    have e : s.giveReady x.toNat = s.sendGive x.toNat h := by
      simp only [State.giveReady, hx, hst, hlast, hready, Option.isNone_none, beq_self_eq_true, Bool.and_self, if_true]
    rw [State.sendGive_port hq] at e
    exact ⟨_, _, _, Ends.of_eq (congrArg (fin s) e) rfl, State.setHo_only (s := s.summaryWritten x.toNat) hho _, hst, rfl, rfl, rfl,
      rfl, BitVec.toNat_ofNat _ _, rfl, rfl, State.egress_sendQ _ _ _ _⟩
  case notReady =>
    intro hst hready
    have e : s.giveReady x.toNat = s := by
      simp only [State.giveReady, hx, hready, Bool.and_false, Bool.false_eq_true, if_false]
    exact Ends.of_eq (congrArg (fin s) e) rfl
  case stored =>
    intro k m q hst hlast hlen hq
    have e : s.summaryEnd x.toNat = s.sendHo x.toNat { h with st := .taking } hoTake m.src { src := m.src, xfer := h.xfer } := by
      simp only [State.summaryEnd, hx, hlast, if_pos hlen, State.summaryStored, hst]
    rw [State.sendHo_port hq] at e
    exact ⟨_, _, Ends.of_eq (congrArg (fin s) e) rfl, State.setHo_only hho _, rfl, rfl, rfl, rfl, State.egress_sendQ _ _ _ _⟩
  case again =>
    intro k m q hst hlast hq
    have e : s.handAgain x.toNat = s.resendHo h := by
      simp only [State.handAgain, hx]
      rcases hst with hst | hst | hst <;> rw [hst] <;> rfl
    rw [State.resendHo_port hlast hq] at e
    exact ⟨_, Ends.of_eq (congrArg (fin s) e) rfl, rfl, State.egress_sendQ _ _ _ _⟩
  case backToOwned =>
    intro hst
    have e : s.hoLimit x.toNat = s.serveQueue x.toNat { h with gaveUp := true, last := none } .owned := by
      simp only [State.hoLimit, hx, hst]
    exact ⟨_, _, Ends.of_eq (congrArg (fin s) e) rfl, State.setHo_only hho _, rfl, rfl, rfl, rfl, rfl⟩
  case failed =>
    intro p hd e hst hlast hqueue
    have e : s.hoLimit x.toNat =
        (s.setHo x.toNat (some { h with st := .failed, queue := [], gaveUp := true })).rsp p.val hd stHandoffFailed := by
      simp only [State.hoLimit, hx, hst, hlast, Option.isNone_none, if_true, State.failQueue, hqueue]
      rfl
    exact ⟨_, _, Ends.of_eq (congrArg (fin s) e) rfl, State.setHo_only hho _, rfl, rfl, rfl, State.sends_sendW _ _ _ _ _ _⟩

/-! ### Messages that arrive (spec 02 R38; 15 R341, R346) -/

/-- A message that its link carries and whose sender is not fenced goes on. -/
theorem State.arrive_pass {s : State} {p : PortId} {c : Instr} (hp : ingressPort c = some p) (hg : s.gate p.val c = .pass)
    (hf : ∀ f, fenceSrc c = some f → s.feidFenced f = false) (run : State → Nat → State) : s.arrive c run = run s p.val := by
  have hfilter : (fenceSrc c).filter s.feidFenced = none :=
    Option.filter_eq_none_iff.2 fun f hc => by rw [hf f hc]; exact Bool.false_ne_true
  simp only [State.arrive, hp, hg, hfilter]

/-- A message that a port admits is served. -/
theorem State.deliver_admits {s : State} {p : PortId} {c : Instr} (h : s.Admits p c) (hsample : s.sampleRequest c = s)
    (hincarn : s.noteIncarn c = s) (hfence : ∀ q f, c ≠ .ydFence q f) : s.deliver c = s.letIn s.epoch c := by
  obtain ⟨hp, hg, hf, hq, hb, -, -⟩ := h
  have hfilter : (fenceSrc c).filter (s.fencing p.val) = none :=
    Option.filter_eq_none_iff.2 fun f hc => by rw [(hf f hc).2]; exact Bool.false_ne_true
  rw [State.deliver, State.arrive_pass hp hg (fun f hc => (hf f hc).1), State.receive, hsample, hincarn, State.enter]
  simp only [hfilter, hq, hb, Bool.and_false, Bool.or_false, Bool.false_eq_true, if_false]
  exact hfence

/-- Without sampling no request is a candidate. -/
theorem State.sampleItem_off {s : State} (h : s.flag PMON_SMP_CTL_EN = false) (c : Instr) (p opc cls a : Nat) :
    s.sampleItem c p opc cls a = none := by
  simp [State.sampleItem, State.candidate, State.sampling, h]

theorem State.sampleRequest_off {s : State} (h : s.flag PMON_SMP_CTL_EN = false) (c : Instr) : s.sampleRequest c = s := by
  unfold State.sampleRequest
  split
  next => rw [State.sampleItem_off h]; rfl
  next =>
    have : (samplePosted c).bind (fun q => s.sampleItem c q.1 0x60 q.2.1 q.2.2) = none := by
      simp only [State.sampleItem_off h, Option.bind_fun_none]
    rw [this]

section
variable {s : State} {p : PortId} {m : HandMsg} {c : Instr} (hp : ingressPort c = some p) (hsrc : fenceSrc c = some m.src)
  (hself : s.selfFenced = false) (hfenced : s.feidFenced m.src = false) (hdst : m.dst = none ∨ m.dst = some s.ownFeid)
  (hg : s.gate p.val c = .pass)
include hp hsrc hself hfenced hdst hg

/-- A hand-over message for this device reaches its hand-over. -/
theorem State.arrive_handMsg (kind : BitVec 8) (run : State → State) :
    s.arrive c (fun s p => s.handMsg p kind m run) = run s := by
  rw [State.arrive_pass hp hg (fun f hf => by obtain rfl := Option.some.inj (hsrc.symm.trans hf); exact hfenced)]
  have hown : m.dst.filter (fun d => d != s.ownFeid) = none := by
    rcases hdst with hd | hd <;> simp [hd]
  simp only [State.handMsg, hself, Bool.false_eq_true, if_false, hown]

end

/-! ### Hand-over messages at their side (spec 03 R73 to R76) -/

/-- The state of a new home that waits for the one line of a summary it reads. -/
def State.summaryAsked (s : State) (x : Nat) (h : Handover) (m : HandMsg) : State :=
  State.setHo { s with home := { s.home with nextId := s.home.nextId + 1 } } x
    (some { h with st := .awaiting, last := some (hoGive, m), summary := [], sumBase := s.home.nextId })

theorem State.recvGive_oneLine {s : State} {m : HandMsg} {x : Nat} {h : Handover} {q : Nat} (hh : s.hoOf m.xfer = some (x, h))
    (hst : h.st = .awaiting) (hlast : h.last = none) (hok : m.status = 0) (hlen : m.sumLen = 64)
    (hq : s.portOfFeid m.src = some q) :
    s.recvGive m = (s.summaryAsked x h m).sendW q 0 none kindReplica
      (.yd 0x01 (s.ownHdr m.src (BitVec.ofNat 16 s.home.nextId) m.sumAddr.toNat) []) := by
  have hlines : (m.sumLen.toNat + 63) / 64 = 1 := by rw [hlen]; rfl
  simp only [State.recvGive, hh, hst, hlast, hok, hlines, bne_self_eq_false, Option.isSome_none, Bool.false_eq_true, if_false,
    List.range_one, List.foldl_cons, List.foldl_nil]
  exact State.sendYd_port (s := s.summaryAsked x h m) hq _ _ _ _

theorem State.recvTake_giving {s : State} {m : HandMsg} {x : Nat} {h : Handover} {l : BitVec 8 × HandMsg}
    (hh : s.hoOf m.xfer = some (x, h)) (hst : h.st = .giving) (hlast : h.last = some l) :
    s.recvTake m = s.sendHo x { h with st := .givenUnconfirmed } hoCommit m.src { src := m.src, xfer := h.xfer } := by
  simp only [State.recvTake, hh, hst, hlast, Option.isSome_some, if_true]

theorem State.recvCommit_taking {s : State} {m : HandMsg} {x : Nat} {h : Handover} (hh : s.hoOf m.xfer = some (x, h))
    (hst : h.st = .taking) (hsum : h.summary = []) :
    s.recvCommit m = (s.serveQueue x { h with last := none, summary := [] } .owned).sendYdQ m.src 1
      (.handoff hoAck m.src { src := s.ownFeid, xfer := h.xfer }) := by
  simp only [State.recvCommit, hh, hst, State.becomeOwned, hsum, List.foldl_nil]

theorem State.recvAck_noQueue {s : State} {m : HandMsg} {x : Nat} {h : Handover} (hh : s.hoOf m.xfer = some (x, h))
    (hst : h.st = .givenUnconfirmed) (hqueue : h.queue = []) :
    s.recvAck m = (s.forgetExtent x).setHo x (some { h with
      st := .given, queue := [], last := some (hoAck, m), giveEpoch := s.epoch, gaveUp := false }) := by
  simp only [State.recvAck, hh, hst, hqueue, List.foldl_nil]

/-! ### The line of a summary (spec 03 R73, R77) -/

/-- 128-bit records as one number, the first lowest. -/
def ofRecords (l : List Nat) : Nat := l.foldr (fun v n => v + 2 ^ 128 * n) 0

theorem bits_ofRecords (l : List Nat) (hl : ∀ v ∈ l, v < 2 ^ 128) (k : Nat) :
    bits (ofRecords l) (128 * k + 127) (128 * k) = (l[k]?).getD 0 := by
  have hw : 128 * k + 127 + 1 - 128 * k = 128 := by omega
  rw [bits, hw]
  induction l generalizing k with
  | nil => simp [ofRecords]
  | cons v l ih =>
    have hv : v < 2 ^ 128 := hl v List.mem_cons_self
    change (v + 2 ^ 128 * ofRecords l) >>> (128 * k) % 2 ^ 128 = _
    cases k with
    | zero => simpa [Nat.add_mul_mod_self_left] using hv
    | succ k =>
      rw [show 128 * (k + 1) = 128 + 128 * k by omega, Nat.shiftRight_add, Nat.shiftRight_eq_div_pow _ 128,
        Nat.add_mul_div_left _ _ (by decide), Nat.div_eq_of_lt hv, Nat.zero_add,
        ih (fun w hm => hl w (List.mem_cons_of_mem _ hm)) k (by omega), List.getElem?_cons_succ]

theorem bits_toNat_ofNat (w n hi lo : Nat) (h : hi < w) : bits (BitVec.ofNat w n).toNat hi lo = bits n hi lo := by
  rw [BitVec.toNat_ofNat, bits_mod _ _ _ _ h]

/-- Line i of a summary: its records 4 i to 4 i + 3. -/
def lineOfSummary (l : List Nat) (i : Nat) : Line := BitVec.ofNat 512 (ofRecords ((l.drop (4 * i)).take 4))

theorem bits_lineOfSummary (l : List Nat) (hl : ∀ v ∈ l, v < 2 ^ 128) (i k : Nat) (hk : k < 4) :
    bits (lineOfSummary l i).toNat (128 * k + 127) (128 * k) = (l[4 * i + k]?).getD 0 := by
  rw [lineOfSummary, bits_toNat_ofNat _ _ _ _ (by omega),
    bits_ofRecords _ (fun v hv => hl v (List.mem_of_mem_drop (List.mem_of_mem_take hv))), List.getElem?_take_of_lt hk,
    List.getElem?_drop]

theorem State.summaryLine_giving {s : State} {x : Nat} {h : Handover} {g : Hdr} {l : HandMsg} {i : Nat}
    (hho : s.map.ho = [(x, h)]) (hst : h.st = .giving) (hlast : h.last = some (hoGive, l)) (hfeid : h.feid = g.src)
    (hi : 64 * i < l.sumLen.toNat) (harg : g.arg.toNat = l.sumAddr.toNat + 64 * i) :
    s.summaryLine g = some (lineOfSummary h.summary i) := by
  have hoff : g.arg.toNat - l.sumAddr.toNat = 64 * i := by omega
  have hrec : 64 * i / 16 = 4 * i := by omega
  have hle : l.sumAddr.toNat ≤ g.arg.toNat := by omega
  have halign : 64 * i % 64 = 0 := by omega
  have hguard : (g.src == h.feid && decide (l.sumAddr.toNat ≤ g.arg.toNat) &&
      decide (g.arg.toNat - l.sumAddr.toNat < l.sumLen.toNat) && (g.arg.toNat - l.sumAddr.toNat) % 64 == 0) = true := by
    rw [hoff, hfeid, decide_eq_true hle, decide_eq_true hi, halign, beq_self_eq_true]
    rfl
  obtain ⟨st, peer, xfer, queue, feid, last⟩ := h
  dsimp only at hst hlast hguard
  subst hst hlast
  rw [State.summaryLine, hho, List.findSome?_singleton]
  refine (if_pos hguard).trans ?_
  rw [hoff, hrec]
  rfl

theorem State.ydRequest_summary {s : State} {p : PortId} {g : Hdr} {d : Line} (e : Nat) (hb : s.barred p.val = false)
    (hdst : g.dst = s.ownFeid) (hd : s.summaryLine g = some d) :
    s.ydRequest e p g (.rd p g) = s.rspData p.val g stOk d false := by
  simp only [State.ydRequest, hb, hdst, hd, beq_self_eq_true, Bool.false_eq_true, if_false, if_true]

theorem handOverMessages : HandOverMessages := by
  intro s p m x h q hself hho hx hq hfenced hdst
  have hof : s.hoOf m.xfer = some (x, h) := State.hoOf_only hho hx
  refine ⟨?give, ?take, ?commit, ?ack, ?read⟩
  case give =>
    intro hg hst hlast hok hlen
    have e : s.take (.give p m) = s.recvGive m := State.arrive_handMsg rfl rfl hself hfenced hdst hg _ _
    rw [State.recvGive_oneLine hof hst hlast hok hlen hq] at e
    exact ⟨_, _, Ends.of_eq (congrArg (fin s) e) rfl, State.setHo_only hho _, rfl, rfl, rfl, State.sends_sendW _ _ _ _ _ _⟩
  case take =>
    intro l hg hst hlast
    have e : s.take (.take p m) = s.recvTake m := State.arrive_handMsg rfl rfl hself hfenced hdst hg _ _
    rw [State.recvTake_giving hof hst hlast, State.sendHo_port hq, hx] at e
    exact ⟨_, _, Ends.of_eq (congrArg (fin s) e) rfl, State.setHo_only hho _, rfl, rfl, rfl, rfl, State.egress_sendQ _ _ _ _⟩
  case commit =>
    intro hg hst hsum
    have e : s.take (.handoffCommit p m) = s.recvCommit m := State.arrive_handMsg rfl rfl hself hfenced hdst hg _ _
    have hq' : (s.serveQueue x { h with last := none, summary := [] } .owned).portOfFeid m.src = some q := hq
    rw [State.recvCommit_taking hof hst hsum, State.sendYdQ_port hq', hx] at e
    exact ⟨_, _, Ends.of_eq (congrArg (fin s) e) rfl, State.setHo_only hho _, rfl, rfl, rfl, rfl, State.egress_sendQ _ _ _ _⟩
  case ack =>
    intro hg hst hqueue
    have e : s.take (.commitAck p m) = s.recvAck m := State.arrive_handMsg rfl rfl hself hfenced hdst hg _ _
    rw [State.recvAck_noQueue hof hst hqueue] at e
    exact ⟨_, _, Ends.of_eq (congrArg (fin s) e) rfl, State.setHo_only (s := s.forgetExtent x) hho _, rfl, rfl, rfl, rfl, rfl, rfl⟩
  case read =>
    intro g l i ha hown _ _ hst hlast hfeid _ hrec hi harg
    have hline := State.summaryLine_giving hho hst hlast hfeid hi harg
    obtain ⟨-, -, -, -, -, hb, hsmp⟩ := id ha
    have e : s.take (.rd p g) = s.rspData p.val g stOk (lineOfSummary h.summary i) false :=
      (State.deliver_admits ha (State.sampleRequest_off hsmp _) rfl (fun _ _ => Instr.noConfusion)).trans
        (State.ydRequest_summary s.epoch hb hown hline)
    exact ⟨_, _, Ends.of_eq (congrArg (fin s) e) rfl, rfl, fun k hk => bits_lineOfSummary _ hrec i k hk,
      State.sends_sendW _ _ _ _ _ _⟩

/-- Settles O36. The messages and the timers of a hand-over each have the state they end in. Assumption log 92 (a GIVING side at its
limit serves its queue), 6 (the tags of the device's own reads are the next number) and 14 (a timer that no longer applies leaves the
state) mark what the model chose here. -/
theorem handOversProceed : Obligations.HandOversProceed := ⟨handOverMessages, handOverTimers⟩

/-! ### States that differ in registers alone -/

/-- What t changes of s lies in the registers. -/
def State.OnlyRegs (s t : State) : Prop := ∃ r, t = { s with regs := r }

theorem State.OnlyRegs.eq {s t : State} (h : s.OnlyRegs t) : t = { s with regs := t.regs } := by
  obtain ⟨r, rfl⟩ := h; rfl

theorem State.OnlyRegs.pending {s t : State} (h : s.OnlyRegs t) : t.pending = s.pending := by
  obtain ⟨r, rfl⟩ := h; rfl

theorem State.OnlyRegs.mgmt {s t : State} (h : s.OnlyRegs t) : t.mgmt = s.mgmt := by
  obtain ⟨r, rfl⟩ := h; rfl

theorem State.OnlyRegs.refl (s : State) : s.OnlyRegs s := ⟨s.regs, rfl⟩

theorem State.OnlyRegs.setReg {s t : State} (h : s.OnlyRegs t) (a v : Nat) : s.OnlyRegs (t.setReg a v) := by
  obtain ⟨r, rfl⟩ := h; exact ⟨_, rfl⟩

theorem State.OnlyRegs.set {s t : State} (h : s.OnlyRegs t) (f : BlockField) (v i k : Nat) : s.OnlyRegs (t.set f v i k) :=
  h.setReg _ _

theorem State.OnlyRegs.hset {s t : State} (h : s.OnlyRegs t) (g : Page) (f : FieldRef) (v : Nat) : s.OnlyRegs (t.hset g f v) :=
  h.setReg _ _

/-! ### Starting a commit (spec 03 R60, R71) -/

/-- MAP_COMMIT's definition. -/
def mapCommitDef : RegDef := { blk := some .map, off := 0x104, n := 1, stride := 4, pair := 0, flds := [w1s 0 0 0] }

/-- MAP_XFER's definition. -/
def mapXferDef : RegDef := { blk := some .map, off := 0x114, n := 1, stride := 4, pair := 0, flds := [wo 17 0 0, wo 25 18 0] }

theorem regDefAt_mapCommit : regDefAt ⟨.map, 0⟩ 0x104 = some mapCommitDef := rfl

theorem regDefAt_mapXfer : regDefAt ⟨.map, 0⟩ 0x114 = some mapXferDef := rfl

/-- A register field reads the same in two states whose registers do. -/
theorem State.rd_congr {s t : State} (h : ∀ a, t.reg a = s.reg a) (f : BlockField) (i k : Nat) : t.rd f i k = s.rd f i k := by
  rw [State.rd, h, State.rd]

/-- A register that its write leaves as it was. -/
def State.rewritten (s : State) (a : Nat) : State := s.setReg a (s.reg a)

theorem State.reg_rewritten (s : State) (a b : Nat) : (s.rewritten a).reg b = s.reg b := s.reg_setReg_self a b

theorem State.command_mapCommit {s : State} {path : Path} (h : s.Takes path ⟨.map, 0⟩)
    (hc : s.flag MAP_COMMIT_COMMIT = false) :
    s.command path MAP_COMMIT_COMMIT.addr 1 = (s.rewritten MAP_COMMIT_COMMIT.addr).startCommit := by
  have hflag : (s.rewritten MAP_COMMIT_COMMIT.addr).flag MAP_COMMIT_COMMIT = false := by
    rw [State.flag, State.rd_congr (s.reg_rewritten _)]
    exact hc
  have e := s.command_plain path ⟨.map, 0⟩ mapCommitDef .map 0x104 1 h (by decide) (by decide) regDefAt_mapCommit rfl (by decide)
    rfl rfl rfl rfl
  refine e.trans ?_
  change (if bit 1 0 && !(s.rewritten MAP_COMMIT_COMMIT.addr).flag MAP_COMMIT_COMMIT then
    (s.rewritten MAP_COMMIT_COMMIT.addr).startCommit else _) = _
  rw [hflag]
  rfl

/-- MAP_XFER written while no commit's check runs takes effect at once. -/
theorem State.command_mapXfer {s : State} {path : Path} (h : s.Takes path ⟨.map, 0⟩) (hc : s.flag MAP_COMMIT_COMMIT = false)
    (v : Nat) : s.command path MAP_XFER_EXTENT.addr v = (s.rewritten MAP_XFER_EXTENT.addr).xferWrite v := by
  obtain ⟨hm, hn, -, -, hholds⟩ := id h
  have hwaits : s.writeWaits ⟨.map, 0⟩ mapXferDef = false := by
    rw [State.writeWaits, hholds, hc]
    rfl
  have hreg : regAt MAP_XFER_EXTENT.addr = some (⟨.map, 0⟩, mapXferDef) := rfl
  have hwin : winAt MAP_XFER_EXTENT.addr = none := rfl
  have hlock : s.locksOut ⟨.map, 0⟩ mapXferDef MAP_XFER_EXTENT.addr v = false := s.locksOut_noRwl _ _ _ _ rfl
  rw [State.command, if_pos hm, s.mgmtWrite_operator hn hwin, s.pageWrite_takes h hreg hwaits, State.doWrite, hlock]
  rfl

theorem State.flag_startCommit (s : State) : s.startCommit.flag MAP_COMMIT_COMMIT = true := by
  rw [State.flag, State.startCommit, State.rd_set _ _ _ _ _ (by decide) (by decide)]
  rfl

theorem bits_xferValue (x : BitVec 18) (i : BitVec 8) :
    bits (x.toNat + 2 ^ 18 * i.toNat) 17 0 = x.toNat ∧ bits (x.toNat + 2 ^ 18 * i.toNat) 25 18 = i.toNat := by
  have hx := x.isLt
  have hi := i.isLt
  simp only [bits, Nat.shiftRight_eq_div_pow]
  omega

/-- What MAP_XFER leaves in the pending bank. -/
theorem State.extent_xferWrite (s : State) (v y : Nat) :
    (s.xferWrite v).map.pend.extent y =
      if bits v 17 0 = y then insBits (s.map.pend.extent y) 15 8 (bits v 25 18) else s.map.pend.extent y := by
  change Tbl.get (Tbl.putD s.map.pend.extents (bits v 17 0) 0 _) y 0 = _
  rw [Tbl.get_putD]
  split
  next h => rw [h]
  next => rfl

theorem exOwner_insBits (e i : Nat) (h : i < 256) : exOwner (insBits e 15 8 i) = i :=
  (bits_insBits e 15 8 i (by decide)).trans (Nat.mod_eq_of_lt h)

/-! ### The end of a commit's check (spec 03 R60 to R62) -/

/-- Where no management access waits, none goes on. -/
theorem State.releaseAll_none {s : State} (hheld : s.mgmt.held = []) (hent : s.mgmt.heldEnt = []) (hmsgs : s.mgmt.msgs = []) :
    s.releaseAll = s := by
  have hents : s.releaseEnts = s := by
    unfold State.releaseEnts
    split
    · rfl
    · rw [hent]
      change { s with mgmt := { s.mgmt with heldEnt := [] } } = s
      rw [← hent]
  have hwrites : s.releaseHeld = s := by
    unfold State.releaseHeld
    rw [hheld]
    change { s with mgmt := { s.mgmt with held := [] } } = s
    rw [← hheld]
  have hdgrams : s.releaseMsgs = s := by
    unfold State.releaseMsgs
    rw [hmsgs]
    change { s with mgmt := { s.mgmt with msgs := [] } } = s
    rw [← hmsgs]
  rw [State.releaseAll, hents, hwrites, hdgrams]

theorem State.rd_hset_reg (s : State) (g : Page) (h : FieldRef) (v : Nat) (f : BlockField) (i k : Nat)
    (hne : h.at g ≠ f.ref.at ⟨f.blk, i⟩ k) : (s.hset g h v).rd f i k = s.rd f i k := by
  rw [State.rd, State.hset, State.reg_setReg_ne _ _ _ _ hne, State.rd]

/-- The state of a map command's result before the entry it names is latched. -/
def State.resultSet (s : State) (code : Nat) : State :=
  ((s.set MAP_STAT_RESULT code).hset ⟨.map, 0⟩ PG_REASON_CODE code).hset ⟨.map, 0⟩ PG_REASON_OFFSET (if code = 0 then 0 else 0x104)

theorem State.mapResult_some (s : State) (code t i : Nat) :
    s.mapResult code (some (t, i)) = ((s.resultSet code).set MAP_BADENT_INDEX i).set MAP_BADENT_TABLE t := rfl

/-- Latching the entry leaves the fields of other registers. -/
theorem State.rd_mapResult_resultSet (s : State) (code : Nat) (bad : Option (Nat × Nat)) (f : BlockField)
    (h : MAP_BADENT_INDEX.addr ≠ f.ref.at ⟨f.blk, 0⟩) : (s.mapResult code bad).rd f = (s.resultSet code).rd f := by
  cases bad with
  | none => rfl
  | some b =>
    obtain ⟨t, i⟩ := b
    have htable : MAP_BADENT_TABLE.ref.at ⟨.map, 0⟩ ≠ f.ref.at ⟨f.blk, 0⟩ := h
    rw [State.mapResult_some, State.rd_set_reg _ _ _ _ _ _ _ _ htable, State.rd_set_reg _ _ _ _ _ _ _ _ h]

theorem State.rd_mapResult (s : State) (code : Nat) (bad : Option (Nat × Nat)) (h : code < 65536) :
    (s.mapResult code bad).rd MAP_STAT_RESULT = code := by
  rw [State.rd_mapResult_resultSet _ _ _ _ (by decide), State.resultSet, State.rd_hset_reg _ _ _ _ _ _ _ (by decide),
    State.rd_hset_reg _ _ _ _ _ _ _ (by decide), State.rd_set _ _ _ _ _ (by decide) (by decide)]
  exact Nat.mod_eq_of_lt h

theorem State.rd_resultSet_reg (s : State) (code : Nat) (f : BlockField) (h : MAP_STAT_RESULT.addr ≠ f.ref.at ⟨f.blk, 0⟩)
    (hr : PG_REASON_CODE.at ⟨.map, 0⟩ ≠ f.ref.at ⟨f.blk, 0⟩) : (s.resultSet code).rd f = s.rd f := by
  have ho : PG_REASON_OFFSET.at ⟨.map, 0⟩ ≠ f.ref.at ⟨f.blk, 0⟩ := hr
  rw [State.resultSet, State.rd_hset_reg _ _ _ _ _ _ _ ho, State.rd_hset_reg _ _ _ _ _ _ _ hr,
    State.rd_set_reg _ _ _ _ _ _ _ _ h]

/-- The other fields of MAP_STAT stay. -/
theorem State.rd_resultSet_stat (s : State) (code : Nat) (f : BlockField) (h : MAP_STAT_RESULT.addr = f.ref.at ⟨f.blk, 0⟩)
    (hf : f.ref.hi < 16) : (s.resultSet code).rd f = s.rd f := by
  have hr : PG_REASON_CODE.at ⟨.map, 0⟩ ≠ f.ref.at ⟨f.blk, 0⟩ := by rw [← h]; decide
  have ho : PG_REASON_OFFSET.at ⟨.map, 0⟩ ≠ f.ref.at ⟨f.blk, 0⟩ := hr
  rw [State.resultSet, State.rd_hset_reg _ _ _ _ _ _ _ ho, State.rd_hset_reg _ _ _ _ _ _ _ hr,
    State.rd_set_field _ _ _ _ _ _ _ _ h (by decide) (by omega) (.inr hf)]

theorem State.OnlyRegs.resultSet {s t : State} (h : s.OnlyRegs t) (code : Nat) : s.OnlyRegs (t.resultSet code) :=
  ((h.set _ _ _ _).hset _ _ _).hset _ _ _

theorem State.OnlyRegs.mapResult {s t : State} (h : s.OnlyRegs t) (code : Nat) (bad : Option (Nat × Nat)) :
    s.OnlyRegs (t.mapResult code bad) := by
  cases bad with
  | none => exact h.resultSet code
  | some b => exact ((h.resultSet code).set _ _ _ _).set _ _ _ _

/-! ### What counting an event changes (spec 19 R403, R411) -/

/-- What t changes of s lies in PMON's counters and in registers from PMON's page on: what counters that count or carry change. -/
def State.OnlyCounters (s t : State) : Prop :=
  (∃ r k v, t = { s with regs := r, pmon := { s.pmon with cnt := k, vcnt := v } }) ∧ ∀ a < 0x13000, t.reg a = s.reg a

theorem State.OnlyCounters.refl (s : State) : s.OnlyCounters s := ⟨⟨s.regs, s.pmon.cnt, s.pmon.vcnt, rfl⟩, fun _ _ => rfl⟩

theorem State.OnlyCounters.trans {s t u : State} (h : s.OnlyCounters t) (k : t.OnlyCounters u) : s.OnlyCounters u := by
  obtain ⟨⟨r, c, v, rfl⟩, hr⟩ := h
  obtain ⟨⟨r', c', v', rfl⟩, hr'⟩ := k
  exact ⟨⟨r', c', v', rfl⟩, fun a ha => (hr' a ha).trans (hr a ha)⟩

theorem State.OnlyCounters.setReg {s t : State} (h : s.OnlyCounters t) (a v : Nat) (ha : 0x13000 ≤ a) :
    s.OnlyCounters (t.setReg a v) :=
  h.trans ⟨⟨_, t.pmon.cnt, t.pmon.vcnt, rfl⟩, fun b hb => t.reg_setReg_ne a b v (by omega)⟩

theorem State.OnlyCounters.foldl {α : Type} (f : State → α → State) (hf : ∀ (s : State) a, s.OnlyCounters (f s a)) (l : List α)
    (s : State) : s.OnlyCounters (l.foldl f s) := by
  induction l generalizing s with
  | nil => exact .refl s
  | cons a l ih => exact (hf s a).trans (ih (f s a))

theorem State.onlyCounters_pmonOvf (s : State) (i : Nat) : s.OnlyCounters (s.pmonOvf i) := by
  have h := (State.OnlyCounters.refl s).setReg (0x13180 + 4 * (i / 32)) (s.reg (0x13180 + 4 * (i / 32)) ||| 2 ^ (i % 32)) (by omega)
  unfold State.pmonOvf
  dsimp only
  split
  · exact h.setReg _ _ (by decide)
  · exact h

theorem State.onlyCounters_countOne (o : Occ) (s : State) (c : Nat × List Word) : s.OnlyCounters (State.countOne o s c) := by
  unfold State.countOne
  split
  · have h : s.OnlyCounters
        { s with pmon := { s.pmon with cnt := Tbl.putD s.pmon.cnt c.1 0 (addCount (Tbl.get s.pmon.cnt c.1 0) o.n).1 } } :=
      ⟨⟨s.regs, _, s.pmon.vcnt, rfl⟩, fun _ _ => rfl⟩
    dsimp only
    split
    · exact h.trans (State.onlyCounters_pmonOvf _ _)
    · exact h
  · exact .refl s

theorem State.onlyCounters_vcount (o : Occ) (x : Nat) (s : State) (k : Nat) : s.OnlyCounters (State.vcount o x s k) := by
  unfold State.vcount
  dsimp only
  split
  · have h : s.OnlyCounters
        { s with pmon := { s.pmon with vcnt := Tbl.putD s.pmon.vcnt (4 * x + k) 0 (addCount (Tbl.get s.pmon.vcnt (4 * x + k) 0) o.n).1 } } :=
      ⟨⟨s.regs, s.pmon.cnt, _, rfl⟩, fun _ _ => rfl⟩
    split
    · exact h.setReg _ _ (by omega)
    · exact h
  · exact .refl s

/-- The key of an occurrence in the model's own tally. -/
def Occ.key (o : Occ) : Nat := blockCode o.blk * 2 ^ 24 + o.code * 2 ^ 16 + (if globalPages.contains o.blk then 0 else o.inst)

/-- The state whose tally has gained an occurrence. -/
def State.tallied (s : State) (o : Occ) : State :=
  { s with pmon := { s.pmon with events := Tbl.mod s.pmon.events o.key 0 (· + o.n) } }

theorem State.onlyCounters_count (s : State) (o : Occ) : (s.tallied o).OnlyCounters (s.count o) := by
  have h : (s.tallied o).OnlyCounters (if (s.tallied o).enabled .pmon && !(s.tallied o).flag PMON_CTL_FREEZE then
      (s.tallied o).pmon.cfg.foldl (State.countOne o) (s.tallied o) else s.tallied o) := by
    split
    · exact .foldl _ (State.onlyCounters_countOne o) _ _
    · exact .refl _
  unfold State.count
  dsimp only
  split
  · exact h
  next x _ => exact h.trans (.foldl _ (State.onlyCounters_vcount o x) _ _)

/-- Counting an event leaves the registers before PMON's page. -/
theorem State.reg_count_low (s : State) (o : Occ) {a : Nat} (h : a < 0x13000) : (s.count o).reg a = s.reg a :=
  (s.onlyCounters_count o).2 a h

theorem State.rd_count_low (s : State) (o : Occ) (f : BlockField) (h : f.ref.at ⟨f.blk, 0⟩ < 0x13000) :
    (s.count o).rd f = s.rd f := by
  rw [State.rd, s.reg_count_low o h, State.rd]

/-- Counting an event adds its occurrences to its tally. -/
theorem State.tally_count (s : State) (o : Occ) (inst : Nat) (h : globalPages.contains o.blk = true) :
    (s.count o).tally o.blk o.code inst = s.tally o.blk o.code inst + o.n := by
  obtain ⟨⟨r, k, v, e⟩, -⟩ := s.onlyCounters_count o
  have hkey : o.key = blockCode o.blk * 2 ^ 24 + o.code * 2 ^ 16 + (if globalPages.contains o.blk then 0 else inst) := by
    rw [Occ.key, if_pos h, if_pos h]
  rw [State.tally, State.tally, ← hkey, e]
  exact Tbl.get_mod s.pmon.events o.key 0 (· + o.n)

/-! ### What the effects of a commit leave of the banks -/

/-- Two states that agree in the current and the draining bank, in counters, management state and queue, and in the registers before
PMON's page. -/
structure State.KeepsBanks (s t : State) : Prop where
  cur      : t.map.cur = s.map.cur
  draining : t.map.draining = s.map.draining
  pmon     : t.pmon = s.pmon
  mgmt     : t.mgmt = s.mgmt
  pending  : t.pending = s.pending
  regs     : ∀ a < 0x13000, t.reg a = s.reg a

namespace State.KeepsBanks

theorem refl (s : State) : s.KeepsBanks s := ⟨rfl, rfl, rfl, rfl, rfl, fun _ _ => rfl⟩

theorem trans {s t u : State} (h : s.KeepsBanks t) (k : t.KeepsBanks u) : s.KeepsBanks u :=
  ⟨k.cur.trans h.cur, k.draining.trans h.draining, k.pmon.trans h.pmon, k.mgmt.trans h.mgmt, k.pending.trans h.pending,
    fun a ha => (k.regs a ha).trans (h.regs a ha)⟩

theorem foldl {α : Type} {f : State → α → State} (hf : ∀ (s : State) a, s.KeepsBanks (f s a)) (l : List α) (s : State) :
    s.KeepsBanks (l.foldl f s) := by
  induction l generalizing s with
  | nil => exact refl s
  | cons a l ih => exact (hf s a).trans (ih (f s a))

theorem rd {s t : State} (h : s.KeepsBanks t) (f : BlockField) (hf : f.ref.at ⟨f.blk, 0⟩ < 0x13000) : t.rd f = s.rd f := by
  rw [State.rd, h.regs _ hf, State.rd]

end State.KeepsBanks

/-! ### The effects of a commit on extents and leaves (spec 03 R62, R68, R72; 06 R135, R137, R152) -/

theorem State.keepsBanks_failHead (s : State) (x pl i : Nat) : s.KeepsBanks (s.failHead x pl i) := by
  unfold State.failHead
  split
  · exact .refl s
  · exact ⟨rfl, rfl, rfl, rfl, rfl, fun _ _ => rfl⟩

theorem State.keepsBanks_carryHeads (s : State) (old new : Bank) (x : Nat) : s.KeepsBanks (s.carryHeads old new x) := by
  refine .foldl (fun t i => ?_) _ s
  split
  · exact t.keepsBanks_failHead _ _ _
  · exact .refl t

theorem State.keepsBanks_remapPool (s : State) (old new : Bank) (x : Nat) : s.KeepsBanks (s.remapPool old new x) := by
  unfold State.remapPool
  dsimp only
  split
  · exact .refl s
  split
  · split
    · exact .refl s
    · exact ⟨rfl, rfl, rfl, rfl, rfl, fun _ _ => rfl⟩
  split
  · exact s.keepsBanks_carryHeads old new x
  split
  · exact ⟨rfl, rfl, rfl, rfl, rfl, fun _ _ => rfl⟩
  · exact ⟨rfl, rfl, rfl, rfl, rfl, fun _ _ => rfl⟩

theorem State.keepsBanks_leaveT1 (s : State) (x : Nat) : s.KeepsBanks (s.leaveT1 x) :=
  ⟨rfl, rfl, rfl, rfl, rfl, fun _ _ => rfl⟩

theorem State.keepsBanks_startSmap (s : State) (x : Nat) : s.KeepsBanks (s.startSmap x) :=
  ⟨rfl, rfl, rfl, rfl, rfl, fun _ _ => rfl⟩

theorem State.keepsBanks_setHo (s : State) (x : Nat) (h : Option Handover) : s.KeepsBanks (s.setHo x h) :=
  ⟨rfl, rfl, rfl, rfl, rfl, fun _ _ => rfl⟩

theorem State.keepsBanks_taint (s : State) (x : Nat) (b : Bool) : s.KeepsBanks (s.taint x b) :=
  ⟨rfl, rfl, rfl, rfl, rfl, fun _ _ => rfl⟩

theorem State.keepsBanks_commitHo (s : State) (old new : Bank) (x : Nat) : s.KeepsBanks (s.commitHo old new x) := by
  unfold State.commitHo
  dsimp only
  split
  · exact s.keepsBanks_setHo _ _
  split
  · exact s.keepsBanks_setHo _ _
  split
  · split
    · exact .refl s
    · split
      · exact (s.keepsBanks_setHo _ _).trans (State.keepsBanks_taint _ _ _)
      · exact s.keepsBanks_setHo _ _
      · exact s.keepsBanks_setHo _ _
      · exact .refl s
  · exact .refl s

theorem State.keepsBanks_commitExtent (s : State) (old new : Bank) (x : Nat) : s.KeepsBanks (s.commitExtent old new x) := by
  have hleave : s.KeepsBanks (if s.leavesT1 old new x then s.leaveT1 x else s) := by
    split
    · exact s.keepsBanks_leaveT1 x
    · exact .refl s
  have hremap := hleave.trans (State.keepsBanks_remapPool _ old new x)
  unfold State.commitExtent
  dsimp only
  refine .trans ?_ (State.keepsBanks_commitHo _ old new x)
  split
  · exact hremap.trans (State.keepsBanks_startSmap _ x)
  · exact hremap

theorem State.keepsBanks_sendQ (s : State) (p q : Nat) (m : Msg) : s.KeepsBanks (s.sendQ p q m) :=
  ⟨rfl, rfl, rfl, rfl, rfl, fun _ _ => rfl⟩

theorem State.keepsBanks_snoop (s : State) (inv : Bool) (l p : Nat) : s.KeepsBanks (s.snoop inv l p) := by
  unfold State.snoop
  split
  · exact .refl s
  · exact ⟨rfl, rfl, rfl, rfl, rfl, fun _ _ => rfl⟩

theorem State.keepsBanks_removeAccess (s : State) (p x : Nat) : s.KeepsBanks (s.removeAccess p x) := by
  refine .trans (.foldl (fun t e => .foldl (fun u q => ?_) _ t) _ s) ⟨rfl, rfl, rfl, rfl, rfl, fun _ _ => rfl⟩
  exact (u.keepsBanks_snoop true e.1 q).trans ⟨rfl, rfl, rfl, rfl, rfl, fun _ _ => rfl⟩

theorem State.keepsBanks_dcdEvents (s : State) (old new : Bank) : s.KeepsBanks (s.dcdEvents old new) := by
  refine .foldl (fun t p => .foldl (fun u x => ?_) _ t) _ s
  dsimp only
  split
  · exact u.keepsBanks_removeAccess p x
  split
  · exact u.keepsBanks_sendQ _ _ _
  · exact .refl u

/-! ### Procedures that lose their cores (spec 08 R202) -/

theorem State.keepsBanks_setCore (s : State) (f : BlockField) (v c : Nat) (hf : f.blk = .core) : s.KeepsBanks (s.set f v c) := by
  refine ⟨rfl, rfl, rfl, rfl, rfl, fun a ha => s.reg_setReg_ne _ _ _ ?_⟩
  simp only [FieldRef.at, hf, pageBase]
  omega

theorem State.keepsBanks_modProc (s : State) (x id : Nat) (f : Proc → Proc) : s.KeepsBanks (s.modProc x id f) :=
  ⟨rfl, rfl, rfl, rfl, rfl, fun _ _ => rfl⟩

theorem State.keepsBanks_freeCore (s : State) (c : Nat) : s.KeepsBanks (s.freeCore c) := by
  unfold State.freeCore
  refine .trans ?_ (State.keepsBanks_setCore _ CORE_STAT_RUNNING 0 c rfl)
  exact ⟨rfl, rfl, rfl, rfl, rfl, fun _ _ => rfl⟩

theorem State.keepsBanks_leaveCore (s : State) (p : Proc) : s.KeepsBanks (s.leaveCore p) := by
  unfold State.leaveCore
  split
  next c _ => exact s.keepsBanks_freeCore c
  next => exact .refl s

theorem State.keepsBanks_sendProc (s : State) (p x prio kind : Nat) (m : Msg) : s.KeepsBanks (s.sendProc p x prio kind m) := by
  unfold State.sendProc
  split
  · exact s.keepsBanks_sendQ p 2 m
  · exact ⟨rfl, rfl, rfl, rfl, rfl, fun _ _ => rfl⟩

theorem State.keepsBanks_flushHosts (s : State) (x : Nat) (p : Proc) (ports : List Nat) :
    s.KeepsBanks (s.flushHosts x p ports) := by
  refine (s.keepsBanks_modProc x p.id _).trans (.foldl (fun t port => ?_) ports _)
  have htag : t.KeepsBanks t.freshTag.2 := ⟨rfl, rfl, rfl, rfl, rfl, fun _ _ => rfl⟩
  exact (htag.trans (State.keepsBanks_sendProc _ _ _ _ _ _)).trans (State.keepsBanks_modProc _ _ _ _)

theorem State.keepsBanks_endProc (s : State) (x : Nat) (p : Proc) (st : Byte) (idx flags : Nat) :
    s.KeepsBanks (s.endProc x p st idx flags) := by
  unfold State.endProc
  dsimp only
  split
  · exact (s.keepsBanks_leaveCore p).trans (State.keepsBanks_modProc _ _ _ _)
  · exact ((s.keepsBanks_leaveCore p).trans (State.keepsBanks_modProc _ _ _ _)).trans (State.keepsBanks_flushHosts _ _ _ _)

theorem State.keepsBanks_loseCores (s : State) (x : Nat) : s.KeepsBanks (s.loseCores x) := by
  unfold State.loseCores
  split
  · exact .foldl (fun t p => t.keepsBanks_endProc x p _ _ _) _ s
  · exact .refl s

theorem State.keepsBanks_loseAll (s : State) : s.KeepsBanks s.loseAll := .foldl State.keepsBanks_loseCores _ s

/-! ### A commit that passes (spec 03 R60, R62, R63) -/

/-- The registers a commit that passes writes. -/
def State.epochSet (s : State) : State :=
  ((((s.set MAP_EPOCH_CURRENT ((s.epoch + 1) % 2 ^ 16)).set MAP_EPOCH_DRAINING s.epoch).set MAP_STAT_DRAINING 1).set
    MAP_STAT_PENDING_READY 0).resultSet 0

/-- The registers a commit that passes writes, and its count. -/
def State.epochStarted (s : State) : State := s.epochSet.count { blk := .map, code := 0x01 }

/-- The state in which the pending bank has become current, before the effects on extents and leaves. -/
def State.bankSwitched (s : State) : State :=
  State.epochStarted { s with map := { s.map with cur := s.map.pend, draining := some s.map.cur, xferUndo := none } }

theorem State.keepsBanks_commitDone (s : State) : s.bankSwitched.KeepsBanks s.commitDone :=
  (State.KeepsBanks.foldl (fun t x => t.keepsBanks_commitExtent s.map.cur s.map.pend x) _ s.bankSwitched).trans
    (State.keepsBanks_dcdEvents _ s.map.cur s.map.pend)

theorem State.onlyRegs_epochSet (s : State) : s.OnlyRegs s.epochSet :=
  (((((State.OnlyRegs.refl s).set _ _ _ _).set _ _ _ _).set _ _ _ _).set _ _ _ _).resultSet 0

theorem State.epochStarted_eq (s : State) : ∃ r m, s.epochStarted = { s with regs := r, pmon := m } := by
  obtain ⟨⟨r, k, v, e⟩, -⟩ := s.epochSet.onlyCounters_count { blk := .map, code := 0x01 }
  obtain ⟨r', e'⟩ := s.onlyRegs_epochSet
  rw [e'] at e
  exact ⟨r, _, (congrArg (fun t => State.count t _) e').trans e⟩

theorem State.bankSwitched_eq (s : State) : ∃ r m, s.bankSwitched = { s with
    regs := r, pmon := m, map := { s.map with cur := s.map.pend, draining := some s.map.cur, xferUndo := none } } :=
  State.epochStarted_eq { s with map := { s.map with cur := s.map.pend, draining := some s.map.cur, xferUndo := none } }

theorem State.tally_epochStarted (s : State) : s.epochStarted.tally .map 0x01 = s.tally .map 0x01 + 1 := by
  have h : s.epochSet.tally .map 0x01 = s.tally .map 0x01 := by
    obtain ⟨r, e⟩ := s.onlyRegs_epochSet
    rw [e]
    rfl
  rw [← h]
  exact State.tally_count _ { blk := .map, code := 0x01 } 0 rfl

section
variable (s : State)

theorem State.epoch_epochStarted : s.epochStarted.epoch = (s.epoch + 1) % 2 ^ 16 := by
  rw [State.epochStarted, State.epoch, State.rd_count_low _ _ _ (by decide), State.epochSet, State.rd_resultSet_reg _ _ _ (by decide) (by decide)]
  simp (disch := decide) only [State.rd_set_reg, State.rd_set_field, State.rd_set]
  exact Nat.mod_mod _ _

theorem State.rd_epochStarted_draining : s.epochStarted.rd MAP_EPOCH_DRAINING = s.epoch := by
  rw [State.epochStarted, State.rd_count_low _ _ _ (by decide), State.epochSet, State.rd_resultSet_reg _ _ _ (by decide) (by decide)]
  simp (disch := decide) only [State.rd_set_reg, State.rd_set]
  exact Nat.mod_eq_of_lt (bits_lt _ _ _)

theorem State.draining_epochStarted : s.epochStarted.draining = true := by
  rw [State.draining, State.flag, State.epochStarted, State.rd_count_low _ _ _ (by decide), State.epochSet,
    State.rd_resultSet_stat _ _ _ (by decide) (by decide)]
  simp (disch := decide) only [State.rd_set_field, State.rd_set]
  rfl

theorem State.pendingReady_epochStarted : s.epochStarted.flag MAP_STAT_PENDING_READY = false := by
  rw [State.flag, State.epochStarted, State.rd_count_low _ _ _ (by decide), State.epochSet,
    State.rd_resultSet_stat _ _ _ (by decide) (by decide)]
  simp (disch := decide) only [State.rd_set]
  rfl

theorem State.result_epochStarted : s.epochStarted.rd MAP_STAT_RESULT = 0 := by
  rw [State.epochStarted, State.rd_count_low _ _ _ (by decide)]
  exact State.rd_mapResult _ 0 none (by decide)

theorem State.commit_epochStarted : s.epochStarted.rd MAP_COMMIT_COMMIT = s.rd MAP_COMMIT_COMMIT := by
  rw [State.epochStarted, State.rd_count_low _ _ _ (by decide), State.epochSet, State.rd_resultSet_reg _ _ _ (by decide) (by decide)]
  simp (disch := decide) only [State.rd_set_reg]

end

theorem State.flag_set_zero (s : State) (f : BlockField) (h1 : f.ref.lo ≤ f.ref.hi) (h2 : f.ref.hi < 32) :
    (s.set f 0).flag f = false := by
  rw [State.flag, State.rd_set _ _ _ _ _ h1 h2, Nat.zero_mod]
  rfl

/-! What the switch of the banks shows before the effects on extents and leaves. -/

section
variable (s : State)

theorem State.tally_bankSwitched : s.bankSwitched.tally .map 0x01 = s.tally .map 0x01 + 1 := State.tally_epochStarted _

theorem State.epoch_bankSwitched : s.bankSwitched.epoch = (s.epoch + 1) % 2 ^ 16 := State.epoch_epochStarted _

theorem State.rd_bankSwitched_draining : s.bankSwitched.rd MAP_EPOCH_DRAINING = s.epoch := State.rd_epochStarted_draining _

theorem State.draining_bankSwitched : s.bankSwitched.draining = true := State.draining_epochStarted _

theorem State.pendingReady_bankSwitched : s.bankSwitched.flag MAP_STAT_PENDING_READY = false := State.pendingReady_epochStarted _

theorem State.result_bankSwitched : s.bankSwitched.rd MAP_STAT_RESULT = 0 := State.result_epochStarted _

theorem State.commit_bankSwitched : s.bankSwitched.rd MAP_COMMIT_COMMIT = s.rd MAP_COMMIT_COMMIT := State.commit_epochStarted _

end

/-! ### The draining epoch retires (spec 03 R64) -/

theorem State.foldl_strange_eq (l : List Nat) (s : State) : ∃ p, l.foldl State.strange s = { s with pool := p } := by
  induction l generalizing s with
  | nil => exact ⟨s.pool, rfl⟩
  | cons x l ih =>
    obtain ⟨p, e⟩ := ih (s.strange x)
    exact ⟨p, by rw [List.foldl_cons, e]; rfl⟩

/-- The map part of a state whose draining epoch has retired. -/
def State.mapRetired (s : State) : MapSt :=
  { s.map with
    draining := none
    held := []
    ho := s.map.ho.map (fun (h : Nat × Handover) =>
      if h.2.st == HoState.given && h.2.giveEpoch == s.rd MAP_EPOCH_DRAINING then (h.1, { h.2 with gaveUp := true }) else h)
    moved := [] }

/-- Retiring the draining epoch changes DRAINING, the map part, what waits at the home, and memory only where an extent was placed
elsewhere. -/
theorem State.retireEpoch_eq (s : State) : ∃ p, s.retireEpoch =
    { s.set MAP_STAT_DRAINING 0 with
      map := s.mapRetired, home := { s.home with blocked := s.map.held ++ s.home.blocked }, pool := p } ∧
    (s.map.moved = [] → p = s.pool) := by
  obtain ⟨p, e⟩ := State.foldl_strange_eq s.map.moved (State.set { s with map := s.mapRetired } MAP_STAT_DRAINING 0)
  refine ⟨p, congrArg (fun t : State => { t with home := { t.home with blocked := s.map.held ++ t.home.blocked } }) e, ?_⟩
  intro hm
  rw [hm] at e
  exact (congrArg State.pool e).symm

section
variable (s : State)

theorem State.draining_retireEpoch : s.retireEpoch.draining = false := by
  obtain ⟨p, e, -⟩ := s.retireEpoch_eq
  rw [e]
  exact s.flag_set_zero MAP_STAT_DRAINING (by decide) (by decide)

theorem State.pending_retireEpoch : s.retireEpoch.pending = s.pending := by
  obtain ⟨p, e, -⟩ := s.retireEpoch_eq
  rw [e]
  rfl

theorem State.txns_retireEpoch : s.retireEpoch.home.txns = s.home.txns := by
  obtain ⟨p, e, -⟩ := s.retireEpoch_eq
  rw [e]

theorem State.isTainted_retireEpoch (x : Nat) : s.retireEpoch.isTainted x = s.isTainted x := by
  obtain ⟨p, e, -⟩ := s.retireEpoch_eq
  rw [e]
  rfl

theorem State.pool_retireEpoch {s : State} (h : s.map.moved = []) : s.retireEpoch.pool = s.pool := by
  obtain ⟨p, e, hp⟩ := s.retireEpoch_eq
  rw [e]
  exact hp h

theorem State.port_retireEpoch (p : Nat) : s.retireEpoch.port p = s.port p := by
  obtain ⟨r, e, -⟩ := s.retireEpoch_eq
  rw [e]
  rfl

theorem State.regs_retireEpoch : s.retireEpoch.regs = (s.set MAP_STAT_DRAINING 0).regs := by
  obtain ⟨p, e, -⟩ := s.retireEpoch_eq
  rw [e]

theorem State.drainExpired_retireEpoch : s.retireEpoch.flag MAP_STAT_DRAIN_EXPIRED = s.flag MAP_STAT_DRAIN_EXPIRED := by
  have h := s.rd_set_field MAP_STAT_DRAINING MAP_STAT_DRAIN_EXPIRED 0 0 0 0 0 (by decide) (by decide) (by decide) (by decide)
  rw [State.flag, State.rd, State.reg, s.regs_retireEpoch]
  exact congrArg (· == 1) h

theorem State.pgErr_retireEpoch (g : Page) (h : MAP_STAT_DRAINING.addr ≠ PG_ERR_ERR.at g) : s.retireEpoch.pgErr g = s.pgErr g := by
  rw [State.pgErr, State.reg, s.regs_retireEpoch]
  exact s.reg_setReg_ne _ _ _ h

end

/-! ### The drain limit (spec 03 R65) -/

/-- The state in which an expired drain is noted: its mark, its count and its error. -/
def State.expiryNoted (s : State) : State :=
  ((s.set MAP_STAT_DRAIN_EXPIRED 1).count { blk := .map, code := 0x02 }).err ⟨.map, 0⟩ 16

theorem State.expiryNoted_eq (s : State) : ∃ r k m, s.expiryNoted = { s with regs := r, pmon := k, mgmt := m } := by
  obtain ⟨r, ev, k, v, e⟩ := (s.set MAP_STAT_DRAIN_EXPIRED 1).count_eq { blk := .map, code := 0x02 }
  obtain ⟨r', m, e'⟩ := (State.OnlyRegsMgmt.refl _).err (t := (s.set MAP_STAT_DRAIN_EXPIRED 1).count { blk := .map, code := 0x02 })
    ⟨.map, 0⟩ 16
  refine ⟨r', _, m, e'.trans (congrArg (fun t : State => { t with regs := r', mgmt := m }) e)⟩

theorem State.rd_expiryNoted (s : State) (f : BlockField) (h : MAP_STAT_DRAIN_EXPIRED.addr ≠ f.ref.at ⟨f.blk, 0⟩)
    (he : f.ref.at ⟨f.blk, 0⟩ ≠ PG_ERR_ERR.at ⟨.map, 0⟩) (hlow : f.ref.at ⟨f.blk, 0⟩ < 0x13000) :
    s.expiryNoted.rd f = s.rd f := by
  rw [State.expiryNoted, State.rd, State.reg_err_ne _ _ _ he, State.reg_count_low _ _ hlow]
  exact s.rd_set_reg _ f 1 0 0 0 0 h

theorem State.drainExpired_expiryNoted (s : State) : s.expiryNoted.flag MAP_STAT_DRAIN_EXPIRED = true := by
  rw [State.expiryNoted, State.flag_err _ _ _ _ _ (by decide) (by decide), State.flag, State.rd_count_low _ _ _ (by decide),
    State.rd_set _ _ _ _ _ (by decide) (by decide)]
  rfl

theorem State.pgErr_expiryNoted (s : State) : bit (s.expiryNoted.pgErr ⟨.map, 0⟩) 16 = true :=
  (State.bit_pgErr_err _ ⟨.map, 0⟩ 16 16 (by decide)).trans (Bool.or_true _)

theorem mem_setAdd_self (l : List Nat) (x : Nat) : x ∈ setAdd l x := by
  induction l with
  | nil => exact List.mem_singleton_self x
  | cons k l ih =>
    unfold setAdd
    split
    · exact List.mem_cons_self
    split
    next h => exact h ▸ List.mem_cons_self
    next => exact List.mem_cons_of_mem _ ih

theorem State.isTainted_taint (s : State) (x : Nat) : (s.taint x true).isTainted x = true :=
  List.contains_iff_mem.2 (mem_setAdd_self _ _)

/-- A read of an expired drain is answered poisoned, its extent tainted, and the read ended. -/
theorem State.expireTxn_read {s : State} {u : Txn} {q : Nat} {h : Hdr} (hu : s.home.txns = [u]) (hsrc : u.src = .yd q h)
    (hacc : u.acc = .readUnc 0 64) :
    s.expireTxn u = ((s.taint (u.line / 2 ^ 24) true).rspData q h stPoisoned 0 true).dropTxn u.id := by
  have htxn : s.txn u.id = some u := by
    rw [State.txn, hu]
    exact List.find?_cons_of_pos (beq_self_eq_true _)
  simp only [State.expireTxn, htxn, hacc, hsrc, Access.isWback, Access.writes, Bool.false_and, Bool.or_self, Bool.false_eq_true,
    if_false, State.answerRead, if_true]

/-! ### Requests held before their ordering point -/

theorem State.heldAll_eq_nil (s : State) : s.heldAll = [] ↔
    s.home.blocked = [] ∧ s.map.held = [] ∧ (∀ h ∈ s.map.ho, h.2.queue = []) ∧
      (∀ q ∈ s.ports, q.2.held = [] ∧ ∀ g ∈ q.2.fences, g.2 = []) ∧ ∀ r ∈ s.pub.regions, r.2.waiting = [] := by
  simp only [State.heldAll, List.append_eq_nil_iff, List.flatten_eq_nil_iff, List.forall_mem_map, and_assoc]

/-- What a port holds does not depend on what it sends. -/
theorem State.heldAll_sendW {s : State} (h : s.heldAll = []) (p tc : Nat) (tenant : Option Nat) (kind : Nat) (m : Msg) :
    (s.sendW p tc tenant kind m).heldAll = [] := by
  rw [State.heldAll_eq_nil] at h ⊢
  obtain ⟨hb, hm, hho, hports, hreg⟩ := h
  refine ⟨hb, hm, hho, fun q hq => ?_, hreg⟩
  have hport : (s.port p).held = [] ∧ ∀ g ∈ (s.port p).fences, g.2 = [] := by
    unfold State.port Tbl.get
    cases e : Tbl.get? s.ports p with
    | none => exact ⟨rfl, fun g hg => absurd hg List.not_mem_nil⟩
    | some v => exact hports (p, v) (Tbl.mem_of_get? _ _ _ e)
  rcases Tbl.mem_put hq with rfl | hq
  · exact hport
  · exact hports q hq

/-- Whether a held request is a memory request of an epoch. -/
def State.memoryOf (s : State) (e : Nat) (h : Held) : Bool := h.epoch == e && !(s.heldExtents h).isEmpty

theorem State.expireWaiting_none {s : State} (hheld : s.heldAll = []) (hprox : s.map.proxied = []) (e : Nat) :
    s.expireWaiting e = s.dropHeld (s.memoryOf e) := by
  simp only [State.expireWaiting, hheld, hprox, List.filter_nil, List.foldl_nil]
  rfl

theorem Tbl.get?_mapVal {α : Type} (f : α → α) (t : Tbl α) (x : Nat) :
    Tbl.get? (t.map (fun q => (q.1, f q.2))) x = (Tbl.get? t x).map f := by
  induction t with
  | nil => rfl
  | cons q t ih =>
    obtain ⟨k, v⟩ := q
    simp only [List.map_cons, Tbl.get?]
    split
    · rfl
    · exact ih

theorem State.egress_dropHeld (s : State) (f : Held → Bool) (p : Nat) : ((s.dropHeld f).port p).egress = (s.port p).egress := by
  have h := Tbl.get?_mapVal (fun x : PortSt =>
    { x with held := x.held.filter (fun h => !f h), fences := x.fences.map (fun g => (g.1, g.2.filter (fun h => !f h))) }) s.ports p
  unfold State.port Tbl.get
  refine (congrArg (fun o => (Option.getD o ({} : PortSt)).egress) h).trans ?_
  cases Tbl.get? s.ports p <;> rfl

theorem State.taintProcs_none {s : State} (h : s.procs.procs = []) (e : Nat) : s.taintProcs e = s := by
  rw [State.taintProcs, h]
  rfl

theorem State.expireProcs_none {s : State} (h : s.procs.procs = []) (e : Nat) : s.expireProcs e = s := by
  rw [State.expireProcs, h]
  rfl

theorem State.expireRest_none {s : State} (hw : s.tier.wbs = []) (hs : s.map.commitSnoops = []) : s.expireRest = s := by
  simp only [State.expireRest, hw, hs, List.filter_nil, List.map_nil, List.foldl_nil]

/-- The state in which the only read of an expired drain is answered. -/
def State.readExpired (s : State) (u : Txn) (q : Nat) (h : Hdr) : State :=
  ((s.taint (u.line / 2 ^ 24) true).rspData q h stPoisoned 0 true).dropTxn u.id

/-- What an expired drain ends before its epoch retires. -/
def State.expireEpoch (s : State) (e : Nat) : State :=
  ((((s.drainTxns.foldl State.expireTxn s).expireWaiting e).taintProcs e).expireProcs e).expireRest

theorem State.drainExpiry_draining {s : State} (hd : s.draining = true) :
    s.drainExpiry = (s.expiryNoted.expireEpoch (s.rd MAP_EPOCH_DRAINING)).retireEpoch := by
  have hlive : ¬(!s.draining) = true := by rw [hd]; decide
  rw [State.drainExpiry, if_neg hlive]
  rfl

section
variable {s : State} {u : Txn} {q : Nat} {h : Hdr} (hu : s.home.txns = [u]) (hsrc : u.src = .yd q h)
include hu hsrc

theorem State.drainTxns_read (he : u.epoch = s.rd MAP_EPOCH_DRAINING) : s.drainTxns = [u] := by
  rw [State.drainTxns, hu]
  refine List.filter_cons_of_pos ?_
  rw [he, hsrc, beq_self_eq_true]
  rfl

/-- An expired drain with one read left and nothing else under its epoch ends that read. -/
theorem State.expireEpoch_read (he : u.epoch = s.rd MAP_EPOCH_DRAINING) (hacc : u.acc = .readUnc 0 64) (hw : s.tier.wbs = [])
    (hs : s.map.commitSnoops = []) (hp : s.procs.procs = []) (hheld : s.heldAll = []) (hprox : s.map.proxied = []) (e : Nat) :
    s.expireEpoch e = (s.readExpired u q h).dropHeld ((s.readExpired u q h).memoryOf e) := by
  have hwait : (s.readExpired u q h).heldAll = [] := State.heldAll_sendW (s := s.taint (u.line / 2 ^ 24) true) hheld _ _ _ _ _
  have hend : (s.drainTxns.foldl State.expireTxn s).expireWaiting e =
      (s.readExpired u q h).dropHeld ((s.readExpired u q h).memoryOf e) := by
    rw [State.drainTxns_read hu hsrc he, List.foldl_cons, List.foldl_nil, State.expireTxn_read hu hsrc hacc]
    exact State.expireWaiting_none (s := s.readExpired u q h) hwait hprox e
  have hprocs (f : Held → Bool) : ((s.readExpired u q h).dropHeld f).procs.procs = [] := hp
  rw [State.expireEpoch, hend, State.taintProcs_none (hprocs _), State.expireProcs_none (hprocs _)]
  exact State.expireRest_none (s := (s.readExpired u q h).dropHeld _) hw hs

end

theorem State.egress_readExpired (s : State) (u : Txn) (q : Nat) (h : Hdr) :
    s.Sends (s.readExpired u q h) q (.yd 0x05 (replyHdr s h stPoisoned.toNat true) (lineSlots 0)) :=
  State.sends_sendW (s.taint (u.line / 2 ^ 24) true) q _ _ _ _

theorem State.replyHdr_expiryNoted (s : State) (h : Hdr) (arg : Nat) (poison : Bool) :
    replyHdr s.expiryNoted h arg poison = replyHdr s h arg poison := by
  rw [replyHdr, replyHdr, State.ownFeid, State.ownFeid, s.rd_expiryNoted _ (by decide) (by decide) (by decide)]

theorem State.txns_readExpired {s : State} {u : Txn} (hu : s.home.txns = [u]) (q : Nat) (h : Hdr) :
    (s.readExpired u q h).home.txns = [] := by
  change s.home.txns.filter (fun t => t.id != u.id) = []
  rw [hu, List.filter_eq_nil_iff]
  intro t ht
  rw [List.mem_singleton.1 ht, bne_self_eq_false]
  exact Bool.false_ne_true

/-! What the answer of the read, and the dropping of held requests, leave. -/

section
variable (s : State) (u : Txn) (q : Nat) (h : Hdr) (f : Held → Bool)

theorem State.txns_dropHeld : (s.dropHeld f).home.txns = s.home.txns := rfl

theorem State.pending_dropHeld_readExpired : ((s.readExpired u q h).dropHeld f).pending = s.pending := rfl

theorem State.pool_dropHeld_readExpired : ((s.readExpired u q h).dropHeld f).pool = s.pool := rfl

theorem State.moved_dropHeld_readExpired : ((s.readExpired u q h).dropHeld f).map.moved = s.map.moved := rfl

theorem State.flag_dropHeld_readExpired (g : BlockField) : ((s.readExpired u q h).dropHeld f).flag g = s.flag g := rfl

theorem State.pgErr_dropHeld_readExpired (g : Page) : ((s.readExpired u q h).dropHeld f).pgErr g = s.pgErr g := rfl

theorem State.isTainted_dropHeld_readExpired : ((s.readExpired u q h).dropHeld f).isTainted (u.line / 2 ^ 24) = true :=
  s.isTainted_taint _

end

/-- R65 with one read left: its answer goes out, and the epoch retires. -/
theorem State.drainExpiry_read {s : State} {u : Txn} {q : Nat} {h : Hdr} (hd : s.draining = true) (hu : s.home.txns = [u])
    (he : u.epoch = s.rd MAP_EPOCH_DRAINING) (hsrc : u.src = .yd q h) (hacc : u.acc = .readUnc 0 64) (hw : s.tier.wbs = [])
    (hs : s.map.commitSnoops = []) (hp : s.procs.procs = []) (hheld : s.heldAll = []) (hprox : s.map.proxied = []) :
    ∃ f, s.drainExpiry = ((s.expiryNoted.readExpired u q h).dropHeld f).retireEpoch := by
  have hepoch : s.expiryNoted.rd MAP_EPOCH_DRAINING = s.rd MAP_EPOCH_DRAINING :=
    s.rd_expiryNoted _ (by decide) (by decide) (by decide)
  rw [← hepoch] at he
  rw [State.drainExpiry_draining hd]
  generalize s.rd MAP_EPOCH_DRAINING = e
  obtain ⟨r, k, m, hnoted⟩ := s.expiryNoted_eq
  exact ⟨_, congrArg State.retireEpoch (State.expireEpoch_read (by rw [hnoted]; exact hu) hsrc he hacc (by rw [hnoted]; exact hw)
    (by rw [hnoted]; exact hs) (by rw [hnoted]; exact hp) (by rw [hnoted]; exact hheld) (by rw [hnoted]; exact hprox) e)⟩

/-! ### The check of a commit ends (spec 03 R60 to R63) -/

section
variable {s : State} (hheld : s.mgmt.held = []) (hent : s.mgmt.heldEnt = []) (hmsgs : s.mgmt.msgs = [])
include hheld hent hmsgs

/-- The check that refuses records its result. -/
theorem State.commitCheckDone_refused {code : Nat} {bad : Option (Nat × Nat)} (hc : s.flag MAP_COMMIT_COMMIT = true)
    (hundo : s.map.xferUndo = none) (href : s.commitRefusal = some (code, bad)) :
    s.commitCheckDone = (s.set MAP_COMMIT_COMMIT 0).mapResult code bad := by
  have hregs : s.OnlyRegs ((s.set MAP_COMMIT_COMMIT 0).mapResult code bad) :=
    ((State.OnlyRegs.refl s).set _ _ _ _).mapResult code bad
  have hundo' : (s.set MAP_COMMIT_COMMIT 0).undoXfer = s.set MAP_COMMIT_COMMIT 0 := by
    simp only [State.undoXfer, State.set_map, hundo]
  simp only [State.commitCheckDone, hc, href, State.endCommit, hundo', Option.isNone_some, Bool.false_eq_true, if_false, if_true]
  exact State.releaseAll_none (by rw [hregs.mgmt, hheld]) (by rw [hregs.mgmt, hent]) (by rw [hregs.mgmt, hmsgs])

/-- The check that passes switches the banks; what follows keeps them. -/
theorem State.commitCheckDone_passed (hc : s.flag MAP_COMMIT_COMMIT = true) (href : s.commitRefusal = none) :
    (s.set MAP_COMMIT_COMMIT 0).bankSwitched.KeepsBanks s.commitCheckDone := by
  have k : (s.set MAP_COMMIT_COMMIT 0).bankSwitched.KeepsBanks (s.set MAP_COMMIT_COMMIT 0).commitDone.loseAll :=
    (State.keepsBanks_commitDone _).trans (State.keepsBanks_loseAll _)
  have hmgmt : (s.set MAP_COMMIT_COMMIT 0).commitDone.loseAll.mgmt = s.mgmt := by
    obtain ⟨r, m, e⟩ := (s.set MAP_COMMIT_COMMIT 0).bankSwitched_eq
    rw [k.mgmt, e]
    rfl
  have e : s.commitCheckDone = (s.set MAP_COMMIT_COMMIT 0).commitDone.loseAll.releaseAll := by
    simp only [State.commitCheckDone, hc, href, State.endCommit, Option.isNone_none, if_true]
  rw [e, State.releaseAll_none (by rw [hmgmt, hheld]) (by rw [hmgmt, hent]) (by rw [hmgmt, hmsgs])]
  exact k

theorem ends_commitRefused {code : Nat} {bad : Option (Nat × Nat)} (hc : s.flag MAP_COMMIT_COMMIT = true)
    (hundo : s.map.xferUndo = none) (href : s.commitRefusal = some (code, bad)) (hcode : code < 65536) :
    ∃ t, Ends .commitCheckDone s t ∧ t = { s with regs := t.regs } ∧ t.flag MAP_COMMIT_COMMIT = false ∧
      t.rd MAP_STAT_RESULT = code := by
  have e := State.commitCheckDone_refused hheld hent hmsgs hc hundo href
  have hregs : s.OnlyRegs ((s.set MAP_COMMIT_COMMIT 0).mapResult code bad) :=
    ((State.OnlyRegs.refl s).set _ _ _ _).mapResult code bad
  refine ⟨_, Ends.of_eq (congrArg (fin s) e) hregs.pending, hregs.eq, ?_, State.rd_mapResult _ _ _ hcode⟩
  rw [State.flag, State.rd_mapResult_resultSet _ _ _ _ (by decide), State.rd_resultSet_reg _ _ _ (by decide) (by decide)]
  exact s.flag_set_zero MAP_COMMIT_COMMIT (by decide) (by decide)

theorem ends_commitPassed (hc : s.flag MAP_COMMIT_COMMIT = true) (href : s.commitRefusal = none) :
    ∃ t, Ends .commitCheckDone s t ∧ t.flag MAP_COMMIT_COMMIT = false ∧ t.rd MAP_STAT_RESULT = 0 ∧ t.map.cur = s.map.pend ∧
      t.map.draining = some s.map.cur ∧ t.epoch = (s.epoch + 1) % 2 ^ 16 ∧ t.rd MAP_EPOCH_DRAINING = s.epoch ∧ t.draining = true ∧
      t.flag MAP_STAT_PENDING_READY = false ∧ t.tally .map 0x01 = s.tally .map 0x01 + 1 := by
  have k := State.commitCheckDone_passed hheld hent hmsgs hc href
  have hepoch : (s.set MAP_COMMIT_COMMIT 0).epoch = s.epoch := s.rd_set_reg _ _ _ _ _ _ _ (by decide)
  obtain ⟨r, m, e⟩ := (s.set MAP_COMMIT_COMMIT 0).bankSwitched_eq
  refine ⟨s.commitCheckDone, Ends.of_eq rfl ?_, ?_, ?_, ?_, ?_, ?_, ?_, ?_, ?_, ?_⟩
  · rw [k.pending, e]
    rfl
  · rw [State.flag, k.rd _ (by decide), State.commit_bankSwitched]
    exact s.flag_set_zero MAP_COMMIT_COMMIT (by decide) (by decide)
  · rw [k.rd _ (by decide), State.result_bankSwitched]
  · rw [k.cur, e]
    rfl
  · rw [k.draining, e]
    rfl
  · rw [State.epoch, k.rd _ (by decide), ← hepoch]
    exact State.epoch_bankSwitched _
  · rw [k.rd _ (by decide), State.rd_bankSwitched_draining, hepoch]
  · rw [State.draining, State.flag, k.rd _ (by decide)]
    exact State.draining_bankSwitched _
  · rw [State.flag, k.rd _ (by decide)]
    exact State.pendingReady_bankSwitched _
  · rw [State.tally, k.pmon]
    exact State.tally_bankSwitched (s.set MAP_COMMIT_COMMIT 0)

theorem ends_pendingReloadDone :
    ∃ t, Ends .pendingReloadDone s t ∧ t = { s with regs := t.regs } ∧ t.flag MAP_STAT_PENDING_READY = true := by
  have e : s.reloadDone = s.set MAP_STAT_PENDING_READY 1 := State.releaseAll_none hheld hent hmsgs
  refine ⟨_, Ends.of_eq (congrArg (fin s) e) rfl, rfl, ?_⟩
  rw [State.flag, State.rd_set _ _ _ _ _ (by decide) (by decide)]
  rfl

end

/-! ### COMMIT and MAP_XFER (spec 03 R60, R71) -/

theorem ends_mapCommit {s : State} {path : Path} (h : s.Takes path ⟨.map, 0⟩) (hc : s.flag MAP_COMMIT_COMMIT = false) :
    ∃ t, Ends (.mapCommit path) s t ∧ t = { s with regs := t.regs } ∧ t.flag MAP_COMMIT_COMMIT = true :=
  ⟨_, Ends.of_eq (congrArg (fin s) (State.command_mapCommit h hc)) rfl,
    (((State.OnlyRegs.refl s).setReg _ _).set _ _ _ _).eq, State.flag_startCommit _⟩

theorem ends_mapXfer {s : State} {path : Path} (x : BitVec 18) (i : BitVec 8) (h : s.Takes path ⟨.map, 0⟩)
    (hc : s.flag MAP_COMMIT_COMMIT = false) :
    ∃ t, Ends (.mapXfer path x i) s t ∧ t.flag MAP_COMMIT_COMMIT = true ∧ t.map.cur = s.map.cur ∧ t.pool = s.pool ∧
      exOwner (t.map.pend.extent x.toNat) = i.toNat ∧ ∀ y, y ≠ x.toNat → t.map.pend.extent y = s.map.pend.extent y := by
  obtain ⟨hx, hi⟩ := bits_xferValue x i
  refine ⟨_, Ends.of_eq (congrArg (fin s) (State.command_mapXfer h hc _)) rfl, State.flag_startCommit _, rfl, rfl, ?_, ?_⟩
  · rw [State.extent_xferWrite, hx, if_pos rfl, hi, exOwner_insBits _ _ i.isLt]
  · intro y hy
    rw [State.extent_xferWrite, hx, if_neg (Ne.symm hy)]
    rfl

/-! ### The draining epoch and the forced release (spec 03 R64, R65, R68) -/

theorem ends_epochRetire {s : State} (hd : s.draining = true) (hin : s.inflight = 0) :
    ∃ t, Ends .epochRetire s t ∧ t = { s with regs := t.regs, map := t.map, home := t.home, pool := t.pool } ∧ t.draining = false ∧
      t.map.draining = none ∧ t.map.held = [] ∧ t.home.blocked = s.map.held ++ s.home.blocked ∧ t.map.cur = s.map.cur ∧
      (s.map.moved = [] → t.pool = s.pool) := by
  have e : s.epochRetire = s.retireEpoch := by
    rw [State.epochRetire, hd, hin]
    rfl
  obtain ⟨p, hp, hmoved⟩ := s.retireEpoch_eq
  refine ⟨_, Ends.of_eq (congrArg (fin s) (e.trans hp)) rfl, rfl, ?_, rfl, rfl, rfl, rfl, hmoved⟩
  exact s.flag_set_zero MAP_STAT_DRAINING (by decide) (by decide)

theorem ends_epochRetire_counted {s : State} (hin : 0 < s.inflight) : Ends .epochRetire s s := by
  have e : s.epochRetire = s := by
    rw [State.epochRetire, decide_eq_false (Nat.ne_of_gt hin), Bool.and_false]
    rfl
  exact Ends.of_eq (congrArg (fin s) e) rfl

/-- With nothing draining, neither the retirement nor the drain limit changes the state (the model's choice, assumption log 14). -/
theorem ends_epochRetire_drainExpiry_idle {s : State} (hd : s.draining = false) : Ends .epochRetire s s ∧ Ends .drainExpiry s s := by
  have hretire : s.epochRetire = s := by
    rw [State.epochRetire, hd]
    rfl
  have hexpiry : s.drainExpiry = s := by
    rw [State.drainExpiry, hd]
    rfl
  exact ⟨Ends.of_eq (congrArg (fin s) hretire) rfl, Ends.of_eq (congrArg (fin s) hexpiry) rfl⟩

theorem ends_drainExpiry_read {s : State} {u : Txn} {q : Nat} {h : Hdr} (hd : s.draining = true) (hu : s.home.txns = [u])
    (he : u.epoch = s.rd MAP_EPOCH_DRAINING) (hsrc : u.src = .yd q h) (hacc : u.acc = .readUnc 0 64) (hw : s.tier.wbs = [])
    (hs : s.map.commitSnoops = []) (hp : s.procs.procs = []) (hheld : s.heldAll = []) (hprox : s.map.proxied = [])
    (hmoved : s.map.moved = []) :
    ∃ t, Ends .drainExpiry s t ∧ t.home.txns = [] ∧ t.draining = false ∧ t.isTainted (u.line / 2 ^ 24) = true ∧ t.pool = s.pool ∧
      t.flag MAP_STAT_DRAIN_EXPIRED = true ∧ bit (t.pgErr ⟨.map, 0⟩) 16 = true ∧
      s.Sends t q (.yd 0x05 (replyHdr s h stPoisoned.toNat true) (lineSlots 0)) := by
  obtain ⟨f, e⟩ := State.drainExpiry_read hd hu he hsrc hacc hw hs hp hheld hprox
  obtain ⟨r, k, m, hnoted⟩ := s.expiryNoted_eq
  refine ⟨_, Ends.of_eq (congrArg (fin s) e) ?_, ?_, ?_, ?_, ?_, ?_, ?_, ?_⟩
  · rw [State.pending_retireEpoch, State.pending_dropHeld_readExpired, hnoted]
  · rw [State.txns_retireEpoch, State.txns_dropHeld]
    exact State.txns_readExpired (by rw [hnoted]; exact hu) q h
  · exact State.draining_retireEpoch _
  · rw [State.isTainted_retireEpoch, State.isTainted_dropHeld_readExpired]
  · rw [State.pool_retireEpoch (by rw [State.moved_dropHeld_readExpired, hnoted]; exact hmoved), State.pool_dropHeld_readExpired,
      hnoted]
  · rw [State.drainExpired_retireEpoch, State.flag_dropHeld_readExpired, State.drainExpired_expiryNoted]
  · rw [State.pgErr_retireEpoch _ _ (by decide), State.pgErr_dropHeld_readExpired, State.pgErr_expiryNoted]
  · obtain ⟨g, hg, hsent⟩ := s.expiryNoted.egress_readExpired u q h
    refine ⟨g, hg.trans (by rw [s.replyHdr_expiryNoted]), ?_⟩
    rw [State.port_retireEpoch, State.egress_dropHeld, hsent, hnoted]
    rfl

theorem ends_dcdRelease {s : State} {p : PortId} {x : BitVec 18} (hwait : s.map.dcdWait = [(p.val, x.toNat)])
    (hsnoops : s.map.commitSnoops = []) :
    ∃ t, Ends (.dcdRelease p x) s t ∧ t = { s with ports := t.ports, map := { s.map with dcdWait := [] } } ∧
      (t.port p.val).egress = (s.port p.val).egress ++ [{ q := 3, msg := .dcd false x.toNat true }] := by
  have e : s.dcdRelease p.val x.toNat =
      State.sendQ { s with map := { s.map with dcdWait := [] } } p.val 3 (.dcd false x.toNat true) := by
    simp [State.dcdRelease, hwait, hsnoops]
  exact ⟨_, Ends.of_eq (congrArg (fin s) e) rfl, rfl, State.egress_sendQ _ _ _ _⟩

/-- Settles O33. The clauses for a retirement or a drain limit with nothing draining are the model's choice (assumption log 14). -/
theorem commitsSwitchTheMap : Obligations.CommitsSwitchTheMap := by
  unfold Obligations.CommitsSwitchTheMap
  intro s hheld hent hmsgs
  refine ⟨?commit, ?xfer, ?refused, ?passed, ?reloaded, ?retires, ?counted, ?idle, ?expires, ?release⟩
  case commit => exact fun _ h hc => ends_mapCommit h hc
  case xfer => exact fun _ x i h hc => ends_mapXfer x i h hc
  case refused => exact fun _ _ hc hundo href hcode => ends_commitRefused hheld hent hmsgs hc hundo href hcode
  case passed => exact ends_commitPassed hheld hent hmsgs
  case reloaded => exact ends_pendingReloadDone hheld hent hmsgs
  case retires => exact fun hd hin _ => ends_epochRetire hd hin
  case counted => exact fun _ hin => ends_epochRetire_counted hin
  case idle => exact ends_epochRetire_drainExpiry_idle
  case expires =>
    exact fun _ _ _ hd hu he hsrc hacc hw hs hp hheld _ hprox hmoved =>
      ends_drainExpiry_read hd hu he hsrc hacc hw hs hp hheld hprox hmoved
  case release => exact fun _ _ hwait hsnoops => ends_dcdRelease hwait hsnoops

end Sys2Proof.Machine

namespace Sys2Proof.Machine

/-! ### What counting an event leaves -/

@[simp] theorem State.count_pub (s : State) (o : Occ) : (s.count o).pub = s.pub := by
  obtain ⟨r, ev, k, v, e⟩ := s.count_eq o
  rw [e]

@[simp] theorem State.count_pool (s : State) (o : Occ) : (s.count o).pool = s.pool := by
  obtain ⟨r, ev, k, v, e⟩ := s.count_eq o
  rw [e]

@[simp] theorem State.count_ports (s : State) (o : Occ) : (s.count o).ports = s.ports := by
  obtain ⟨r, ev, k, v, e⟩ := s.count_eq o
  rw [e]

/-- What a port has sent is told by the ports alone. -/
theorem State.Sends.congr {s t s' t' : State} {p : Nat} {m : Msg} (h : s.Sends t p m) (hs : s'.ports = s.ports)
    (ht : t'.ports = t.ports) : s'.Sends t' p m := by
  obtain ⟨e, he, hsent⟩ := h
  refine ⟨e, he, ?_⟩
  rw [State.port, ht, State.port, hs]
  exact hsent

/-! ### The answer to a publication request (spec 05 R106, R121) -/

/-- The PUB_RSP that a publication request of a leaf gets. -/
def pubAnswer (s : State) (h : Hdr) (st : Byte) (ver count : Nat) : Msg :=
  .yd 0x0D (replyHdr s h (pubRspArg (pubKind h) st (pubRegion h) false false)) [BitVec.ofNat 128 (ver + count * 2 ^ 32)]

/-- No duplicate of a publication request waits for its answer. -/
abbrev State.NoDups (s : State) (h : Hdr) : Prop := ∀ e, s.rcFind h.src (pubIncarn h) h.tag = some e → e.dups = []

/-- What ending a publication request changes: a port gains the answer, and the reply cache keeps or drops its entry. -/
def State.Answered (s t : State) (p : Nat) (m : Msg) : Prop :=
  (∃ ps rc, t = { s with ports := ps, rc := rc }) ∧ s.Sends t p m

/-- A request of a leaf is answered on the weighted side of its port. -/
theorem State.pubRsp_leaf (s : State) (p : Nat) {h : Hdr} (hk : pubKind h < 0x10) (st : Byte) (ver count : Nat) :
    s.pubRsp p h st ver count false false =
      s.sendW p h.tc.toNat (some (bdTenant (s.map.cur.bind p))) kindForward (pubAnswer s h st ver count) := by
  have h10 : (pubKind h == 0x10) = false := beq_false_of_ne (by omega)
  have h11 : (pubKind h == 0x11) = false := beq_false_of_ne (by omega)
  simp only [State.pubRsp, h10, h11, Bool.or_self, Bool.false_eq_true, if_false, if_neg (Nat.not_le.2 hk), pubAnswer]

/-- Where no duplicate waits, storing an answer changes the reply cache alone. -/
theorem State.rcFillPub_eq {s : State} {h : Hdr} (hd : s.NoDups h) (r : Reply) : ∃ rc, s.rcFillPub h r = { s with rc := rc } := by
  unfold State.rcFillPub
  split <;> split
  · exact ⟨s.rc, rfl⟩
  · rw [hd _ (by assumption)]
    exact ⟨_, rfl⟩
  · exact ⟨s.rc, rfl⟩
  · rw [hd _ (by assumption)]
    exact ⟨_, rfl⟩

theorem State.answered_pubEnd (s : State) (p : PortId) {h : Hdr} (hk : pubKind h < 0x10) (hd : s.NoDups h) (st : Byte)
    (ver count : Nat) : s.Answered (s.pubEnd p h st ver count) p.val (pubAnswer s h st ver count) := by
  rw [State.pubEnd, s.pubRsp_leaf p.val hk]
  obtain ⟨rc, e⟩ := State.rcFillPub_eq (s := s.sendW p.val h.tc.toNat (some (bdTenant (s.map.cur.bind p.val))) kindForward
    (pubAnswer s h st ver count)) hd { status := st, ver := BitVec.ofNat 32 ver, count := count }
  rw [e]
  exact ⟨⟨_, rc, rfl⟩, (s.sends_sendW p.val _ _ _ _).congr rfl rfl⟩

/-! ### Regions (spec 05 R101, R107, R108, R114, R115) -/

theorem State.region_setRegion (s : State) (idx : Nat) (r : Region) : Tbl.get? (s.setRegion idx r).pub.regions idx = some r := by
  rw [State.setRegion, Tbl.get?_put, if_pos rfl]

/-- The record of a region of this device. -/
theorem State.get?_of_region {s : State} {id : Nat} {r : Region} (h : s.region id = some r) :
    Tbl.get? s.pub.regions (id % 65536) = some r := by
  unfold State.region at h
  split at h
  · exact h
  · cases h

/-- Every version of a region but the current one is pinned. -/
abbrev State.OldPinned (s : State) (idx : Nat) (r : Region) : Prop :=
  ∀ v ∈ r.versions, v.1 = r.cur ∨ s.pinned (s.regionId idx) v.1 = true

/-- An open region whose old versions are pinned retires none. -/
theorem State.retireRegion_pinned {s : State} {idx : Nat} {r : Region} (hr : Tbl.get? s.pub.regions idx = some r)
    (hc : r.closing = false) (hp : s.OldPinned idx r) : s.retireRegion idx = s := by
  have hnone : r.versions.filter (fun v => (r.closing || v.1 != r.cur) && !s.pinned (s.regionId idx) v.1) = [] := by
    rw [List.filter_eq_nil_iff]
    intro v hv
    rcases hp v hv with h | h <;> simp [hc, h]
  simp only [State.retireRegion, hr]
  rw [hnone]
  simp only [List.foldl_nil, hr, hc, Bool.false_and, Bool.false_eq_true, if_false]

/-- A closing region without versions, publication or waiters ends. -/
theorem State.retireRegion_empty {s : State} {idx : Nat} {r : Region} (hr : Tbl.get? s.pub.regions idx = some r)
    (hc : r.closing = true) (hv : r.versions = []) (hn : r.running = none) (hw : r.waiting = []) :
    s.retireRegion idx = { s with pub := { s.pub with regions := Tbl.del s.pub.regions idx } } := by
  simp [State.retireRegion, hr, hc, hv, hn, hw]

/-- A region after a PUBLISH of a list of extents, without replicas. -/
def Region.published (r : Region) (exts : List Nat) : Region :=
  { r with cur := nextVer r.cur, versions := (nextVer r.cur, exts) :: r.versions, newList := [], running := none, stage := 0,
           invWait := [], replicas := [] }

/-- The event of a version made current. -/
def publishedOcc (h : Hdr) : Occ := { blk := .pub, code := 0x01, master := some (2, h.src.toNat) }

/-- The state in which a PUBLISH has ended OK, before what it leaves unpinned retires. -/
def State.publishEnded (s : State) (p : PortId) (h : Hdr) (v n : Nat) : State := (s.pubEnd p h stOk v n).count (publishedOcc h)

/-- The state with other region records. -/
def State.withRegions (s : State) (g : Tbl Region) : State := { s with pub := { s.pub with regions := g } }

/-- A PUBLISH with no line to downgrade and no replica to invalidate makes its version current at once. -/
theorem State.pubProgress_published {s : State} {idx : Nat} {r : Region} {p : PortId} {h : Hdr} {sl : List Slot}
    (hr : Tbl.get? s.pub.regions idx = some r) (hrun : r.running = some (p, h, sl)) (hst : r.stage = 1) (hrep : r.replicas = [])
    (hd : s.downgrading r.newList = false) :
    ∃ g, Tbl.get? g idx = some (r.published r.newList) ∧ s.pubProgress idx =
      ((s.withRegions g).publishEnded p h (nextVer r.cur) r.newList.length).retireRegion idx := by
  refine ⟨Tbl.put (Tbl.put s.pub.regions idx { r with stage := 2, invWait := [], replicas := [] }) idx (r.published r.newList),
    by rw [Tbl.get?_put, if_pos rfl], ?_⟩
  have hput (r' : Region) : Tbl.get? (s.setRegion idx r').pub.regions idx = some r' := s.region_setRegion idx r'
  simp only [State.pubProgress, hr, hrun, hst, hrep, hd, hput, List.foldl_nil, decide_true, Bool.not_false, Bool.and_self, if_true,
    List.isEmpty_nil]
  rfl

theorem State.downgrade_none {s : State} (hd : s.home.dir = []) (exts : List Nat) : s.downgrade exts = s := by
  rw [State.downgrade, hd]
  rfl

theorem State.downgrading_none {s : State} (ht : s.home.txns = []) (exts : List Nat) : s.downgrading exts = false := by
  rw [State.downgrading, ht]
  rfl

theorem State.regionId_count (s : State) (o : Occ) (idx : Nat) : (s.count o).regionId idx = s.regionId idx := by
  rw [State.regionId, s.rd_count_low o DEV_ID_DEVICE_ID (by decide), State.regionId]

/-- What a PUBLISH that has ended OK changes beside registers and counters. -/
theorem State.answered_publishEnded (s : State) (p : PortId) {h : Hdr} (hk : pubKind h < 0x10) (hd : s.NoDups h) (v n : Nat) :
    (s.publishEnded p h v n).pub = s.pub ∧ (s.publishEnded p h v n).pool = s.pool ∧
      (s.publishEnded p h v n).pending = s.pending ∧
      (s.publishEnded p h v n).tally .pub 0x01 = s.tally .pub 0x01 + 1 ∧
      (∀ idx, (s.publishEnded p h v n).regionId idx = s.regionId idx) ∧
      s.Sends (s.publishEnded p h v n) p.val (pubAnswer s h stOk v n) := by
  obtain ⟨⟨ps, rc, e⟩, hsent⟩ := s.answered_pubEnd p hk hd stOk v n
  refine ⟨?_, ?_, ?_, ?_, fun idx => ?_, hsent.congr rfl (State.count_ports _ _)⟩
  · rw [State.publishEnded, State.count_pub, e]
  · rw [State.publishEnded, State.count_pool, e]
  · rw [State.publishEnded, State.count_pending, e]
  · have htally := (s.pubEnd p h stOk v n).tally_count (publishedOcc h) 0 rfl
    rw [e] at htally
    rw [State.publishEnded, e]
    exact htally
  · rw [State.publishEnded, State.regionId_count, e]
    rfl

/-- A region whose PUBLISH has passed the checks of its list (spec 05 R108, step 1). -/
def Region.listed (r : Region) (w : PortId × Hdr × List Slot) (exts : List Nat) : Region :=
  { r with running := some w, stage := 1, newList := exts }

/-- Rows 3, 5 and 6 of R107: a list that may join the region, with room for one more version, is carried on; nothing is to be
downgraded. -/
theorem State.pubList_fits {s : State} {idx : Nat} {r : Region} {es : List Nat} (p : PortId) (h : Hdr) (sl : List Slot)
    (hes : es.all (s.listable r.tenant idx) = true) (hretain : r.versions.length ≤ r.retain) (hdir : s.home.dir = []) :
    s.pubList idx r p h sl es = (s.setRegion idx (r.listed (p, h, sl) (es.map (fun e => bits e 17 0)))).pubProgress idx := by
  have hroom : ¬ r.retain + 1 ≤ r.versions.length := by omega
  simp only [State.pubList, hes, Bool.not_true, Bool.false_eq_true, if_false, decide_eq_false hroom, Bool.false_and]
  rw [State.downgrade_none (by exact hdir)]
  rfl

/-- A list that fits makes the next version current at once, where nothing is to downgrade or invalidate and nothing retires. -/
theorem State.pubList_published {s : State} {idx : Nat} {r : Region} {p : PortId} {h : Hdr} {sl : List Slot} {es : List Nat}
    (hk : pubKind h < 0x10) (hdups : s.NoDups h) (hes : es.all (s.listable r.tenant idx) = true)
    (hretain : r.versions.length ≤ r.retain) (hrep : r.replicas = []) (hdir : s.home.dir = []) (htxns : s.home.txns = [])
    (hclosing : r.closing = false) (hpin : ∀ v ∈ r.versions, s.pinned (s.regionId idx) v.1 = true) :
    ∃ t, s.pubList idx r p h sl es = t ∧ t.pool = s.pool ∧ t.pending = s.pending ∧ t.pub.listWait = s.pub.listWait ∧
      Tbl.get? t.pub.regions idx = some (r.published (es.map (fun e => bits e 17 0))) ∧
      t.tally .pub 0x01 = s.tally .pub 0x01 + 1 ∧ s.Sends t p.val (pubAnswer s h stOk (nextVer r.cur) es.length) := by
  obtain ⟨g, hg, e⟩ := State.pubProgress_published (s.region_setRegion idx (r.listed (p, h, sl) (es.map (fun e => bits e 17 0))))
    rfl rfl hrep (State.downgrading_none htxns _)
  have hlen : (es.map (fun e => bits e 17 0)).length = es.length := List.length_map _
  obtain ⟨hpub, hpool, hpend, htally, hid, hsent⟩ := (s.withRegions g).answered_publishEnded p hk hdups (nextVer r.cur) es.length
  have hregion : Tbl.get? ((s.withRegions g).publishEnded p h (nextVer r.cur) es.length).pub.regions idx =
      some (r.published (es.map (fun e => bits e 17 0))) := by
    rw [hpub]
    exact hg
  refine ⟨_, (s.pubList_fits p h sl hes hretain hdir).trans (e.trans ?_), hpool, hpend, by rw [hpub]; rfl, hregion, htally, hsent⟩
  change ((s.withRegions g).publishEnded p h (nextVer r.cur)
    (es.map (fun e => bits e 17 0)).length).retireRegion idx = _
  rw [hlen]
  refine State.retireRegion_pinned hregion hclosing ?_
  intro v hv
  rw [hid]
  rcases List.mem_cons.1 hv with rfl | hv
  · exact .inl rfl
  · refine .inr ?_
    rw [State.pinned, hpub]
    exact hpin v hv

end Sys2Proof.Machine

namespace Sys2Proof.Machine

/-! ### A publication request that its home admits (spec 05 R106, R113, R121 to R123) -/

/-- A publication request is one of PUBLISH, OPEN and CLOSE. -/
def IsRegionReq (c : Instr) (p : PortId) (h : Hdr) (sl : List Slot) : Prop :=
  c = .publish p h sl ∨ c = .openReq p h sl ∨ c = .close p h sl

/-- This device is the home of a publication request of a peer and takes it now; its requester's incarnation is known, it was not
seen before and its reply has room. -/
structure State.TakesPub (s : State) (p : PortId) (h : Hdr) (sl : List Slot) : Prop where
  trunk : s.role p.val = .trunk
  dst : h.dst = s.ownFeid
  pubOn : s.enabled .pub = true
  pubRuns : s.quiescing .pub = false
  homeOn : s.enabled .home = true
  shape : pubShapeOk (pubKind h) sl = true
  incarn : Tbl.get? s.live.incarns h.src.toNat = some (pubIncarn h)
  unseen : s.rcFind h.src (pubIncarn h) h.tag = none
  room : s.rcFull h.src = false

/-- The state in which a publication request is judged: its reply has its place. -/
def State.pubReserved (s : State) (h : Hdr) : State :=
  s.rcReserve h.src (pubIncarn h) h.tag (pubKind h + pubRegion h * 2 ^ 8)

theorem newerThan_self (i : BitVec 16) : newerThan i i = false := by
  rw [newerThan, BitVec.sub_self]
  rfl

theorem State.seeIncarn_known {s : State} {f : Feid} {i : BitVec 16} (h : Tbl.get? s.live.incarns f.toNat = some i) :
    s.seeIncarn f i = s := by
  simp only [State.seeIncarn, h, newerThan_self, Bool.false_eq_true, if_false]

theorem State.staleIncarn_known {s : State} {f : Feid} {i : BitVec 16} (h : Tbl.get? s.live.incarns f.toNat = some i) :
    s.staleIncarn f i = false := by
  simp only [State.staleIncarn, h, newerThan_self]

theorem State.noteIncarn_known {s : State} {c : Instr} {p : PortId} {h : Hdr} {sl : List Slot} (hc : IsRegionReq c p h sl)
    (hi : Tbl.get? s.live.incarns h.src.toNat = some (pubIncarn h)) : s.noteIncarn c = s := by
  rcases hc with rfl | rfl | rfl <;> simp only [State.noteIncarn, State.seeIncarn_known hi, ite_self]

/-- The reply of a new request has no duplicates that wait. -/
theorem State.noDups_pubReserved {s : State} {h : Hdr} (hnew : s.rcFind h.src (pubIncarn h) h.tag = none) :
    (s.pubReserved h).NoDups h := by
  intro e he
  rw [State.pubReserved, State.rcReserve, State.rcFind, List.find?_append] at he
  rw [State.rcFind] at hnew
  rw [hnew] at he
  simp only [Option.none_or, List.find?_singleton, beq_self_eq_true, Bool.and_self, if_true, Option.some.injEq] at he
  rw [← he]

theorem State.TakesPub.admitPub {s : State} {p : PortId} {h : Hdr} {sl : List Slot} (ht : s.TakesPub p h sl)
    (judge : State → State) : s.admitPub p h sl judge = judge (s.pubReserved h) := by
  simp only [State.admitPub, ht.pubOn, ht.shape, State.seeIncarn_known ht.incarn, State.staleIncarn_known ht.incarn, ht.unseen,
    ht.room, Bool.not_true, Bool.false_eq_true, if_false, State.pubReserved]

/-- A publication request that is let in reaches its home. -/
theorem State.TakesPub.deliver {s : State} {c : Instr} {p : PortId} {h : Hdr} {sl : List Slot} (ht : s.TakesPub p h sl)
    (hc : IsRegionReq c p h sl) (ha : s.Admits p c) : s.deliver c = s.pubRequest s.epoch p h c := by
  obtain ⟨-, -, -, -, -, -, hsmp⟩ := id ha
  have hleaf : (s.role p.val == .leaf) = false := by rw [ht.trunk]; rfl
  have harrives : s.pubArrives s.epoch p h c = s.pubRequest s.epoch p h c := by
    simp only [State.pubArrives, hleaf, Bool.false_eq_true, if_false]
  have hfence : ∀ q f, c ≠ .ydFence q f := by rcases hc with rfl | rfl | rfl <;> exact fun _ _ => Instr.noConfusion
  rw [State.deliver_admits ha (State.sampleRequest_off hsmp _) (State.noteIncarn_known hc ht.incarn) hfence, ← harrives]
  rcases hc with rfl | rfl | rfl <;> rfl

/-- A publication request that comes in is judged: its home neither bars, passes on, denies nor holds it. -/
theorem State.TakesPub.take {s : State} {c : Instr} {p : PortId} {h : Hdr} {sl : List Slot} (ht : s.TakesPub p h sl)
    (hc : IsRegionReq c p h sl) (ha : s.Admits p c)
    (hpublish : c = .publish p h sl → pubKind h = 1 ∧ s.writesWait h.src = false) :
    s.take c = (s.pubReserved h).judgePub s.epoch c := by
  obtain ⟨-, -, -, -, -, hbar, -⟩ := id ha
  have hdst : (h.dst != s.ownFeid) = false := by rw [ht.dst]; exact bne_self_eq_false _
  have htake : s.take c = s.deliver c := by rcases hc with rfl | rfl | rfl <;> rfl
  rw [htake, ht.deliver hc ha]
  unfold State.pubRequest
  rw [hbar, hdst, ht.pubOn, ht.pubRuns, ht.homeOn]
  rcases hc with rfl | rfl | rfl
  · obtain ⟨hk, hw⟩ := hpublish rfl
    simp only [hk, hw]
    exact ht.admitPub (fun u => u.judgePublish s.epoch p h sl)
  · exact ht.admitPub (fun u => u.judgeOpen s.epoch p h sl)
  · exact ht.admitPub (fun u => u.judgeClose s.epoch p h sl)

/-! ### The judgements (spec 05 R107, R111, R112) -/

/-- The record of a region that takes requests of its tenant now. -/
structure State.OpenRegion (s : State) (h : Hdr) (sl : List Slot) (r : Region) : Prop where
  region : s.region (pubRegion h) = some r
  idle : r.running = none
  alive : r.closing = false
  tenant : pubTenant sl = r.tenant

theorem State.OpenRegion.pubReserved {s : State} {h : Hdr} {sl : List Slot} {r : Region} (hr : s.OpenRegion h sl r) :
    (s.pubReserved h).OpenRegion h sl r :=
  ⟨hr.region, hr.idle, hr.alive, hr.tenant⟩

/-- Row 2 of R107: the expected version is not the current one. -/
theorem State.OpenRegion.judgePublish_conflict {s : State} {h : Hdr} {sl : List Slot} {r : Region} (hr : s.OpenRegion h sl r)
    (e : Nat) (p : PortId) (hv : pubVer sl ≠ r.cur) :
    s.judgePublish e p h sl = (s.pubEnd p h stConflict r.cur r.curCount).count
      { blk := .pub, code := 0x02, master := some (2, h.src.toNat) } := by
  simp only [State.judgePublish, hr.region, hr.idle, hr.alive, hr.tenant, Option.isSome_none, Bool.false_eq_true, if_false,
    bne_self_eq_false, Bool.or_self, bne_iff_ne, ne_eq, hv, not_false_eq_true, if_true]

/-- An expected version that is current lets the inline list be judged. -/
theorem State.OpenRegion.judgePublish_list {s : State} {h : Hdr} {sl : List Slot} {r : Region} (hr : s.OpenRegion h sl r)
    (e : Nat) (p : PortId) (hv : pubVer sl = r.cur) (hn : pubCount sl ≤ 12) :
    s.judgePublish e p h sl = s.pubList (pubRegion h % 65536) r p h sl (pubInline sl) := by
  simp only [State.judgePublish, hr.region, hr.idle, hr.alive, hr.tenant, Option.isSome_none, Bool.false_eq_true, if_false,
    bne_self_eq_false, Bool.or_self, hv, if_neg (Nat.not_lt.2 hn), if_neg (show ¬ 1024 < pubCount sl by omega)]

/-- Pins of a version that a request takes or gives back. -/
def pinOf (h : Hdr) (ver : Nat) : Pin := { feid := h.src, incarn := pubIncarn h, region := pubRegion h, ver := ver, count := 1 }

/-- An OPEN of the current version, without a list buffer, in a region that grants no replicas, takes the first pin. -/
theorem State.OpenRegion.judgeOpen_current {s : State} {h : Hdr} {sl : List Slot} {r : Region} {exts : List Nat}
    (hr : s.OpenRegion h sl r) (e : Nat) (p : PortId) (hv : pubVer sl = 0) (haddr : pubAddr sl = 0) (hrepl : r.rrepl = false)
    (hexts : r.versions.find? (fun e => e.1 == r.cur) = some (r.cur, exts)) (hpins : s.pub.pins = []) :
    s.judgeOpen e p h sl =
      State.pubEnd { s with pub := { s.pub with pins := [pinOf h r.cur] } } p h stOk r.cur exts.length := by
  simp only [State.judgeOpen, hr.region, hr.idle, hr.alive, hr.tenant, hv, hexts, hrepl, hpins, haddr, Option.isSome_none,
    bne_self_eq_false, Bool.or_self, Bool.false_and, Bool.false_eq_true, if_false, if_true]
  rfl

/-- A CLOSE of the only pin gives it back. -/
theorem State.OpenRegion.judgeClose_last {s : State} {h : Hdr} {sl : List Slot} {r : Region} (hr : s.OpenRegion h sl r) (e : Nat)
    (p : PortId) (hpins : s.pub.pins = [pinOf h (pubVer sl)]) :
    s.judgeClose e p h sl = (State.pubEnd { s with pub := { s.pub with pins := [] } } p h stOk (pubVer sl) 0).retireRegion
      (pubRegion h % 65536) := by
  have hdrop : dropPin s.pub.pins h.src (pubIncarn h) (pubRegion h) (pubVer sl) = some [] := by
    simp [dropPin, hpins, pinOf]
  simp only [State.judgeClose, hr.region, hr.idle, hr.tenant, hdrop, Option.isSome_none, bne_self_eq_false, Bool.false_eq_true,
    if_false]

/-! ### PUBLISH, OPEN and CLOSE at their home -/

section
variable {s : State} {p : PortId} {h : Hdr} {sl : List Slot} {r : Region} (ht : s.TakesPub p h sl) (hr : s.OpenRegion h sl r)
include ht hr

/-- R107: a PUBLISH whose expected version is not the current one ends CONFLICT. -/
theorem ends_publishConflict (ha : s.Admits p (.publish p h sl)) (hk : pubKind h = 1) (hw : s.writesWait h.src = false)
    (hv : pubVer sl ≠ r.cur) : ∃ t, Ends (.publish p h sl) s t ∧ t.pub = s.pub ∧ t.pool = s.pool ∧
      s.Sends t p.val (pubAnswer s h stConflict r.cur r.curCount) := by
  obtain ⟨⟨ps, rc, eend⟩, hsent⟩ := (s.pubReserved h).answered_pubEnd p (by omega) (State.noDups_pubReserved ht.unseen)
    stConflict r.cur r.curCount
  have e := (ht.take (.inl rfl) ha fun _ => ⟨hk, hw⟩).trans (hr.pubReserved.judgePublish_conflict s.epoch p hv)
  refine ⟨_, Ends.of_eq (congrArg (fin s) e) ?_, ?_, ?_, hsent.congr rfl (State.count_ports _ _)⟩
  · rw [State.count_pending, eend]; rfl
  · rw [State.count_pub, eend]; rfl
  · rw [State.count_pool, eend]; rfl

/-- R107, R108: a PUBLISH of listed extents that fit makes the next version current. -/
theorem ends_publishInline (ha : s.Admits p (.publish p h sl)) (hk : pubKind h = 1) (hw : s.writesWait h.src = false)
    (hv : pubVer sl = r.cur) (hn : pubCount sl ≤ 12) (hes : (pubInline sl).all (s.listable r.tenant (pubRegion h % 65536)) = true)
    (hretain : r.versions.length ≤ r.retain) (hrep : r.replicas = []) (hdir : s.home.dir = []) (htxns : s.home.txns = [])
    (hpin : ∀ v ∈ r.versions, s.pinned (s.regionId (pubRegion h % 65536)) v.1 = true) :
    ∃ t r', Ends (.publish p h sl) s t ∧ t.pool = s.pool ∧ Tbl.get? t.pub.regions (pubRegion h % 65536) = some r' ∧
      r'.cur = nextVer r.cur ∧ r'.versions = (nextVer r.cur, (pubInline sl).map (fun e => bits e 17 0)) :: r.versions ∧
      s.Sends t p.val (pubAnswer s h stOk (nextVer r.cur) (pubCount sl)) := by
  have hk10 : pubKind h < 0x10 := by omega
  have hdups := State.noDups_pubReserved ht.unseen
  have hlen : (pubInline sl).length = pubCount sl := by rw [pubInline, List.length_map, List.length_range]
  obtain ⟨t, elist, hpool, hpend, -, hregion, -, hsent⟩ := State.pubList_published (s := s.pubReserved h) (p := p) (sl := sl) hk10
    hdups hes hretain hrep hdir htxns hr.alive hpin
  have e := (ht.take (.inl rfl) ha fun _ => ⟨hk, hw⟩).trans ((hr.pubReserved.judgePublish_list s.epoch p hv hn).trans elist)
  rw [hlen] at hsent
  exact ⟨t, _, Ends.of_eq (congrArg (fin s) e) hpend, hpool, hregion, rfl, rfl, hsent⟩

/-- R111, R112: an OPEN of the current version pins it. -/
theorem ends_openCurrent {exts : List Nat} (ha : s.Admits p (.openReq p h sl)) (hk : pubKind h = 2) (hv : pubVer sl = 0)
    (haddr : pubAddr sl = 0) (hrepl : r.rrepl = false)
    (hexts : r.versions.find? (fun e => e.1 == r.cur) = some (r.cur, exts)) (hpins : s.pub.pins = []) :
    ∃ t, Ends (.openReq p h sl) s t ∧ t.pool = s.pool ∧ t.pub.regions = s.pub.regions ∧ t.pub.pins = [pinOf h r.cur] ∧
      s.Sends t p.val (pubAnswer s h stOk r.cur exts.length) := by
  obtain ⟨⟨ps, rc, eend⟩, hsent⟩ := State.answered_pubEnd
    { s.pubReserved h with pub := { s.pub with pins := [pinOf h r.cur] } } p (by omega) (State.noDups_pubReserved ht.unseen)
    stOk r.cur exts.length
  have e := (ht.take (.inr (.inl rfl)) ha nofun).trans
    ((hr.pubReserved.judgeOpen_current s.epoch p hv haddr hrepl hexts hpins).trans eend)
  rw [eend] at hsent
  exact ⟨_, Ends.of_eq (congrArg (fin s) e) rfl, rfl, rfl, rfl, hsent⟩

/-- R112, R114: a CLOSE takes the last pin of the only version back, which stays as the current one. -/
theorem ends_closeLast (ha : s.Admits p (.close p h sl)) (hk : pubKind h = 3) (hvers : r.versions.map (·.1) = [r.cur])
    (hv : pubVer sl = r.cur) (hpins : s.pub.pins = [pinOf h r.cur]) :
    ∃ t, Ends (.close p h sl) s t ∧ t.pool = s.pool ∧ t.pub.regions = s.pub.regions ∧ t.pub.pins = [] ∧
      s.Sends t p.val (pubAnswer s h stOk r.cur 0) := by
  obtain ⟨⟨ps, rc, eend⟩, hsent⟩ := State.answered_pubEnd { s.pubReserved h with pub := { s.pub with pins := [] } } p (by omega)
    (State.noDups_pubReserved ht.unseen) stOk r.cur 0
  have hold : State.OldPinned { s.pubReserved h with pub := { s.pub with pins := [] }, ports := ps, rc := rc }
      (pubRegion h % 65536) r := by
    intro v hv
    have hmem := List.mem_map_of_mem (f := (·.1)) hv
    rw [hvers] at hmem
    exact .inl (List.mem_singleton.1 hmem)
  have eclose := hr.pubReserved.judgeClose_last s.epoch p (by rw [hv]; exact hpins)
  rw [hv] at eclose
  have e := (ht.take (.inr (.inr rfl)) ha nofun).trans
    (eclose.trans ((congrArg (State.retireRegion · _) eend).trans
      (State.retireRegion_pinned (State.get?_of_region hr.region) hr.alive hold)))
  rw [eend] at hsent
  exact ⟨_, Ends.of_eq (congrArg (fin s) e) rfl, rfl, rfl, rfl, hsent⟩

end

/-- Settles O22. The CLOSE's VERSION and COUNT, the current version and 0, are the model's choice: R106 gives no value for them. -/
theorem regionsVersion : Obligations.RegionsVersion := by
  intro s p h sl r htrunk hdst hpub hruns hhome hregion halive hidle htenant hshape hincarn hunseen hroom
  have ht : s.TakesPub p h sl := ⟨htrunk, hdst, hpub, hruns, hhome, hshape, hincarn, hunseen, hroom⟩
  have hr : s.OpenRegion h sl r := ⟨hregion, hidle, halive, htenant.symm⟩
  refine ⟨?conflict, ?publish, ?openCurrent, ?close⟩
  case conflict => exact fun ha hk hw hv => ends_publishConflict ht hr ha hk hw hv
  case publish =>
    exact fun ha hk hw hv hn hes hretain hrep hdir htxns hpin =>
      ends_publishInline ht hr ha hk hw hv hn hes hretain hrep hdir htxns hpin
  case openCurrent => exact fun _ ha hk hv haddr hrepl hexts hpins => ends_openCurrent ht hr ha hk hv haddr hrepl hexts hpins
  case close => exact fun ha hk hvers hv hpins => ends_closeLast ht hr ha hk hvers hv hpins

end Sys2Proof.Machine

namespace Sys2Proof.Machine

/-! ### The registers of PUB (spec 05 R101, R114) -/

def pubCmdDef : RegDef := { blk := some .pub, off := 0x108, n := 1, stride := 4, pair := 0, flds := [rw 1 0 0x0, w1s 2 2 0x0] }

theorem regDefAt_pubCmd : regDefAt ⟨.pub, 0⟩ 0x108 = some pubCmdDef := rfl

def pubRingTailDef : RegDef := { blk := some .pub, off := 0x128, n := 1, stride := 4, pair := 0, flds := [rw 19 0 0x0] }

theorem regDefAt_pubRingTail : regDefAt ⟨.pub, 0⟩ 0x128 = some pubRingTailDef := rfl

/-- The state in which a written PUB_CMD has stored its fields. -/
def State.pubCmdWritten (s : State) (v : Nat) : State :=
  s.setReg PUB_CMD_GO.addr (storeFields pubCmdDef false (s.reg PUB_CMD_GO.addr) v)

/-- The state in which a written PUB_RING_TAIL has stored its field. -/
def State.ringTailWritten (s : State) (v : Nat) : State :=
  s.setReg PUB_RING_TAIL_TAIL.addr (storeFields pubRingTailDef false (s.reg PUB_RING_TAIL_TAIL.addr) v)

/-- A write of PUB_CMD leaves the other registers. -/
theorem State.rd_pubCmdWritten (s : State) (v : Nat) (f : BlockField) (hf : PUB_CMD_GO.addr ≠ f.ref.at ⟨f.blk, 0⟩) :
    (s.pubCmdWritten v).rd f = s.rd f := by
  rw [State.rd, State.pubCmdWritten, State.reg_setReg_ne _ _ _ _ hf, State.rd]

theorem State.rd_ringTailWritten (s : State) (n : BitVec 20) : (s.ringTailWritten n.toNat).rd PUB_RING_TAIL_TAIL = n.toNat := by
  have hstored : bits ((s.ringTailWritten n.toNat).reg PUB_RING_TAIL_TAIL.addr) 19 0 = bits n.toNat 19 0 := by
    rw [State.ringTailWritten, State.reg_setReg, bits_mod _ _ _ _ (by decide)]
    exact bits_storeFields pubRingTailDef false _ _ (by decide) (rw 19 0 0x0) List.mem_cons_self
  refine hstored.trans ?_
  simp only [bits, Nat.shiftRight_zero]
  exact Nat.mod_eq_of_lt n.isLt

theorem State.rd_pubResult (s : State) {v : Nat} (hv : v < 2 ^ 16) : (s.set PUB_STAT_RESULT v).rd PUB_STAT_RESULT = v := by
  rw [State.rd_set _ _ _ _ _ (by decide) (by decide)]
  exact Nat.mod_eq_of_lt hv

/-- PUB_CMD.GO written with 1 runs the written OP. -/
theorem State.command_pubCmd {s : State} {path : Path} (h : s.Takes path ⟨.pub, 0⟩) {v : Nat} (hgo : bit v 2 = true) :
    s.command path PUB_CMD_GO.addr v = (s.pubCmdWritten v).pubCmd (bits v 1 0) := by
  refine (s.command_plain path ⟨.pub, 0⟩ pubCmdDef .pub 0x108 v h (by decide) (by decide) regDefAt_pubCmd rfl (by decide)
    rfl rfl rfl rfl).trans ?_
  change (if bit v 2 then (s.pubCmdWritten v).pubCmd (bits v 1 0) else _) = _
  rw [if_pos hgo]

theorem State.command_pubRingTail {s : State} {path : Path} (h : s.Takes path ⟨.pub, 0⟩) (v : Nat) :
    s.command path PUB_RING_TAIL_TAIL.addr v = (s.ringTailWritten v).retireAll :=
  s.command_plain path ⟨.pub, 0⟩ pubRingTailDef .pub 0x128 v h (by decide) (by decide) regDefAt_pubRingTail rfl (by decide)
    rfl rfl rfl rfl

/-! ### CREATE and DESTROY (spec 05 R101, R115) -/

/-- The region ID of PUB_CMD_REGION is one of this device's. -/
abbrev State.CmdOwn (s : State) : Prop :=
  bits (s.rd PUB_CMD_REGION_REGION) 31 20 = s.rd DEV_ID_DEVICE_ID ∧ bits (s.rd PUB_CMD_REGION_REGION) 19 16 = 0

/-- The region record at the index of PUB_CMD_REGION. -/
abbrev State.cmdRegion (s : State) : Option Region := Tbl.get? s.pub.regions (s.rd PUB_CMD_REGION_REGION % 65536)

/-- The region that CREATE makes. -/
def State.newRegion (s : State) : Region :=
  { tenant := s.rd PUB_CMD_ARG_TENANT, retain := s.rd PUB_CMD_ARG_RETAIN, rrepl := s.flag PUB_CMD_ARG_RREPL }

/-- The test of PUB_CMD for an ID that is not this device's. -/
theorem State.cmdBad_eq (s : State) : (bits (s.rd PUB_CMD_REGION_REGION) 31 20 != s.rd DEV_ID_DEVICE_ID ||
    bits (s.rd PUB_CMD_REGION_REGION) 19 16 != 0) = !decide s.CmdOwn := by
  rw [Bool.decide_and, Bool.not_and]
  rfl

theorem State.pubCmd_create_free {s : State} (hown : s.CmdOwn) (hfree : s.cmdRegion = none) :
    s.pubCmd 1 = (s.set PUB_STAT_RESULT rcOk).setRegion (s.rd PUB_CMD_REGION_REGION % 65536) s.newRegion := by
  simp only [State.pubCmd, s.cmdBad_eq, hfree, decide_eq_true hown, Bool.not_true, Bool.false_eq_true, if_false, State.newRegion]

theorem State.pubCmd_create_used {s : State} {r : Region} (hown : s.CmdOwn) (hr : s.cmdRegion = some r) :
    s.pubCmd 1 = s.set PUB_STAT_RESULT rcOverlap := by
  simp only [State.pubCmd, s.cmdBad_eq, hr, decide_eq_true hown, Bool.not_true, Bool.false_eq_true, if_false]

theorem State.pubCmd_destroy_free {s : State} (hown : s.CmdOwn) (hfree : s.cmdRegion = none) :
    s.pubCmd 2 = s.set PUB_STAT_RESULT rcDependency := by
  simp only [State.pubCmd, s.cmdBad_eq, hfree, decide_eq_true hown, Bool.not_true, Bool.false_eq_true, if_false]

/-- DESTROY of a region without versions, publication or waiters forgets it at once. -/
theorem State.pubCmd_destroy_empty {s : State} {r : Region} (hown : s.CmdOwn) (hr : s.cmdRegion = some r) (hv : r.versions = [])
    (hrun : r.running = none) (hw : r.waiting = []) :
    ∃ g, Tbl.get? g (s.rd PUB_CMD_REGION_REGION % 65536) = none ∧
      s.pubCmd 2 = (s.set PUB_STAT_RESULT rcOk).withRegions g := by
  have hmarked : s.pubCmd 2 = ((s.set PUB_STAT_RESULT rcOk).setRegion (s.rd PUB_CMD_REGION_REGION % 65536)
      { r with closing := true }).retireRegion (s.rd PUB_CMD_REGION_REGION % 65536) := by
    simp only [State.pubCmd, s.cmdBad_eq, hr, decide_eq_true hown, Bool.not_true, Bool.false_eq_true, if_false]
  exact ⟨_, (Tbl.get?_del _ _ _).trans (if_pos rfl), hmarked.trans
    (State.retireRegion_empty (State.region_setRegion _ _ { r with closing := true }) rfl hv hrun hw)⟩

/-- CREATE and DESTROY of another device's region are refused, whether the index is in use or free. -/
theorem State.pubCmd_foreign {s : State} (hown : ¬ s.CmdOwn) {op : Nat} (hop : op = 1 ∨ op = 2) :
    s.pubCmd op = s.set PUB_STAT_RESULT rcFieldRange := by
  rcases hop with rfl | rfl <;> cases hr : s.cmdRegion <;>
    simp only [State.pubCmd, s.cmdBad_eq, hr, decide_eq_false hown, Bool.not_false, if_true]

/-- The region ID of PUB_CMD_REGION is as before in the state in which PUB_CMD is written. -/
theorem State.rd_pubCmdWritten_region (s : State) (v : Nat) :
    (s.pubCmdWritten v).rd PUB_CMD_REGION_REGION = s.rd PUB_CMD_REGION_REGION :=
  s.rd_pubCmdWritten v _ (by decide)

theorem State.cmdOwn_pubCmdWritten (s : State) (v : Nat) : (s.pubCmdWritten v).CmdOwn ↔ s.CmdOwn := by
  rw [State.CmdOwn, s.rd_pubCmdWritten_region, s.rd_pubCmdWritten v DEV_ID_DEVICE_ID (by decide)]

theorem State.cmdRegion_pubCmdWritten (s : State) (v : Nat) : (s.pubCmdWritten v).cmdRegion = s.cmdRegion := by
  rw [State.cmdRegion, s.rd_pubCmdWritten_region]
  rfl

/-- Without regions nothing retires; the flag of a full ring falls with its cause. -/
theorem State.retireAll_none {s : State} (hnone : s.pub.regions = []) :
    s.retireAll = if s.ringFull then s else s.set PUB_STAT_RING_FULL 0 := by
  have hset : s.setRingFull false = s.set PUB_STAT_RING_FULL 0 := rfl
  cases hf : s.ringFull <;> simp [State.retireAll, hf, hset, hnone]

section
variable {s : State} {path : Path} (h : s.Takes path ⟨.pub, 0⟩)
include h

/-- A PUB_CMD that only gives a RESULT. -/
theorem ends_pubCmd_result {c : Instr} {v code : Nat} (hc : exec c s = fin s (s.command path PUB_CMD_GO.addr v))
    (hgo : bit v 2 = true) (hcode : code < 2 ^ 16)
    (hcmd : (s.pubCmdWritten v).pubCmd (bits v 1 0) = (s.pubCmdWritten v).set PUB_STAT_RESULT code) :
    ∃ t, Ends c s t ∧ t = { s with regs := t.regs } ∧ t.rd PUB_STAT_RESULT = code :=
  ⟨_, Ends.of_eq (hc.trans (congrArg (fin s) ((State.command_pubCmd h hgo).trans hcmd))) rfl, rfl, State.rd_pubResult _ hcode⟩

/-- R101: CREATE makes a region of a free index with version 0. -/
theorem ends_pubCreate_free (hown : s.CmdOwn) (hfree : s.cmdRegion = none) :
    ∃ t r, Ends (.pubCreate path) s t ∧ t = { s with regs := t.regs, pub := t.pub } ∧ t.rd PUB_STAT_RESULT = rcOk ∧
      Tbl.get? t.pub.regions (s.rd PUB_CMD_REGION_REGION % 65536) = some r ∧ r.tenant = s.rd PUB_CMD_ARG_TENANT ∧
      r.retain = s.rd PUB_CMD_ARG_RETAIN ∧ r.cur = 0 ∧ r.versions = [] ∧ r.closing = false := by
  have hcmd := State.pubCmd_create_free ((s.cmdOwn_pubCmdWritten 5).2 hown) ((s.cmdRegion_pubCmdWritten 5).trans hfree)
  rw [s.rd_pubCmdWritten_region] at hcmd
  exact ⟨_, _, Ends.of_eq (congrArg (fin s) ((State.command_pubCmd h rfl).trans hcmd)) rfl, rfl,
    State.rd_pubResult (s.pubCmdWritten 5) (by decide), State.region_setRegion _ _ _, s.rd_pubCmdWritten 5 PUB_CMD_ARG_TENANT (by decide),
    s.rd_pubCmdWritten 5 PUB_CMD_ARG_RETAIN (by decide), rfl, rfl, rfl⟩

/-- R115: DESTROY ends an empty region. -/
theorem ends_pubDestroy_empty {r : Region} (hown : s.CmdOwn) (hr : s.cmdRegion = some r) (hv : r.versions = [])
    (hrun : r.running = none) (hw : r.waiting = []) :
    ∃ t, Ends (.pubDestroy path) s t ∧ t = { s with regs := t.regs, pub := t.pub } ∧ t.rd PUB_STAT_RESULT = rcOk ∧
      Tbl.get? t.pub.regions (s.rd PUB_CMD_REGION_REGION % 65536) = none := by
  obtain ⟨g, hg, hcmd⟩ := State.pubCmd_destroy_empty ((s.cmdOwn_pubCmdWritten 6).2 hown) ((s.cmdRegion_pubCmdWritten 6).trans hr)
    hv hrun hw
  rw [s.rd_pubCmdWritten_region] at hg
  exact ⟨_, Ends.of_eq (congrArg (fin s) ((State.command_pubCmd h rfl).trans hcmd)) rfl, rfl,
    State.rd_pubResult (s.pubCmdWritten 6) (by decide), hg⟩

/-- R101, R115: CREATE of an index in use and DESTROY of a free one are refused. -/
theorem ends_pubCreate_used {r : Region} (hown : s.CmdOwn) (hr : s.cmdRegion = some r) :
    ∃ t, Ends (.pubCreate path) s t ∧ t = { s with regs := t.regs } ∧ t.rd PUB_STAT_RESULT = rcOverlap :=
  ends_pubCmd_result h (v := 5) rfl rfl (by decide)
    (State.pubCmd_create_used ((s.cmdOwn_pubCmdWritten 5).2 hown) ((s.cmdRegion_pubCmdWritten 5).trans hr))

theorem ends_pubDestroy_free (hown : s.CmdOwn) (hfree : s.cmdRegion = none) :
    ∃ t, Ends (.pubDestroy path) s t ∧ t = { s with regs := t.regs } ∧ t.rd PUB_STAT_RESULT = rcDependency :=
  ends_pubCmd_result h (v := 6) rfl rfl (by decide)
    (State.pubCmd_destroy_free ((s.cmdOwn_pubCmdWritten 6).2 hown) ((s.cmdRegion_pubCmdWritten 6).trans hfree))

/-- R101: a region ID that is not this device's is refused. -/
theorem ends_pubCmd_foreign (hown : ¬ s.CmdOwn) : ∃ t u, Ends (.pubCreate path) s t ∧ t = { s with regs := t.regs } ∧
    t.rd PUB_STAT_RESULT = rcFieldRange ∧ Ends (.pubDestroy path) s u ∧ u = { s with regs := u.regs } ∧
    u.rd PUB_STAT_RESULT = rcFieldRange := by
  obtain ⟨t, ht⟩ := ends_pubCmd_result h (c := .pubCreate path) (v := 5) rfl rfl (by decide)
    (State.pubCmd_foreign (fun hw => hown ((s.cmdOwn_pubCmdWritten 5).1 hw)) (.inl rfl))
  obtain ⟨u, hu⟩ := ends_pubCmd_result h (c := .pubDestroy path) (v := 6) rfl rfl (by decide)
    (State.pubCmd_foreign (fun hw => hown ((s.cmdOwn_pubCmdWritten 6).1 hw)) (.inr rfl))
  obtain ⟨hends, hframe, hres⟩ := ht
  exact ⟨t, u, hends, hframe, hres, hu⟩

/-- R114: ring space freed, without a region that waits for it. -/
theorem ends_pubRingTail (n : BitVec 20) (hnone : s.pub.regions = []) : ∃ t, Ends (.pubRingTail path n) s t ∧
    t.rd PUB_RING_TAIL_TAIL = n.toNat ∧ t.pub = s.pub ∧ t.pool = s.pool ∧ t.home = s.home := by
  have e := (State.command_pubRingTail h n.toNat).trans (State.retireAll_none (s := s.ringTailWritten n.toNat) hnone)
  cases hf : (s.ringTailWritten n.toNat).ringFull <;> rw [hf] at e
  case false =>
    exact ⟨_, Ends.of_eq (congrArg (fin s) e) rfl,
      (State.rd_set_reg _ _ _ _ _ _ _ _ (by decide)).trans (s.rd_ringTailWritten n), rfl, rfl, rfl⟩
  case true => exact ⟨_, Ends.of_eq (congrArg (fin s) e) rfl, s.rd_ringTailWritten n, rfl, rfl, rfl⟩

end

end Sys2Proof.Machine

namespace Sys2Proof.Machine

/-! ### RGN_INV again, and the list of a PUBLISH (spec 05 R107, R117) -/

/-- R117: an RGN_INV that is not acknowledged is sent again. -/
theorem ends_rgnInvRetransmit {s : State} {id : Word} {r : Region} {f : Feid} {q : Nat} (hr : s.region id.toNat = some r)
    (hf : r.invWait = [f]) (hq : s.portOfFeid f = some q) : ∃ t, Ends (.rgnInvRetransmit id) s t ∧ t = { s with ports := t.ports } ∧
      s.Sends t q (.yd 0x0C (s.ownHdr f 0 (0x12 + id.toNat * 2 ^ 16 + s.rd LIVE_INCARN_INCARN * 2 ^ 48)) [0]) := by
  have e : s.rgnAgain id.toNat = s.sendQ q 1
      (.yd 0x0C (s.ownHdr f 0 (0x12 + id.toNat * 2 ^ 16 + s.rd LIVE_INCARN_INCARN * 2 ^ 48)) [0]) := by
    simp only [State.rgnAgain, hr, hf, List.foldl_cons, List.foldl_nil]
    exact State.sendYdQ_port hq _ _
  exact ⟨_, Ends.of_eq (congrArg (fin s) e) rfl, rfl, _, rfl, s.egress_sendQ q 1 _⟩

theorem pubAnswer_publish {s : State} {h : Hdr} (hk : pubKind h = 1) (st : Byte) (ver count : Nat) : pubAnswer s h st ver count =
    .yd 0x0D (replyHdr s h (pubRspArg 1 st (pubRegion h) false false)) [BitVec.ofNat 128 (ver + count * 2 ^ 32)] := by
  rw [pubAnswer, hk]

/-- The state in which no PUBLISH waits for its list. -/
def State.listTaken (s : State) : State := { s with pub := { s.pub with listWait := [] } }

/-- The entries of a PUBLISH's list among those that have come. -/
def listEntries (sl : List Slot) (es : List Word) : List Nat := (es.take (pubCount sl)).map (·.toNat)

section
variable {s : State} {p : PortId} {h : Hdr} {sl : List Slot} {r : Region} (hwait : s.pub.listWait = [(p, h, sl)])
  (hr : s.region (pubRegion h) = some r) (hstage : r.stage = 0) (hclosing : r.closing = false)
include hwait hr hstage hclosing

/-- Row 4 of R107: the only PUBLISH that waits for its list goes on with it. -/
theorem State.listRead_only (es : List Word) (poison : Bool) : s.listRead h.src h.tag es poison =
    if poison && (listEntries sl es).all (s.listable r.tenant (pubRegion h % 65536)) then
      ((s.listTaken.setRegion (pubRegion h % 65536) { r with running := none }).pubEnd p h stPoisoned r.cur 0).retireRegion
        (pubRegion h % 65536)
    else s.listTaken.pubList (pubRegion h % 65536) r p h sl (listEntries sl es) := by
  have hregion : s.listTaken.region (pubRegion h) = some r := hr
  have htaken : ({ s with pub := { s.pub with listWait := [] } } : State) = s.listTaken := rfl
  simp only [State.listRead, hwait, List.find?_singleton, List.filter_cons, List.filter_nil, beq_self_eq_true, Bool.and_self,
    Bool.not_true, Bool.false_eq_true, if_true, if_false, htaken, hregion, hstage, bne_self_eq_false, hclosing]
  rfl

variable (hk : pubKind h = 1) (hdups : s.NoDups h) {es : List Word}
  (hes : (listEntries sl es).all (s.listable r.tenant (pubRegion h % 65536)) = true)
include hk hdups hes

/-- R107, R108: the list that has come makes the next version current. -/
theorem ends_publishListRead (hretain : r.versions.length ≤ r.retain) (hrep : r.replicas = []) (hdir : s.home.dir = [])
    (htxns : s.home.txns = []) (hpin : ∀ v ∈ r.versions, s.pinned (s.regionId (pubRegion h % 65536)) v.1 = true) :
    ∃ t r', Ends (.publishListRead h.src h.tag es false) s t ∧ t.pub.listWait = [] ∧ t.pool = s.pool ∧
      Tbl.get? t.pub.regions (pubRegion h % 65536) = some r' ∧ r'.cur = nextVer r.cur ∧ r'.running = none ∧
      r'.versions = (nextVer r.cur, (listEntries sl es).map (fun e => bits e 17 0)) :: r.versions ∧
      t.tally .pub 0x01 = s.tally .pub 0x01 + 1 ∧
      s.Sends t p.val (pubAnswer s h stOk (nextVer r.cur) (listEntries sl es).length) := by
  obtain ⟨t, elist, hpool, hpend, hlist, hregion, htally, hsent⟩ := State.pubList_published (s := s.listTaken) (p := p) (sl := sl)
    (by omega) hdups hes hretain hrep hdir htxns hclosing hpin
  have e := (State.listRead_only hwait hr hstage hclosing es false).trans elist
  exact ⟨t, _, Ends.of_eq (congrArg (fin s) e) hpend, hlist, hpool, hregion, rfl, rfl, rfl, htally, hsent⟩

/-- R107: a list that comes poisoned ends the PUBLISH POISONED and leaves the version as it was. -/
theorem ends_publishListRead_poisoned (hold : s.OldPinned (pubRegion h % 65536) r) :
    ∃ t, Ends (.publishListRead h.src h.tag es true) s t ∧ t.pub.listWait = [] ∧ t.pool = s.pool ∧
      Tbl.get? t.pub.regions (pubRegion h % 65536) = some { r with running := none } ∧
      s.Sends t p.val (pubAnswer s h stPoisoned r.cur 0) := by
  have e := State.listRead_only hwait hr hstage hclosing es true
  obtain ⟨⟨ps, rc, eend⟩, hsent⟩ := State.answered_pubEnd
    (s.listTaken.setRegion (pubRegion h % 65536) { r with running := none }) p (by omega) hdups stPoisoned r.cur 0
  rw [hes, eend, Bool.and_self, if_pos rfl] at e
  rw [eend] at hsent
  have hregion := State.region_setRegion s.listTaken (pubRegion h % 65536) { r with running := none }
  exact ⟨_, Ends.of_eq (congrArg (fin s) (e.trans (State.retireRegion_pinned hregion hclosing hold))) rfl, rfl, rfl, hregion, hsent⟩

end

/-- Settles O35. The POISONED answer's VERSION and COUNT, the current version and 0, are the model's choice: R106 gives no value for
them. -/
theorem regionCommands : Obligations.RegionCommands := by
  intro s
  refine ⟨?commands, ?ringTail, ?again, ?listRead⟩
  case commands =>
    intro path h
    refine ⟨?free, ?used, ?foreign⟩
    case free => exact fun hown hfree => ⟨ends_pubCreate_free h hown hfree, ends_pubDestroy_free h hown hfree⟩
    case used => exact fun _ hown hr => ⟨ends_pubCreate_used h hown hr, fun hv hrun hw => ends_pubDestroy_empty h hown hr hv hrun hw⟩
    case foreign => exact ends_pubCmd_foreign h
  case ringTail => exact fun _ n h hnone => ends_pubRingTail h n hnone
  case again => exact fun _ _ _ _ hr hf hq => ends_rgnInvRetransmit hr hf hq
  case listRead =>
    intro p h sl r es hwait hk hr hdups hstage hclosing hold
    refine fun hes => ⟨fun hretain hrep hdir htxns hcur => ?_, ?_⟩
    · have hpin : ∀ v ∈ r.versions, s.pinned (s.regionId (pubRegion h % 65536)) v.1 = true := by
        intro v hv
        rcases hold v hv with hv | hv
        · rw [hv]; exact hcur
        · exact hv
      have hends := ends_publishListRead hwait hr hstage hclosing hk hdups hes hretain hrep hdir htxns hpin
      simp only [pubAnswer_publish hk] at hends
      exact hends
    · have hends := ends_publishListRead_poisoned hwait hr hstage hclosing hk hdups hes hold
      simp only [pubAnswer_publish hk] at hends
      exact hends

end Sys2Proof.Machine
